-- ==== Sys2Proof/Word.lean ====
section
/-! DEFINITION. The word types of the part and the index types of its tables (00_scope.md, Fixed quantities). -/

namespace Sys2Proof

abbrev Byte := BitVec 8

/-- Line time L and every deadline: 48 bits, wrapping (R2). -/
abbrev LineTime := BitVec 48

/-- Fine position F and every due position: 40 bits, wrapping (R15). -/
abbrev FinePos := BitVec 40

/-- Camera ports 0-5. -/
abbrev PortIx := Fin 6

/-- Part-present sensors 0-3. -/
abbrev SensorIx := Fin 4

/-- Trigger Plan entries 0-15. -/
abbrev PlanIx := Fin 16

/-- Streams 0-15. -/
abbrev StreamIx := Fin 16

/-- Event groups 0-10 (R184). -/
abbrev GroupIx := Fin 11

end Sys2Proof
end

