-- ==== Sys2Proof/Syntax.lean ====
section
/-! DEFINITION. The commands: one constructor for each row of spec/opcode_table.json.

An operand is what the outside brings with the event (a line level, a camera word, a received cell). A management row has none:
its parameters are the bytes of the request at the head of the request queue (R148, R149). -/

namespace Sys2Proof

inductive Instr where
  /-- POWER_ON: power-on, or the hardware reset input (R20). -/
  | powerOn
  /-- BELT_TICK with the levels of the step line and of the direction line, true for high (R4, R12). -/
  | beltTick (step dir : Bool)
  /-- STALL (R9). -/
  | stall
  /-- TRIGGER_TICK with the levels of the four sensor lines, bit n for sensor n (R22, R37). -/
  | triggerTick (lines : BitVec 4)
  /-- PULSE_END of one port (R37). -/
  | pulseEnd (p : PortIx)
  /-- REARM_GAP_END of one port (R37). -/
  | rearmGapEnd (p : PortIx)
  /-- IDLE_WORD at a port: the word's parity bit and value (R45). -/
  | idleWord (p : PortIx) (parity : Bool) (value : BitVec 16)
  /-- FRAME_START at a port (R51). -/
  | frameStart (p : PortIx) (parity : Bool) (value : BitVec 16)
  /-- LINE_START at a port (R54). -/
  | lineStart (p : PortIx) (parity : Bool) (value : BitVec 16)
  /-- DATA at a port (R53). -/
  | data (p : PortIx) (parity : Bool) (value : BitVec 16)
  /-- FRAME_END at a port (R55). -/
  | frameEnd (p : PortIx) (parity : Bool) (value : BitVec 16)
  /-- A word of undefined kind at a port (R46). -/
  | undefinedKindWord (p : PortIx) (kind : BitVec 3) (parity : Bool) (value : BitVec 16)
  /-- EXPOSURE_EXPIRY on one port's list (R67). -/
  | exposureExpiry (p : PortIx)
  /-- CELL_SLOT (R137). -/
  | cellSlot
  /-- CALENDAR_SWAP (R141). -/
  | calendarSwap
  /-- TRANSMISSION_END (R116). -/
  | transmissionEnd
  /-- HOLD_EXPIRY (R130). -/
  | holdExpiry
  /-- DELIMITER_FOUND, with whether light is present (R124, R128). -/
  | delimiterFound (light : Bool)
  /-- LOSS_OF_LIGHT (R128). -/
  | lossOfLight
  /-- BAD_CELL: the 64 bytes received (R125). -/
  | badCell (cell : List Byte)
  /-- IDLE_CELL: the 64 bytes received (R117). -/
  | idleCell (cell : List Byte)
  /-- HOLD: the 64 bytes received (R129). -/
  | hold (cell : List Byte)
  /-- RESUME: the 64 bytes received (R129). -/
  | resume (cell : List Byte)
  /-- MGMT_REQ: the 64 bytes received (R148). -/
  | mgmtReq (cell : List Byte)
  /-- BAD_OP: the head request has an unknown operation code (R152). -/
  | badOp
  /-- READ (R153). -/
  | read
  /-- WRITE to a table without behaviour of its own (R154). -/
  | write
  /-- WRITE to BELT (R18). -/
  | writeBelt
  /-- WRITE to TRIGGER (R21). -/
  | writeTrigger
  /-- WRITE to SENSOR (R23). -/
  | writeSensor
  /-- WRITE to PORT (R61). -/
  | writePort
  /-- WRITE to RELAY (R155). -/
  | writeRelay
  /-- WRITE to EVENT (R157). -/
  | writeEvent
  /-- WRITE_CAL (R142). -/
  | writeCal
  /-- READ_COUNTERS (R159). -/
  | readCounters
  /-- CLEAR_EVENTS (R160). -/
  | clearEvents
  /-- STREAM_CMD OPEN (R105). -/
  | openStream
  /-- STREAM_CMD CLOSE (R106). -/
  | closeStream
  /-- STREAM_CMD FLUSH (R107). -/
  | flushStream
  /-- PORT_CMD ENABLE (R59). -/
  | enablePort
  /-- PORT_CMD DISABLE (R60). -/
  | disablePort
  /-- CAL_SWAP (R144). -/
  | calSwap
  /-- SET_LEVEL (R193). -/
  | setLevel
  /-- BELT_PRESET (R17). -/
  | beltPreset
  /-- RELAY (R161). -/
  | relay
  /-- STATUS (R162). -/
  | status
  /-- SOFT_RESET (R163). -/
  | softReset
  /-- SOFT_RESET_CARRIED_OUT (R164). -/
  | softResetCarriedOut
  /-- RELAY_ENGINE_TAKE (R168). -/
  | relayEngineTake
  /-- RELAY_TICK: what the camera end leaves on the clock and data wires of the connected port, true for released (R169). -/
  | relayTick (clk dat : Bool)
  /-- DEFER_TIMEOUT (R170). -/
  | deferTimeout
  /-- STALL_TIMEOUT (R178). -/
  | stallTimeout
  /-- RELAY_RESULT (R151). -/
  | relayResult
  /-- SETTLE_EXPIRY (R194). -/
  | settleExpiry
  /-- DRAIN_COMPLETE (R195). -/
  | drainComplete
  /-- DRAIN_EXPIRY, with the order in which the ports take the forcing (R195). -/
  | drainExpiry (order : List PortIx)
  /-- SHUTTING_END, with the order in which the ports go OFF (R196). -/
  | shuttingEnd (order : List PortIx)
  /-- REFERENCE_CLOCK_PERIOD (R2). -/
  | referenceClockPeriod
  deriving DecidableEq, Repr

end Sys2Proof
end

