-- ==== Sys2Proof/Decode.lean ====
section
/-! DEFINITION. Words and commands: the command of a 20-bit camera word (R45), and the table's own words, of which there are none ("fields" is
empty in every row of spec/opcode_table.json). -/

namespace Sys2Proof

/-! ### Camera words (R45) -/

/-- The parity bit of a camera word, bit 19 (R45). -/
def wordParity (w : BitVec 20) : Bool := w.getLsbD 19

/-- The kind of a camera word, bits 18-16 (R45). -/
def wordKind (w : BitVec 20) : BitVec 3 := w.extractLsb' 16 3

/-- The value of a camera word, bits 15-0 (R45). -/
def wordValue (w : BitVec 20) : BitVec 16 := w.extractLsb' 0 16

/-- The command of a camera word at port `p`: its kind picks the row, and its parity bit and value are the operands (R45, R46). -/
def cameraCommand (p : PortIx) (w : BitVec 20) : Instr :=
  match (wordKind w).toNat with
  | 0 => .idleWord p (wordParity w) (wordValue w)
  | 1 => .frameStart p (wordParity w) (wordValue w)
  | 2 => .lineStart p (wordParity w) (wordValue w)
  | 3 => .data p (wordParity w) (wordValue w)
  | 4 => .frameEnd p (wordParity w) (wordValue w)
  | _ => .undefinedKindWord p (wordKind w) (wordParity w) (wordValue w)

/-! ### The table's words -/

/-- The command that a word spells by the table's bits: none, for every word. -/
def decodeTableWord (_nbits _w : Nat) : Option Instr := none

end Sys2Proof
end

