-- ==== Sys2Proof/Config.lean ====
section
/-! DEFINITION. The quantities fixed in the part (00_scope.md, Fixed quantities). Nothing here is open: the spec gives every value. -/

namespace Sys2Proof.Config

/-- Cells of the buffer, indices 0 to 3FFFFH (R88). -/
def numCells : Nat := 262144

/-- Cells of record room that an admission leaves beyond all reservations (R91). -/
def recordRoom : Nat := 256

/-- Payload bytes of a cell (R113). -/
def payloadBytes : Nat := 56

/-- DATA words of a full cell (R95). -/
def wordsPerCell : Nat := 28

/-- Entries of the Trigger Queue (R31). -/
def trigQueueMax : Nat := 64

/-- Exposures of one Exposure List (R65). -/
def exposureMax : Nat := 8

/-- Requests of the management request queue (R148). -/
def requestMax : Nat := 8

/-- Response positions of the management output queue (R150). -/
def responseMax : Nat := 15

/-- Requests of the relay queue (R167). -/
def relayMax : Nat := 4

/-- Reference periods in a millisecond (R170, R192). -/
def periodsPerMs : Nat := 100000

/-- Reference periods in one unit of ExposureTimeout (R64). -/
def periodsPerTimeoutUnit : Nat := 1000

/-- Cell slots in one unit of HoldLimit (R129). -/
def slotsPerHoldUnit : Nat := 1024

/-- Good cells that take the receiver from VERIFY to SYNC (R126). -/
def goodRunToSync : Nat := 16

/-- Consecutive bad cells that take the receiver out of SYNC (R127). -/
def badRunToSearch : Nat := 4

/-- The value the interval counter is loaded with, 16,777,215 (R8). -/
def intervalLoad : BitVec 24 := 0xFFFFFF#24

end Sys2Proof.Config
end

