-- ==== Sys2Proof/Machine/State.lean ====
section
/-! DEFINITION. The state of the part, block by block (00_scope.md, Block overview), as plain data, and its value after power-on.
Every field is listed in INVENTORY.md under State with the rule that names it. -/

namespace Sys2Proof.Machine

/-! ### BPT -/

/-- An input filter: the accepted level (true for high) and the run count (R4). -/
structure Filter where
  level : Bool
  run : Nat
  deriving DecidableEq, Repr

/-- A tick prescaler: the reference periods counted, and whether the last period gave a tick (R1). -/
structure Prescaler where
  count : Nat
  tick : Bool
  deriving DecidableEq, Repr

/-- Direction polarity (R7, R18). -/
inductive DirPolarity where
  | forwardHigh
  | forwardLow
  deriving DecidableEq, Repr

/-- The last edge direction (R7). -/
inductive EdgeDir where
  | none
  | forward
  | reverse
  deriving DecidableEq, Repr

/-- Belt Position Tracker (R20). -/
structure Bpt where
  tickCode : Nat
  stepDepth : Nat
  dirDepth : Nat
  polarity : DirPolarity
  stepFilter : Filter
  dirFilter : Filter
  p : BitVec 32
  fraction : BitVec 8
  intervalValid : Bool
  lastInterval : BitVec 24
  lastDir : EdgeDir
  interval : BitVec 24
  lineTime : LineTime
  forwardEdges : BitVec 32
  reverseEdges : BitVec 32
  stalls : BitVec 32
  beltPre : Prescaler
  trigPre : Prescaler
  relayPre : Prescaler
  deriving DecidableEq, Repr

/-! ### TRQ -/

/-- A sensor's active transition (R23). -/
inductive Transition where
  | rising
  | falling
  deriving DecidableEq, Repr

/-- A sensor: its SENSOR entry, its filter, and its lockout state (`some f`: the flag is set and F_last is f; R26). -/
structure Sensor where
  enabled : Bool
  depth : Nat
  transition : Transition
  lockout : BitVec 24
  filter : Filter
  lastReg : Option FinePos
  deriving DecidableEq, Repr

/-- A Trigger Plan entry (R29). -/
structure PlanEntry where
  enabled : Bool
  sensor : SensorIx
  port : PortIx
  offset : BitVec 32
  stream : StreamIx
  width : BitVec 16
  tag : Byte
  deriving DecidableEq, Repr

/-- A Trigger Queue entry (R30). -/
structure TrigEntry where
  part : BitVec 32
  plan : PlanIx
  tag : Byte
  port : PortIx
  stream : StreamIx
  width : BitVec 16
  due : FinePos
  regF : FinePos
  deriving DecidableEq, Repr

/-- A port's trigger stage: pulse length counter, rearm gap counter, trigger count, and the level of the trigger output (R36, R37). -/
structure Stage where
  pulse : BitVec 16
  gap : BitVec 16
  count : BitVec 8
  out : Bool
  deriving DecidableEq, Repr

/-- Trigger Queue unit (R44). -/
structure Trq where
  tickCode : Nat
  sensors : Vector Sensor 4
  plan : Vector PlanEntry 16
  partCounter : BitVec 32
  queue : List TrigEntry
  stages : Vector Stage 6
  partsRegistered : BitVec 32
  lockoutEdges : BitVec 32
  reverseSensorEdges : BitVec 32
  triggersFired : BitVec 32
  triggersFailed : BitVec 32
  deriving DecidableEq, Repr

/-! ### XCR and CPR -/

/-- An exposure (R64). -/
structure Exposure where
  part : BitVec 32
  plan : PlanIx
  tag : Byte
  stream : StreamIx
  fireF : FinePos
  fireL : LineTime
  count : BitVec 8
  deadline : LineTime
  deriving DecidableEq, Repr

/-- Exposure Correlator: one Exposure List for each port, the oldest exposure first (R65). -/
structure Xcr where
  lists : Vector (List Exposure) 6
  deriving DecidableEq, Repr

/-- An assembly cell: the buffer cell being filled and the words in it (R95). -/
structure Assembly where
  index : Nat
  words : Nat
  deriving DecidableEq, Repr

/-- A frame context (R50). `committed` says whether a cell of the frame has been committed (R95). -/
structure FrameCtx where
  exposure : Option Exposure
  stream : StreamIx
  frameNo : BitVec 8
  camCount : BitVec 8
  format : BitVec 8
  startL : LineTime
  endL : Option LineTime
  remaining : Nat
  received : BitVec 32
  forwarded : BitVec 32
  lines : BitVec 16
  computed : BitVec 16
  rxChecksum : BitVec 16
  parity : Bool
  checksumBad : Bool
  aborted : Bool
  truncated : Bool
  assembly : Option Assembly
  committed : Bool
  deriving DecidableEq, Repr

/-- The level that is a port's active trigger level (R36, R61). -/
inductive TrigPolarity where
  | activeHigh
  | activeLow
  deriving DecidableEq, Repr

/-- Port states (R47). -/
inductive PortState where
  | off
  | idle
  | inFrame
  | discarding
  deriving DecidableEq, Repr

/-- A Camera Port Receiver: its PORT entry, its state and frame context, and its counters (R61-R63). -/
structure Port where
  polarity : TrigPolarity
  rearmGap : BitVec 16
  exposureTimeout : BitVec 16
  defaultStream : StreamIx
  orphanForward : Bool
  seqCheck : Bool
  enabled : Bool
  state : PortState
  frame : Option FrameCtx
  frames : BitVec 32
  parityErrors : BitVec 32
  framingErrors : BitVec 32
  checksumErrors : BitVec 32
  orphans : BitVec 32
  missing : BitVec 32
  deriving DecidableEq, Repr

/-! ### CBM -/

/-- A run of consecutive cell indices of the free list. -/
structure Run where
  start : Nat
  len : Nat
  deriving DecidableEq, Repr

/-- Kinds of a buffer cell (R88). -/
inductive CellKind where
  | dataFirst
  | dataMid
  | dataLast
  | dataOnly
  | capture
  | missing
  deriving DecidableEq, Repr

/-- A cell in a stream queue: its index and its companions (R88). -/
structure QCell where
  index : Nat
  kind : CellKind
  len : Nat
  frameNo : BitVec 8
  closing : Bool
  deriving DecidableEq, Repr

/-- Stream states (R103). -/
inductive StreamState where
  | closed
  | opened
  | draining
  deriving DecidableEq, Repr

/-- A stream: its configuration, runtime state and counters (R103, R110, R111). -/
structure Stream where
  boundPort : PortIx
  reservation : BitVec 16
  maxHeld : BitVec 8
  spare : Bool
  state : StreamState
  queue : List QCell
  framesHeld : Nat
  seq : BitVec 16
  frameCounter : BitVec 8
  inProgress : Bool
  openTx : Bool
  openTxNo : BitVec 8
  cellsSent : BitVec 32
  framesAdmitted : BitVec 32
  framesRejected : BitVec 32
  recordsLost : BitVec 32
  deriving DecidableEq, Repr

/-- Cell Buffer Manager (R112). `mem` holds the DRAM bytes that are not 0, by rising address; `free` is the free list as runs. -/
structure Cbm where
  mem : List Host.Cell
  free : List Run
  reserved : Nat
  streams : Vector Stream 16
  deriving DecidableEq, Repr

/-! ### FLK and SCD -/

/-- Receiver states (R124). -/
inductive RxState where
  | search
  | verify
  | sync
  deriving DecidableEq, Repr

/-- Who owns the cell in transmission (R116). A response says whether it is the reset response (R163); an event cell says whether
EVU still acts on its end (R191). -/
inductive TxOwner where
  | idle
  | stream (index : Nat)
  | response (isReset : Bool)
  | event (live : Bool)
  deriving DecidableEq, Repr

/-- The cell in transmission: its owner and its 64 bytes. -/
structure TxCell where
  owner : TxOwner
  bytes : List Byte
  deriving DecidableEq, Repr

/-- Fibre Link (R135). `expiryDue`: the slot has ended at which the hold timer runs out, and the hold expiry is to be taken (log 25). -/
structure Flk where
  rx : RxState
  goodRun : Nat
  badRun : Nat
  held : Bool
  timer : Nat
  expiryDue : Bool
  holdLimit : BitVec 8
  tx : Option TxCell
  badCells : BitVec 32
  resyncs : BitVec 32
  holds : BitVec 32
  deriving DecidableEq, Repr

/-- A calendar slot (R136). -/
inductive Slot where
  | stream (s : StreamIx)
  | mgmt
  | none
  deriving DecidableEq, Repr

/-- Slot Calendar scheduler (R147). -/
structure Scd where
  active : Vector Slot 256
  shadow : Vector Slot 256
  slotPtr : Fin 256
  sparePtr : StreamIx
  swapPending : Bool
  deriving DecidableEq, Repr

/-! ### MGE, CCR, EVU, LVC -/

/-- A cell of the management output queue, by its meaningful payload bytes (R150). -/
inductive OutCell where
  | response (isReset : Bool) (payload : List Byte)
  | event (payload : List Byte)
  deriving DecidableEq, Repr

/-- Management Engine (R166). `resetDue`: an event of R164 has been taken and the soft reset is to be carried out. -/
structure Mge where
  requests : List (List Byte)
  output : List OutCell
  resetPending : Bool
  resetDue : Bool
  dropped : BitVec 32
  deriving DecidableEq, Repr

/-- The port of a relay request (R161). -/
inductive RelayPort where
  | one (p : PortIx)
  | all
  deriving DecidableEq, Repr

/-- A relay request (R167). -/
structure RelayReq where
  tag : Byte
  port : RelayPort
  addr : BitVec 7
  bytes : List Byte
  readCount : Nat
  deferred : Bool
  aborted : Bool
  deriving DecidableEq, Repr

/-- The relay timing of the RELAY table (R155). -/
structure RelayTiming where
  lowLen : Nat
  highLen : Nat
  stallLimit : BitVec 16
  busFreeWait : BitVec 16
  deferLimit : BitVec 8
  deriving DecidableEq, Repr

/-- The phases in which a camera may hold the clock, with the detail codes 1 to 6 (R123, R178). -/
inductive StallPhase where
  | start
  | address
  | write
  | restart
  | read
  | stop
  deriving DecidableEq, Repr

/-- Relay results (R180, R181). -/
inductive RelayResult where
  | done
  | addrNack
  | dataNack (index : Nat)
  | stallTimeout (phase : StallPhase)
  | lineBusy
  | lineFault
  | deferTimeout
  | aborted
  | notAttempted
  deriving DecidableEq, Repr

/-- States of the relay engine but IDLE (R168). -/
inductive RelayPhase where
  | deferring
  | lineCheck
  | start
  | address
  | write
  | restart
  | read
  | stop
  | report
  deriving DecidableEq, Repr

/-- The transaction in the relay engine.
`port` is the connected port, `deadline` the defer deadline (R170), `freeTicks` the count of R171, `second` says that the address
byte is the one after RESTART (R175), `byteIx` and `bitIx` the place in the bytes of the phase, `lowTicks` and `highTicks` the ticks of
the bit period in progress (R169), `holdStep` the last step of RESTART, `holdCount` the holding count (R178), `rxBits` and `rxBytes` what has
been read (R176), `result` the recorded result, `outcomes` those of a broadcast so far, `abortRest` that the ports not yet come to
receive ABORTED (R182). -/
structure Txn where
  phase : RelayPhase
  req : RelayReq
  timing : RelayTiming
  port : PortIx
  deadline : LineTime
  freeTicks : Nat
  second : Bool
  byteIx : Nat
  bitIx : Nat
  lowTicks : Nat
  highTicks : Nat
  holdStep : Bool
  holdCount : Nat
  rxBits : List Bool
  rxBytes : List Byte
  result : RelayResult
  outcomes : List RelayResult
  abortRest : Bool
  deriving DecidableEq, Repr

/-- What the part drives on one control line: clock low, data low (R169). -/
structure Wires where
  clkLow : Bool
  datLow : Bool
  deriving DecidableEq, Repr

/-- Camera Control Relay (R183). `engine = none` is the state IDLE. -/
structure Ccr where
  tickCode : Nat
  timing : RelayTiming
  queue : List RelayReq
  engine : Option Txn
  wires : Vector Wires 6
  deriving DecidableEq, Repr

/-- Event Unit (R191). -/
structure Evu where
  factors : Vector (BitVec 8) 11
  enables : Vector (BitVec 8) 11
  notice : Vector Bool 11
  reported : Vector Bool 11
  eventPending : Bool
  deriving DecidableEq, Repr

/-- Operating levels, settled and transitional (R192). -/
inductive Level where
  | listen
  | standby
  | run
  | powering
  | emptying
  | shutting
  deriving DecidableEq, Repr

/-- Level Controller (R197). -/
structure Lvc where
  level : Level
  target : Option Level
  settle : Option LineTime
  drain : Option LineTime
  power : Bool
  powerSettle : BitVec 8
  drainLimit : BitVec 8
  deriving DecidableEq, Repr

/-! ### The whole part -/

/-- The state of the part, and the commands that wait (`pending`, first in, first out). -/
structure State where
  bpt : Bpt
  trq : Trq
  cpr : Vector Port 6
  xcr : Xcr
  cbm : Cbm
  flk : Flk
  scd : Scd
  mge : Mge
  ccr : Ccr
  evu : Evu
  lvc : Lvc
  pending : List Instr
  deriving DecidableEq, Repr

/-- Reasons for which the part stops. There is none: the manual names no event that stops it (INVENTORY.md, Faults). -/
inductive Fault where
  deriving DecidableEq, Repr

/-- Reasons for which the model gives a command no meaning. -/
inductive Refusal where
  /-- Raised by a dispatch arm that has no meaning yet, with the row's mnemonic. Safe: the model stops. No arm raises it. -/
  | notModelled (mnemonic : String)
  deriving DecidableEq, Repr

/-! ### Power-on values -/

/-- A filter after power-on: low, run count 0 (R4). -/
def Filter.reset : Filter := { level := false, run := 0 }

/-- A restarted prescaler (R1). -/
def Prescaler.reset : Prescaler := { count := 0, tick := false }

/-- BPT after power-on (R20). -/
def Bpt.reset : Bpt :=
  { tickCode := 4, stepDepth := 2, dirDepth := 2, polarity := .forwardHigh, stepFilter := .reset, dirFilter := .reset
    p := 0, fraction := 0, intervalValid := false, lastInterval := 0, lastDir := .none, interval := Config.intervalLoad
    lineTime := 0, forwardEdges := 0, reverseEdges := 0, stalls := 0
    beltPre := .reset, trigPre := .reset, relayPre := .reset }

/-- A sensor after power-on (R23, R26). -/
def Sensor.reset : Sensor :=
  { enabled := false, depth := 2, transition := .rising, lockout := 0, filter := .reset, lastReg := none }

/-- A Trigger Plan entry after power-on (R29). -/
def PlanEntry.reset : PlanEntry :=
  { enabled := false, sensor := 0, port := 0, offset := 256, stream := 0, width := 1, tag := 0 }

/-- A trigger stage after power-on; the output is at the inactive level of ACTIVE_HIGH (R44, R61). -/
def Stage.reset : Stage := { pulse := 0, gap := 0, count := 0, out := false }

/-- TRQ after power-on (R44). -/
def Trq.reset : Trq :=
  { tickCode := 6, sensors := Vector.replicate 4 .reset, plan := Vector.replicate 16 .reset, partCounter := 0, queue := []
    stages := Vector.replicate 6 .reset, partsRegistered := 0, lockoutEdges := 0, reverseSensorEdges := 0
    triggersFired := 0, triggersFailed := 0 }

/-- Port `p` after power-on: its default stream is its own number (R61, R63). -/
def Port.reset (p : PortIx) : Port :=
  { polarity := .activeHigh, rearmGap := 0, exposureTimeout := 1000, defaultStream := ⟨p.val, by omega⟩
    orphanForward := false, seqCheck := true, enabled := false, state := .off, frame := none
    frames := 0, parityErrors := 0, framingErrors := 0, checksumErrors := 0, orphans := 0, missing := 0 }

/-- Stream `s` after power-on: bound to port s mod 6 (R110, R112). -/
def Stream.reset (s : StreamIx) : Stream :=
  { boundPort := ⟨s.val % 6, by omega⟩, reservation := 1, maxHeld := 1, spare := false, state := .closed, queue := []
    framesHeld := 0, seq := 0, frameCounter := 0, inProgress := false, openTx := false, openTxNo := 0
    cellsSent := 0, framesAdmitted := 0, framesRejected := 0, recordsLost := 0 }

/-- CBM after power-on (R112). DESIGN CHOICE, log 11: the DRAM reads 0 where nothing was written. -/
def Cbm.reset : Cbm :=
  { mem := [], free := [{ start := 0, len := Config.numCells }], reserved := 0, streams := Vector.ofFn Stream.reset }

/-- FLK after power-on (R135). -/
def Flk.reset : Flk :=
  { rx := .search, goodRun := 0, badRun := 0, held := false, timer := 0, expiryDue := false, holdLimit := 16, tx := none
    badCells := 0, resyncs := 0, holds := 0 }

/-- SCD after power-on: slot 0 of the active calendar is MGMT, every other slot is NONE (R147). -/
def Scd.reset : Scd :=
  { active := (Vector.replicate 256 Slot.none).set 0 .mgmt, shadow := Vector.replicate 256 .none
    slotPtr := 0, sparePtr := 0, swapPending := false }

/-- MGE after power-on (R166). -/
def Mge.reset : Mge :=
  { requests := [], output := [], resetPending := false, resetDue := false, dropped := 0 }

/-- The RELAY table's timing after power-on (R155). -/
def RelayTiming.reset : RelayTiming :=
  { lowLen := 1, highLen := 1, stallLimit := 10000, busFreeWait := 4, deferLimit := 100 }

/-- A line on which the part drives nothing (R169). -/
def Wires.released : Wires := { clkLow := false, datLow := false }

/-- CCR after power-on (R183). -/
def Ccr.reset : Ccr :=
  { tickCode := 8, timing := .reset, queue := [], engine := none, wires := Vector.replicate 6 .released }

/-- EVU after power-on (R191). -/
def Evu.reset : Evu :=
  { factors := Vector.replicate 11 0, enables := Vector.replicate 11 0, notice := Vector.replicate 11 false
    reported := Vector.replicate 11 false, eventPending := false }

/-- LVC after power-on (R192, R197). -/
def Lvc.reset : Lvc :=
  { level := .listen, target := none, settle := none, drain := none, power := false, powerSettle := 50, drainLimit := 100 }

/-- The part right after power-on, with no command waiting. -/
def State.reset : State :=
  { bpt := .reset, trq := .reset, cpr := Vector.ofFn Port.reset, xcr := { lists := Vector.replicate 6 [] }, cbm := .reset
    flk := .reset, scd := .reset, mge := .reset, ccr := .reset, evu := .reset, lvc := .reset, pending := [] }

end Sys2Proof.Machine
end

