-- ==== Sys2Proof/Machine/FreeList.lean ====
section
/-! DEFINITION. The free list, a first-in, first-out list of cell indices (R89), held as runs of consecutive indices (log 13).
`freeCells` is the list the rules speak of; the lemmas of Laws/FreeList.lean say that the operations on runs are the
operations of R89 on it. -/

namespace Sys2Proof.Machine

/-- The free list itself: the indices from head to tail. -/
def freeCells (runs : List Run) : List Nat :=
  runs.flatMap (fun r => List.range' r.start r.len)

/-- The number of entries, the free count (R89). -/
def freeCountOf (runs : List Run) : Nat :=
  runs.foldr (fun r n => r.len + n) 0

/-- The head taken off: its index and the list without it. -/
def takeHead : List Run → Option (Nat × List Run)
  | [] => none
  | r :: rest =>
    match r.len with
    | 0 => takeHead rest
    | 1 => some (r.start, rest)
    | n + 2 => some (r.start, { start := r.start + 1, len := n + 1 } :: rest)

/-- An index joined at the tail. -/
def pushTail : List Run → Nat → List Run
  | [], i => [{ start := i, len := 1 }]
  | [r], i => if r.start + r.len = i then [{ r with len := r.len + 1 }] else [r, { start := i, len := 1 }]
  | r :: rest, i => r :: pushTail rest i

/-- Indices joined at the tail one after another. -/
def pushAll (runs : List Run) (indices : List Nat) : List Run :=
  indices.foldl pushTail runs

/-- Every cell in ascending order but one (R112). -/
def allBut (index : Nat) : List Run :=
  (if index = 0 then [] else [{ start := 0, len := min index Config.numCells }]) ++
  (if index + 1 < Config.numCells then [{ start := index + 1, len := Config.numCells - (index + 1) }] else [])

/-- Every cell in ascending order (R89). -/
def allCells : List Run := [{ start := 0, len := Config.numCells }]

end Sys2Proof.Machine
end

