-- ==== Sys2Proof/Machine/Bytes.lean ====
section
/-! DEFINITION. Byte order, the cell CRC, the half-range rule, and the camera word's layout. -/

namespace Sys2Proof.Machine

/-- The lowest `n` bytes of `x`, most significant byte first (R113). -/
def be : Nat → Nat → List Byte
  | 0, _ => []
  | n + 1, x => BitVec.ofNat 8 (x >>> (8 * n)) :: be n x

/-- The number that bytes carry, most significant byte first (R113). -/
def ofBe (bytes : List Byte) : Nat :=
  bytes.foldl (fun acc b => acc * 256 + b.toNat) 0

/-- Byte `i` of a cell or a payload; what lies beyond the end reads as 0. -/
def byteAt (bytes : List Byte) (i : Nat) : Byte := bytes.getD i 0

/-- One flag as a byte, 0 or 1. -/
def flagByte (b : Bool) : Byte := if b then 1 else 0

/-- The half-range rule for a quantity of `w` bits: `a` has reached `b` when (a - b) mod 2^w is below 2^(w-1)
(00_scope.md, Wrapping quantities; R2, R16). -/
def reached {w : Nat} (a b : BitVec w) : Bool := decide ((a - b).toNat < 2 ^ (w - 1))

/-! ### The cell CRC (R114) -/

/-- One bit through the CRC register: steps 3 and 4 of R114. -/
def crcBit (reg : BitVec 16) (bit : Bool) : BitVec 16 :=
  if (bit ^^ reg.msb) then (reg <<< 1) ^^^ 0x1021#16 else reg <<< 1

/-- One byte through the CRC register, most significant bit first. -/
def crcByte (reg : BitVec 16) (b : Byte) : BitVec 16 :=
  [7, 6, 5, 4, 3, 2, 1, 0].foldl (fun r i => crcBit r (b.getLsbD i)) reg

/-- The CRC of R114 over `bytes`. -/
def crc16 (bytes : List Byte) : BitVec 16 := bytes.foldl crcByte 0xFFFF#16

/-! ### Cells (R113) -/

/-- A payload of 56 bytes: the meaningful bytes, the rest zero. -/
def padPayload (payload : List Byte) : List Byte :=
  (payload ++ List.replicate 56 0#8).take 56

/-- The 64 bytes of a cell the part sends. -/
def formCell (kind stream : Byte) (seq : BitVec 16) (len : Nat) (frameNo : Byte) (payload : List Byte) : List Byte :=
  let header := [kind, stream] ++ be 2 seq.toNat ++ [BitVec.ofNat 8 len, frameNo]
  let body := padPayload payload
  header ++ be 2 (crc16 (header ++ body)).toNat ++ body

/-- The 62 bytes of a cell that its CRC covers: 0 to 5 and 8 to 63. -/
def crcCover (cell : List Byte) : List Byte := cell.take 6 ++ (cell.drop 8).take 56

/-- The payload of a received cell. -/
def cellPayload (cell : List Byte) : List Byte := (cell.drop 8).take 56

/-- The kind byte of a cell (R115). -/
def cellKind (cell : List Byte) : Byte := byteAt cell 0

/-- A received cell passes the CRC check (R114). -/
def crcPasses (cell : List Byte) : Bool :=
  (crc16 (crcCover cell)).toNat == ofBe [byteAt cell 6, byteAt cell 7]

/-- The kinds defined for the return direction: IDLE, MGMT_REQ, HOLD, RESUME (R115). -/
def kindReturns (k : Byte) : Bool := k == 0 || k == 9 || k == 10 || k == 11

/-- A judged cell is bad (R125): CRC, kind, or payload length. -/
def cellBad (cell : List Byte) : Bool :=
  !crcPasses cell || !kindReturns (cellKind cell) || decide (56 < (byteAt cell 4).toNat)

/-- What was received is one cell: 64 bytes (R113). -/
def isCell (cell : List Byte) : Bool := cell.length == 64

/-- A received bad cell. -/
def isBadCell (cell : List Byte) : Bool := isCell cell && cellBad cell

/-- A received good cell of kind `k`. -/
def isGoodCell (cell : List Byte) (k : Byte) : Bool := isCell cell && !cellBad cell && cellKind cell == k

/-! ### Camera words (R45) -/

/-- The 20 bits of a camera word: parity, kind, value. -/
def cameraWord (parity : Bool) (kind : BitVec 3) (value : BitVec 16) : BitVec 20 :=
  BitVec.ofBool parity ++ kind ++ value

/-- The number of ones of a camera word. -/
def onesIn (w : BitVec 20) : Nat :=
  (List.range 20).foldl (fun n i => n + (w.getLsbD i).toNat) 0

/-- Parity is odd: a good word has an odd number of ones among all 20 bits. -/
def parityGood (parity : Bool) (kind : BitVec 3) (value : BitVec 16) : Bool :=
  onesIn (cameraWord parity kind value) % 2 == 1

end Sys2Proof.Machine
end

