-- ==== Sys2Proof/Machine/Memory.lean ====
section
/-! DEFINITION. The buffer DRAM: a byte memory in one canonical form (R88, R89). Addresses rise strictly and no listed byte is 0, which is
what an unlisted byte reads as (DESIGN CHOICE, log 11). -/

namespace Sys2Proof.Machine

/-- The canonical form above `lo`: addresses strictly rising from `lo` on, no byte 0. -/
def Memory.wfFrom : Nat → List Host.Cell → Bool
  | _, [] => true
  | lo, (a, b) :: rest => decide (lo ≤ a) && b != 0 && Memory.wfFrom (a + 1) rest

/-- The canonical form of a memory. -/
def Memory.wf (m : List Host.Cell) : Bool := Memory.wfFrom 0 m

/-- The byte at an address. -/
def readByte (m : List Host.Cell) (a : Nat) : Byte :=
  match m with
  | [] => 0
  | (x, b) :: rest => if x = a then b else readByte rest a

/-- The memory with one byte written, in canonical form again. -/
def writeByte (m : List Host.Cell) (a : Nat) (v : Byte) : List Host.Cell :=
  match m with
  | [] => if v = 0 then [] else [(a, v)]
  | (x, b) :: rest =>
    if a < x then (if v = 0 then (x, b) :: rest else (a, v) :: (x, b) :: rest)
    else if a = x then (if v = 0 then rest else (a, v) :: rest)
    else (x, b) :: writeByte rest a v

/-- Consecutive bytes written from an address upward. -/
def writeBytes (m : List Host.Cell) (a : Nat) : List Byte → List Host.Cell
  | [] => m
  | v :: vs => writeBytes (writeByte m a v) (a + 1) vs

/-- `n` bytes read from an address upward. -/
def readBytes (m : List Host.Cell) (a : Nat) : Nat → List Byte
  | 0 => []
  | n + 1 => readByte m a :: readBytes m (a + 1) n

/-- The address of the first payload byte of a buffer cell: a cell is 64 bytes with an 8-byte header (R113). -/
def payloadAddr (index : Nat) : Nat := index * 64 + 8

/-- A whole payload written: the given bytes, the rest of the 56 zero (R89). -/
def writePayload (m : List Host.Cell) (index : Nat) (payload : List Byte) : List Host.Cell :=
  writeBytes m (payloadAddr index) (padPayload payload)

/-- The payload of a buffer cell. -/
def readPayload (m : List Host.Cell) (index : Nat) : List Byte :=
  readBytes m (payloadAddr index) Config.payloadBytes

/-- DATA word number `n` of a cell written, bits 15-8 in the first byte (R95, R118). -/
def writeWord (m : List Host.Cell) (index n : Nat) (value : BitVec 16) : List Host.Cell :=
  writeBytes m (payloadAddr index + 2 * n) (be 2 value.toNat)

end Sys2Proof.Machine
end

