-- ==== Sys2Proof/Machine/Ops.lean ====
section
/-! DEFINITION. The named reads and writes of State, one home for each, and the coordinate views every block shares. -/

namespace Sys2Proof.Machine

/-! ### Ports, lists, stages, streams -/

/-- Port `p`. -/
def State.port (s : State) (p : PortIx) : Port := s.cpr[p]

def State.setPort (s : State) (p : PortIx) (x : Port) : State := { s with cpr := s.cpr.set p x }

/-- Port `p`'s Exposure List (R65). -/
def State.exposures (s : State) (p : PortIx) : List Exposure := s.xcr.lists[p]

def State.setExposures (s : State) (p : PortIx) (x : List Exposure) : State :=
  { s with xcr := { lists := s.xcr.lists.set p x } }

/-- Port `p`'s trigger stage (R36). -/
def State.stage (s : State) (p : PortIx) : Stage := s.trq.stages[p]

def State.setStage (s : State) (p : PortIx) (x : Stage) : State :=
  { s with trq := { s.trq with stages := s.trq.stages.set p x } }

/-- Sensor `n` (R22). -/
def State.sensor (s : State) (n : SensorIx) : Sensor := s.trq.sensors[n]

def State.setSensor (s : State) (n : SensorIx) (x : Sensor) : State :=
  { s with trq := { s.trq with sensors := s.trq.sensors.set n x } }

/-- Trigger Plan entry `i` (R29). -/
def State.planEntry (s : State) (i : PlanIx) : PlanEntry := s.trq.plan[i]

def State.setPlanEntry (s : State) (i : PlanIx) (x : PlanEntry) : State :=
  { s with trq := { s.trq with plan := s.trq.plan.set i x } }

/-- The Trigger Queue replaced (R31). -/
def State.setTrigQueue (s : State) (q : List TrigEntry) : State := { s with trq := { s.trq with queue := q } }

/-- Stream `i` (R103). -/
def State.stream (s : State) (i : StreamIx) : Stream := s.cbm.streams[i]

def State.setStream (s : State) (i : StreamIx) (x : Stream) : State :=
  { s with cbm := { s.cbm with streams := s.cbm.streams.set i x } }

def State.setFree (s : State) (runs : List Run) : State := { s with cbm := { s.cbm with free := runs } }

def State.setReserved (s : State) (n : Nat) : State := { s with cbm := { s.cbm with reserved := n } }

def State.setMem (s : State) (m : List Host.Cell) : State := { s with cbm := { s.cbm with mem := m } }

/-- The management output queue replaced (R150). -/
def State.setOutput (s : State) (q : List OutCell) : State := { s with mge := { s.mge with output := q } }

/-- The relay engine replaced (R168). -/
def State.setEngine (s : State) (e : Option Txn) : State := { s with ccr := { s.ccr with engine := e } }

/-- What the part drives on port `p`'s control line (R169). -/
def State.wiresOf (s : State) (p : PortIx) : Wires := s.ccr.wires[p]

def State.setWires (s : State) (p : PortIx) (w : Wires) : State :=
  { s with ccr := { s.ccr with wires := s.ccr.wires.set p w } }

/-! ### Shared quantities -/

/-- The fine position F = P x 256 + fraction (R15). -/
def State.finePos (s : State) : FinePos := s.bpt.p ++ s.bpt.fraction

/-- The line time L (R2). -/
def State.lineTime (s : State) : LineTime := s.bpt.lineTime

/-- The free count (R89). -/
def State.freeCount (s : State) : Nat := freeCountOf s.cbm.free

/-- BPT tracks the belt at every level but settled LISTEN (R6). -/
def State.tracking (s : State) : Bool := s.lvc.level != .listen

/-- The levels at which an enabled port is live (R47). -/
def Level.portsLive : Level → Bool
  | .standby | .run | .emptying | .shutting => true
  | .listen | .powering => false

/-- The responses in the output queue (R150). -/
def OutCell.isResponse : OutCell → Bool
  | .response _ _ => true
  | .event _ => false

/-- How many response positions are occupied (R150). -/
def State.responses (s : State) : Nat := (s.mge.output.filter OutCell.isResponse).length

/-- An order of the ports made whole: each port once, those not named after the others in ascending order (log 8). -/
def portOrder (order : List PortIx) : List PortIx :=
  order.reverse.dedup.reverse ++ (List.finRange 6).filter (fun p => !order.contains p)

/-- A piece of work done port by port. -/
def forPorts (order : List PortIx) (f : PortIx → State → State) (s : State) : State :=
  (portOrder order).foldl (fun t p => f p t) s

end Sys2Proof.Machine
end

