-- ==== Sys2Proof/Machine/Flags.lean ====
section
/-! DEFINITION. Factors, summaries, the active and reported sets, event cells (EVU, R184-R188), and the wrapping counters. -/

namespace Sys2Proof.Machine

/-- A factor: its group and its bit position in the group's byte (R121). -/
structure Factor where
  group : GroupIx
  bit : Fin 8
  deriving DecidableEq, Repr

/-- The group CAMERAp of port `p`, index 2 + p (R62). -/
def cameraGroup (p : PortIx) : GroupIx := ⟨2 + p.val, by omega⟩

/-! ### The factors, at the positions of R121 -/

def Factor.bptStall : Factor := ⟨0, 0⟩
def Factor.bptReverse : Factor := ⟨0, 1⟩
def Factor.bptPreset : Factor := ⟨0, 2⟩
def Factor.bptWrap : Factor := ⟨0, 3⟩
def Factor.trqLockout : Factor := ⟨1, 0⟩
def Factor.trqQueueFull : Factor := ⟨1, 1⟩
def Factor.trqOvertrigger : Factor := ⟨1, 2⟩
def Factor.trqListFull : Factor := ⟨1, 3⟩
def Factor.trqPlanMismatch : Factor := ⟨1, 4⟩
def Factor.trqPortOff : Factor := ⟨1, 5⟩
def Factor.trqWrap : Factor := ⟨1, 6⟩
def Factor.camParity (p : PortIx) : Factor := ⟨cameraGroup p, 0⟩
def Factor.camFraming (p : PortIx) : Factor := ⟨cameraGroup p, 1⟩
def Factor.camChecksum (p : PortIx) : Factor := ⟨cameraGroup p, 2⟩
def Factor.camOrphan (p : PortIx) : Factor := ⟨cameraGroup p, 3⟩
def Factor.camNoFrame (p : PortIx) : Factor := ⟨cameraGroup p, 4⟩
def Factor.camSkipped (p : PortIx) : Factor := ⟨cameraGroup p, 5⟩
def Factor.camTruncated (p : PortIx) : Factor := ⟨cameraGroup p, 6⟩
def Factor.camWrap (p : PortIx) : Factor := ⟨cameraGroup p, 7⟩
def Factor.cbmRejectNoBuffer : Factor := ⟨8, 0⟩
def Factor.cbmRejectLimit : Factor := ⟨8, 1⟩
def Factor.cbmRecordLost : Factor := ⟨8, 2⟩
def Factor.cbmStreamClosed : Factor := ⟨8, 3⟩
def Factor.cbmFlushDone : Factor := ⟨8, 4⟩
def Factor.cbmWrap : Factor := ⟨8, 5⟩
def Factor.flkUp : Factor := ⟨9, 0⟩
def Factor.flkDown : Factor := ⟨9, 1⟩
def Factor.flkBadCell : Factor := ⟨9, 2⟩
def Factor.flkHoldExpired : Factor := ⟨9, 3⟩
def Factor.flkWrap : Factor := ⟨9, 4⟩
def Factor.ctlReqDropped : Factor := ⟨10, 0⟩
def Factor.ctlCalSwapped : Factor := ⟨10, 1⟩
def Factor.ctlLevelReached : Factor := ⟨10, 2⟩
def Factor.ctlLevelForced : Factor := ⟨10, 3⟩
def Factor.ctlSoftReset : Factor := ⟨10, 4⟩
def Factor.ctlWrap : Factor := ⟨10, 5⟩

/-- The bit positions at which a group has a factor (R121). -/
def factorMask (g : GroupIx) : BitVec 8 :=
  if g.val = 0 then 0x0F
  else if g.val = 1 then 0x7F
  else if g.val < 8 then 0xFF
  else if g.val = 8 then 0x3F
  else if g.val = 9 then 0x1F
  else 0x3F

/-! ### Summaries and sets -/

/-- A group's summary bit: a factor of it is both set and enabled (R185). -/
def Evu.summaryBit (e : Evu) (g : GroupIx) : Bool := (e.factors[g] &&& e.enables[g]) != 0

/-- A group is in the active set: summary set and notice enable on (R186). -/
def Evu.isActive (e : Evu) (g : GroupIx) : Bool := e.summaryBit g && e.notice[g]

/-- The EVU summary as a number, bit n for group n (R117). -/
def Evu.summary (e : Evu) : Nat :=
  (List.finRange 11).foldl (fun n g => n + (if e.summaryBit g then 2 ^ g.val else 0)) 0

/-- The active set holds a group that is not in the reported set (R187, condition 1). -/
def Evu.hasNews (e : Evu) : Bool :=
  (List.finRange 11).any (fun g => e.isActive g && !e.reported[g])

/-- A factor is set. -/
def Evu.has (e : Evu) (f : Factor) : Bool := e.factors[f.group].getLsbD f.bit.val

/-- A factor flag set (R184). -/
def Evu.mark (e : Evu) (f : Factor) : Evu :=
  { e with factors := e.factors.set f.group (e.factors[f.group] ||| (1#8 <<< f.bit.val)) }

/-- Group `g` leaves the reported set if it has left the active set (R186). -/
def Evu.trimReported (e : Evu) (g : GroupIx) : Evu :=
  { e with reported := e.reported.set g (e.reported[g] && e.isActive g) }

/-! ### Event cells -/

/-- The 19 bytes of an EVENT cell (R121). -/
def State.eventPayload (s : State) : List Byte :=
  be 2 s.evu.summary ++ s.evu.factors.toList ++ be 6 s.lineTime.toNat

/-- The creation of an event cell: formed, placed in the output queue, pending (R187). -/
def createEvent (s : State) : State :=
  { s.setOutput (s.mge.output ++ [.event s.eventPayload]) with evu := { s.evu with eventPending := true } }

/-- EVU's judgement at an event that adds a group to the active set (R187). -/
def judgeEvent (s : State) : State :=
  if s.evu.hasNews && !s.evu.eventPending then createEvent s else s

/-- A factor set by its owner at an occurrence of its cause (R184), and what EVU does at it (R185, R187). -/
def setFactor (f : Factor) (s : State) : State :=
  let t := { s with evu := s.evu.mark f }
  if t.evu.isActive f.group && !s.evu.isActive f.group then judgeEvent t else t

/-- What EVU does after a change of group `g`'s factors or enables by CLEAR_EVENTS or a WRITE (R189): it leaves the reported set if it
has left the active set, and a group that has entered the active set is judged. `before` is EVU before the change. -/
def evuChanged (before : Evu) (g : GroupIx) (s : State) : State :=
  let t := { s with evu := s.evu.trimReported g }
  if t.evu.isActive g && !before.isActive g then judgeEvent t else t

/-! ### Counters (R190) -/

/-- The wrap of a counter that stood at `old` before it was incremented sets its group's WRAP factor. -/
def wrapFactor (old : BitVec 32) (f : Factor) (s : State) : State :=
  if old = 0xFFFFFFFF#32 then setFactor f s else s

/-- A counter of BPT incremented: `upd` stores it (R19). -/
def countBpt (old : BitVec 32) (upd : Bpt → BitVec 32 → Bpt) (s : State) : State :=
  wrapFactor old .bptWrap { s with bpt := upd s.bpt (old + 1) }

/-- A counter of TRQ incremented (R43). -/
def countTrq (old : BitVec 32) (upd : Trq → BitVec 32 → Trq) (s : State) : State :=
  wrapFactor old .trqWrap { s with trq := upd s.trq (old + 1) }

/-- A counter of port `p` incremented (R62). -/
def countPort (p : PortIx) (get : Port → BitVec 32) (upd : Port → BitVec 32 → Port) (s : State) : State :=
  wrapFactor (get (s.port p)) (.camWrap p) (s.setPort p (upd (s.port p) (get (s.port p) + 1)))

/-- A counter of stream `i` incremented (R111). -/
def countStream (i : StreamIx) (get : Stream → BitVec 32) (upd : Stream → BitVec 32 → Stream) (s : State) : State :=
  wrapFactor (get (s.stream i)) .cbmWrap (s.setStream i (upd (s.stream i) (get (s.stream i) + 1)))

/-- A counter of FLK incremented (R134). -/
def countFlk (old : BitVec 32) (upd : Flk → BitVec 32 → Flk) (s : State) : State :=
  wrapFactor old .flkWrap { s with flk := upd s.flk (old + 1) }

/-- The requests dropped counter incremented (R165). -/
def countDropped (s : State) : State :=
  wrapFactor s.mge.dropped .ctlWrap { s with mge := { s.mge with dropped := s.mge.dropped + 1 } }

end Sys2Proof.Machine
end

