-- ==== Sys2Proof/Machine/Buffer.lean ====
section
/-! DEFINITION. The Cell Buffer Manager: records, admission, assembly cells, frame ends, stream commands, selection (R88-R112). -/

namespace Sys2Proof.Machine

/-- The kind byte of a buffer cell (R115). -/
def CellKind.code : CellKind → Byte
  | .dataFirst => 1
  | .dataMid => 2
  | .dataLast => 3
  | .dataOnly => 4
  | .capture => 5
  | .missing => 6

/-- A data cell, as against a record cell. -/
def CellKind.isData : CellKind → Bool
  | .dataFirst | .dataMid | .dataLast | .dataOnly => true
  | .capture | .missing => false

/-- A cell at the tail of stream `i`'s queue (R95, R99). -/
def enqueue (i : StreamIx) (c : QCell) (s : State) : State :=
  s.setStream i { s.stream i with queue := (s.stream i).queue ++ [c] }

/-- A DRAINING stream with an empty queue and no frame in progress becomes CLOSED (R106). -/
def closeIfDrained (i : StreamIx) (s : State) : State :=
  let st := s.stream i
  if st.state = .draining ∧ st.queue = [] ∧ st.inProgress = false then
    setFactor .cbmStreamClosed (s.setStream i { st with state := .closed })
  else s

/-! ### Record cells -/

/-- The last data cell of frame number `f` in a queue given the closing mark, if the queue holds one (R100). -/
def markLastData (f : BitVec 8) : List QCell → Option (List QCell)
  | [] => none
  | c :: rest =>
    match markLastData f rest with
    | some rest' => some (c :: rest')
    | none => if c.kind.isData && c.frameNo == f then some ({ c with closing := true } :: rest) else none

/-- What the loss of a record that closes frame number `f` does to the frame's accounting (R100). -/
def closeLost (i : StreamIx) (f : BitVec 8) (s : State) : State :=
  let st := s.stream i
  match markLastData f st.queue with
  | some q => s.setStream i { st with queue := q }
  | none =>
    s.setStream i
      { st with framesHeld := st.framesHeld - 1, openTx := st.openTx && st.openTxNo != f }

/-- A record lost at the handing over (R99). -/
def loseRecord (i : StreamIx) (f : BitVec 8) (closing : Bool) (s : State) : State :=
  let t := setFactor .cbmRecordLost (countStream i Stream.recordsLost (fun x n => { x with recordsLost := n }) s)
  if closing then closeLost i f t else t

/-- A record handed to CBM for stream `i`: queued as one cell, or lost (R99). `f` is the cell's frame number (R101). -/
def handRecord (i : StreamIx) (kind : CellKind) (payload : List Byte) (f : BitVec 8) (closing : Bool) (s : State) : State :=
  if (s.stream i).state ≠ .closed ∧ s.cbm.reserved + 1 ≤ s.freeCount then
    match takeHead s.cbm.free with
    | some (index, runs) =>
      enqueue i { index, kind, len := payload.length, frameNo := f, closing }
        ((s.setFree runs).setMem (writePayload s.cbm.mem index payload))
    | none => loseRecord i f closing s
  else loseRecord i f closing s

/-! ### Admission (R91, R92) -/

/-- The verdict on a frame at CBM. -/
inductive Verdict where
  | granted
  | notOpen
  | heldLimit
  | noRoom
  deriving DecidableEq, Repr

/-- The three conditions of R91, in order. -/
def judgeFrame (i : StreamIx) (s : State) : Verdict :=
  let st := s.stream i
  if st.state ≠ .opened then .notOpen
  else if ¬ st.framesHeld < st.maxHeld.toNat then .heldLimit
  else if s.cbm.reserved + Config.recordRoom + st.reservation.toNat ≤ s.freeCount then .granted
  else .noRoom

/-- The steps of an admission (R91). -/
def grantFrame (i : StreamIx) (s : State) : State :=
  let st := s.stream i
  let t := (s.setReserved (s.cbm.reserved + st.reservation.toNat)).setStream i
    { st with framesHeld := st.framesHeld + 1, frameCounter := st.frameCounter + 1, inProgress := true }
  countStream i Stream.framesAdmitted (fun x n => { x with framesAdmitted := n }) t

/-- What a refusal raises at CBM (R92). -/
def countRefusal (i : StreamIx) (v : Verdict) (s : State) : State :=
  let t := countStream i Stream.framesRejected (fun x n => { x with framesRejected := n }) s
  match v with
  | .heldLimit => setFactor .cbmRejectLimit t
  | .noRoom => setFactor .cbmRejectNoBuffer t
  | .granted | .notOpen => t

/-! ### Filling cells (R94-R96) -/

/-- Port `p`'s frame context replaced. -/
def State.setFrame (s : State) (p : PortIx) (f : Option FrameCtx) : State :=
  s.setPort p { s.port p with frame := f }

/-- The kind a cell is committed with (R95): `last` at a truncation, close or abort. -/
def commitKind (committed last : Bool) : CellKind :=
  match committed, last with
  | false, false => .dataFirst
  | true, false => .dataMid
  | false, true => .dataOnly
  | true, true => .dataLast

/-- The frame's assembly cell, if it has one, committed at the tail of its stream's queue (R95). -/
def commitCell (p : PortIx) (last : Bool) (f : FrameCtx) (s : State) : State :=
  match f.assembly with
  | none => s
  | some a =>
    (enqueue f.stream
      { index := a.index, kind := commitKind f.committed last, len := 2 * a.words, frameNo := f.frameNo, closing := false } s).setFrame p
      (some { f with assembly := none, committed := true })

/-- A word dropped for a used-up reservation (R96, steps 2 and 3). -/
def truncateWord (p : PortIx) (f : FrameCtx) (s : State) : State :=
  setFactor (.camTruncated p) (s.setFrame p (some { f with truncated := true }))

/-- A word placed in the assembly cell `a` (R95). -/
def placeInCell (p : PortIx) (value : BitVec 16) (a : Assembly) (f : FrameCtx) (s : State) : State :=
  (s.setMem (writeWord s.cbm.mem a.index a.words value)).setFrame p
    (some { f with assembly := some { a with words := a.words + 1 }, forwarded := f.forwarded + 1 })

/-- A word that needs a new cell: the head of the free list is taken against the reservation, or the word is truncated (R94). A frame with
reservation left always finds the free list non-empty (R90). -/
def placeInNewCell (p : PortIx) (value : BitVec 16) (f : FrameCtx) (s : State) : State :=
  if f.remaining = 0 then truncateWord p f s
  else
    match takeHead s.cbm.free with
    | none => truncateWord p f s
    | some (index, runs) =>
      placeInCell p value { index, words := 0 } { f with remaining := f.remaining - 1 }
        (((s.setFree runs).setMem (writePayload s.cbm.mem index [])).setReserved (s.cbm.reserved - 1))

/-- A DATA word of the frame in progress at port `p` (R94-R96). -/
def placeWord (p : PortIx) (value : BitVec 16) (f : FrameCtx) (s : State) : State :=
  match f.assembly with
  | none => placeInNewCell p value f s
  | some a =>
    if a.words < Config.wordsPerCell then placeInCell p value a f s
    else
      placeInNewCell p value { f with assembly := none, committed := true } (commitCell p (f.remaining == 0) f s)

/-- The steps of CBM at a close or an abort (R97, R98). -/
def endFrameCells (p : PortIx) (f : FrameCtx) (s : State) : State :=
  let t := commitCell p true f s
  let t := t.setReserved (t.cbm.reserved - f.remaining)
  t.setStream f.stream { t.stream f.stream with inProgress := false }

/-! ### Cells leaving the queue (R102) -/

/-- The head cell of stream `i` selected: the steps of R102. Answers the cell and the sequence number it leaves with. -/
def selectCell (i : StreamIx) (s : State) : Option (QCell × BitVec 16 × State) :=
  let st := s.stream i
  match st.queue with
  | [] => none
  | c :: rest =>
    let opens := c.kind = .dataFirst ∨ c.kind = .dataOnly
    let t := s.setStream i { st with queue := rest, seq := st.seq + 1 }
    let t := countStream i Stream.cellsSent (fun x n => { x with cellsSent := n }) t
    let t := if opens then t.setStream i { t.stream i with openTx := true, openTxNo := c.frameNo } else t
    let t := if c.closing then
        t.setStream i { t.stream i with framesHeld := (t.stream i).framesHeld - 1, openTx := false } else t
    some (c, st.seq, closeIfDrained i t)

/-- A cell returned at the tail of the free list (R89). -/
def returnCell (index : Nat) (s : State) : State := s.setFree (pushTail s.cbm.free index)

/-! ### OPEN and CLOSE (R105, R106) -/

/-- OPEN of a CLOSED stream (R105). -/
def openSteps (i : StreamIx) (s : State) : State :=
  s.setStream i { s.stream i with state := .opened, seq := 0, frameCounter := 0, openTx := false }

/-- CLOSE of an OPEN stream (R106). -/
def closeSteps (i : StreamIx) (s : State) : State :=
  closeIfDrained i (s.setStream i { s.stream i with state := .draining })

/-! ### FLUSH (R107) -/

/-- The port that holds the frame in progress on stream `i`. -/
def holderOf (i : StreamIx) (s : State) : Option (PortIx × FrameCtx) :=
  (List.finRange 6).findSome? (fun p =>
    match (s.port p).frame with
    | some f => if f.stream = i then some (p, f) else none
    | none => none)

/-- Step 1 of the flush: the frame in progress ends without a record (R58). Answers its assembly cell and its remaining reservation. -/
def flushFrame (i : StreamIx) (s : State) : List Nat × Nat × State :=
  if (s.stream i).inProgress then
    match holderOf i s with
    | some (p, f) =>
      let t := s.setPort p { s.port p with frame := none, state := .discarding }
      ((f.assembly.map Assembly.index).toList, f.remaining, t.setStream i { t.stream i with inProgress := false })
    | none => ([], 0, s.setStream i { s.stream i with inProgress := false })
  else ([], 0, s)

/-- Step 2 of the flush: the cells return to the free list, each record cell among them counted lost (R107). -/
def flushCells (i : StreamIx) (held : List Nat) (s : State) : State :=
  let q := (s.stream i).queue
  let t := s.setFree (pushAll s.cbm.free (q.map QCell.index ++ held))
  let t := t.setStream i { t.stream i with queue := [] }
  (q.filter (fun c => !c.kind.isData)).foldl
    (fun u _ => countStream i Stream.recordsLost (fun x n => { x with recordsLost := n }) u) t

end Sys2Proof.Machine
end

