-- ==== Sys2Proof/Machine/Records.lean ====
section
/-! DEFINITION. The record composer of XCR: capture and missing records, their payloads, and the frame ends that need one (R76-R84, R57, R107). -/

namespace Sys2Proof.Machine

/-! ### Missing records -/

/-- The causes of a missing record (R84). -/
inductive Cause where
  | noFrame
  | skipped
  | overtrigger
  | listFull
  | queueFull
  | portOff
  | levelDown
  deriving DecidableEq, Repr

/-- The cause codes (R120). -/
def Cause.code : Cause → Byte
  | .noFrame => 1
  | .skipped => 2
  | .overtrigger => 3
  | .listFull => 4
  | .queueFull => 5
  | .portOff => 6
  | .levelDown => 7

/-- A missing record (R83). `count` is absent for a trigger that never fired. -/
structure MissingRecord where
  part : BitVec 32
  plan : PlanIx
  tag : Byte
  port : PortIx
  count : Option (BitVec 8)
  dueF : FinePos
  decisionL : LineTime
  cause : Cause
  deriving DecidableEq, Repr

/-- The 21 payload bytes of a MISSING cell (R120). -/
def MissingRecord.payload (r : MissingRecord) : List Byte :=
  [if r.count.isSome then 0x80 else 0, BitVec.ofNat 8 r.port.val, BitVec.ofNat 8 r.plan.val, r.tag] ++
  be 4 r.part.toNat ++ [r.count.getD 0xFF, r.cause.code] ++ be 5 r.dueF.toNat ++ be 6 r.decisionL.toNat

/-- A missing record composed and handed over: the port's missing counter, then the record cell (R76, R99, R101). -/
def issueMissing (i : StreamIx) (r : MissingRecord) (s : State) : State :=
  let t := countPort r.port Port.missing (fun x n => { x with missing := n }) s
  handRecord i .missing r.payload (t.stream i).frameCounter false t

/-- The missing record of an exposure that leaves its list at port `p` (R83). -/
def exposureRecord (p : PortIx) (e : Exposure) (cause : Cause) (l : LineTime) : MissingRecord :=
  { part := e.part, plan := e.plan, tag := e.tag, port := p, count := some e.count, dueF := e.fireF, decisionL := l, cause }

/-- An exposure that has left port `p`'s list closed with a missing record on its own stream (R84). -/
def closeExposure (p : PortIx) (cause : Cause) (l : LineTime) (e : Exposure) (s : State) : State :=
  issueMissing e.stream (exposureRecord p e cause l) s

/-- Port `p`'s list emptied, oldest first, each exposure closed with a missing record (R74, R75). -/
def removeAll (p : PortIx) (cause : Cause) : List Exposure → State → State
  | [], s => s.setExposures p []
  | e :: rest, s => removeAll p cause rest (closeExposure p cause s.lineTime e (s.setExposures p rest))

/-! ### Capture records -/

/-- The status flags of a capture record (R78). -/
structure StatusFlags where
  partPresent : Bool := false
  parity : Bool := false
  checksumBad : Bool := false
  truncated : Bool := false
  aborted : Bool := false
  orphan : Bool := false
  flushed : Bool := false
  rejected : Bool := false
  deriving DecidableEq, Repr

/-- The status flag byte (R119). -/
def StatusFlags.byte (f : StatusFlags) : Byte :=
  BitVec.ofBool f.partPresent ++ BitVec.ofBool f.parity ++ BitVec.ofBool f.checksumBad ++ BitVec.ofBool f.truncated ++
  BitVec.ofBool f.aborted ++ BitVec.ofBool f.orphan ++ BitVec.ofBool f.flushed ++ BitVec.ofBool f.rejected

/-- A capture record (R77). The exposure fields are present together, or absent together. -/
structure CaptureRecord where
  flags : StatusFlags
  port : PortIx
  exposure : Option Exposure
  camCount : BitVec 8
  format : BitVec 8
  frameNo : BitVec 8
  startL : LineTime
  endL : LineTime
  received : BitVec 32 := 0
  forwarded : BitVec 32 := 0
  lines : BitVec 16 := 0
  rxChecksum : BitVec 16 := 0
  computed : BitVec 16 := 0
  deriving DecidableEq, Repr

/-- The 49 payload bytes of a CAPTURE cell; an absent field is all ones (R119). -/
def CaptureRecord.payload (r : CaptureRecord) : List Byte :=
  let e := r.exposure
  [r.flags.byte, BitVec.ofNat 8 r.port.val, (e.map (fun x => BitVec.ofNat 8 x.plan.val)).getD 0xFF,
    (e.map Exposure.tag).getD 0xFF] ++
  be 4 ((e.map Exposure.part).getD (BitVec.allOnes 32)).toNat ++
  [(e.map Exposure.count).getD 0xFF, r.camCount, r.format, r.frameNo] ++
  be 5 ((e.map Exposure.fireF).getD (BitVec.allOnes 40)).toNat ++
  be 6 ((e.map Exposure.fireL).getD (BitVec.allOnes 48)).toNat ++
  be 6 r.startL.toNat ++ be 6 r.endL.toNat ++ be 4 r.received.toNat ++ be 4 r.forwarded.toNat ++
  be 2 r.lines.toNat ++ be 2 r.rxChecksum.toNat ++ be 2 r.computed.toNat

/-- The record of a frame that closes or is aborted, from its context (R79, R81). `now` stands for frame-end L if the context has none. -/
def frameRecord (p : PortIx) (f : FrameCtx) (now : LineTime) : CaptureRecord :=
  { flags :=
      { partPresent := f.exposure.isSome, parity := f.parity, checksumBad := f.checksumBad, truncated := f.truncated
        aborted := f.aborted, orphan := f.exposure.isNone }
    port := p, exposure := f.exposure, camCount := f.camCount, format := f.format, frameNo := f.frameNo
    startL := f.startL, endL := f.endL.getD now, received := f.received, forwarded := f.forwarded
    lines := f.lines, rxChecksum := f.rxChecksum, computed := f.computed }

/-- The REJECTED record of a refused frame (R80). -/
def rejectedRecord (p : PortIx) (e : Option Exposure) (camCount format frameNo : BitVec 8) (now : LineTime) : CaptureRecord :=
  { flags := { partPresent := e.isSome, orphan := e.isNone, rejected := true }
    port := p, exposure := e, camCount, format, frameNo, startL := now, endL := now }

/-- The FLUSHED record of a stream (R82). -/
def flushedRecord (p : PortIx) (frameNo : BitVec 8) (now : LineTime) : CaptureRecord :=
  { flags := { flushed := true }
    port := p, exposure := none, camCount := 0, format := 0, frameNo, startL := now, endL := now }

/-- A capture record handed over: its cell carries the record's frame number (R101). -/
def issueCapture (i : StreamIx) (r : CaptureRecord) (closing : Bool) (s : State) : State :=
  handRecord i .capture r.payload r.frameNo closing s

/-! ### Frame ends -/

/-- The last steps of a close or an abort, once the context stands as it ends: CBM's part, the capture record, the end of the context
(R55 steps 3 to 5, R57 steps 3 to 5), and the closing of a stream that this leaves drained (R106). -/
def finishFrame (p : PortIx) (f : FrameCtx) (s : State) : State :=
  let t := endFrameCells p f s
  let t := issueCapture f.stream (frameRecord p f t.lineTime) true t
  closeIfDrained f.stream (t.setFrame p none)

/-- The frame in progress at port `p` aborted (R57). The port's state is left to the cause. -/
def abortFrame (p : PortIx) (s : State) : State :=
  match (s.port p).frame with
  | none => s
  | some f => finishFrame p { f with endL := some s.lineTime, aborted := true, rxChecksum := 0 } s

/-- Port `p` goes to a state. -/
def State.setPortState (s : State) (p : PortIx) (x : PortState) : State :=
  s.setPort p { s.port p with state := x }

/-- FLUSH of an OPEN or DRAINING stream, steps 1 to 6, and the closing of a drained stream (R107). The FLUSHED record of step 4, if
it is queued, stands at the head for the next selection (R140, R108; log 28). -/
def flushSteps (i : StreamIx) (s : State) : State :=
  let (held, remaining, t) := flushFrame i s
  let t := flushCells i held t
  let t := t.setReserved (t.cbm.reserved - remaining)
  let st := t.stream i
  let t := if st.openTx then issueCapture i (flushedRecord st.boundPort st.openTxNo t.lineTime) true t else t
  let t := t.setStream i { t.stream i with framesHeld := (t.stream i).queue.length }
  closeIfDrained i (setFactor .cbmFlushDone t)

end Sys2Proof.Machine
end

