-- ==== Sys2Proof/Machine/Trigger.lean ====
section
/-! DEFINITION. The Trigger Queue unit: input filters, registration, the Trigger Queue, firing, the trigger stages (R22-R43), and the
commands TRIGGER_TICK, PULSE_END and REARM_GAP_END. -/

namespace Sys2Proof.Machine

/-- One sample through an input filter of depth 2^d: the filter after it, and whether it accepted a transition (R4). -/
def filterSample (d : Nat) (sample : Bool) (f : Filter) : Filter × Bool :=
  if sample = f.level then ({ f with run := 0 }, false)
  else if f.run + 1 = 2 ^ d then ({ level := sample, run := 0 }, true)
  else ({ f with run := f.run + 1 }, false)

/-- The active and inactive levels of port `p`'s trigger output (R36, R61). -/
def TrigPolarity.activeLevel : TrigPolarity → Bool
  | .activeHigh => true
  | .activeLow => false

def TrigPolarity.inactiveLevel (x : TrigPolarity) : Bool := !x.activeLevel

/-! ### The stream check and TRQ's missing records -/

/-- The stream a trigger's records go to: the entry's stream if it is bound to the entry's port, else the port's default (R34). -/
def checkedStream (e : TrigEntry) (s : State) : StreamIx :=
  if (s.stream e.stream).boundPort = e.port then e.stream else (s.port e.port).defaultStream

/-- The stream check: the factor it sets (R34). -/
def streamCheck (e : TrigEntry) (s : State) : State :=
  if (s.stream e.stream).boundPort = e.port then s else setFactor .trqPlanMismatch s

/-- A missing record issued by TRQ for an entry on its checked stream, and the triggers failed counter (R40). -/
def failTrigger (e : TrigEntry) (i : StreamIx) (cause : Cause) (s : State) : State :=
  let t := issueMissing i
    { part := e.part, plan := e.plan, tag := e.tag, port := e.port, count := none, dueF := e.due, decisionL := s.lineTime, cause } s
  countTrq t.trq.triggersFailed (fun x n => { x with triggersFailed := n }) t

/-! ### Exposures (R64, R65) -/

/-- The exposure of a fire on port `e.port` (R36, R64). -/
def formExposure (e : TrigEntry) (i : StreamIx) (s : State) : Exposure :=
  { part := e.part, plan := e.plan, tag := e.tag, stream := i, fireF := s.finePos, fireL := s.lineTime
    count := (s.stage e.port).count
    deadline := s.lineTime +
      BitVec.ofNat 48 ((s.port e.port).exposureTimeout.toNat * Config.periodsPerTimeoutUnit) }

/-- Older exposures with the trigger count of a new one, closed with NO_FRAME; by R65 there is at most one. -/
def dropReused (p : PortIx) (c : BitVec 8) (s : State) : State :=
  let old := (s.exposures p).filter (fun x => x.count == c)
  let t := s.setExposures p ((s.exposures p).filter (fun x => x.count != c))
  old.foldl (fun u x => setFactor (.camNoFrame p) (closeExposure p .noFrame u.lineTime x u)) t

/-- An exposure appended to port `p`'s list (R65). -/
def appendExposure (p : PortIx) (x : Exposure) (s : State) : State :=
  let t := dropReused p x.count s
  t.setExposures p (t.exposures p ++ [x])

/-! ### Firing (R33-R36) -/

/-- A port is armed while its pulse and its rearm gap stand at 0 (R35, R37). -/
def Stage.armed (g : Stage) : Bool := g.pulse == 0 && g.gap == 0

/-- A trigger that fires (R36). -/
def fireTrigger (e : TrigEntry) (i : StreamIx) (s : State) : State :=
  let g := s.stage e.port
  let t := s.setStage e.port
    { g with out := (s.port e.port).polarity.activeLevel, pulse := e.width, count := g.count + 1 }
  let t := countTrq t.trq.triggersFired (fun x n => { x with triggersFired := n }) t
  appendExposure e.port (formExposure e i t) t

/-- The firing procedure for a due entry (R35). -/
def firingProcedure (e : TrigEntry) (s : State) : State :=
  let i := checkedStream e s
  let t := streamCheck e s
  if (t.port e.port).enabled = false then setFactor .trqPortOff (failTrigger e i .portOff t)
  else if (t.stage e.port).armed = false then setFactor .trqOvertrigger (failTrigger e i .overtrigger t)
  else if Config.exposureMax ≤ (t.exposures e.port).length then setFactor .trqListFull (failTrigger e i .listFull t)
  else fireTrigger e i t

/-- The heads that F has reached leave the queue, each through the firing procedure, and the rest stays (R33). -/
def fireDue : List TrigEntry → State → State
  | [], s => s.setTrigQueue []
  | e :: rest, s =>
    if reached s.finePos e.due then fireDue rest (firingProcedure e (s.setTrigQueue rest))
    else s.setTrigQueue (e :: rest)

/-- A change of F delivered to TRQ (R15, R33). -/
def changeOfF (s : State) : State := fireDue s.trq.queue s

/-! ### The Trigger Queue (R30-R32) -/

/-- The distance of a due position from F (R31). -/
def dueDistance (f due : FinePos) : Nat := (due - f).toNat

/-- The place of a new entry: after every entry at most as far, before the first that is farther (R31). -/
def insertEntry (f : FinePos) (e : TrigEntry) : List TrigEntry → List TrigEntry
  | [] => [e]
  | x :: rest => if dueDistance f e.due < dueDistance f x.due then e :: x :: rest else x :: insertEntry f e rest

/-- The entry a plan entry gives for a part registered at `f` (R30). -/
def planTrigger (part : BitVec 32) (i : PlanIx) (x : PlanEntry) (f : FinePos) : TrigEntry :=
  { part, plan := i, tag := x.tag, port := x.port, stream := x.stream, width := x.width
    due := f + x.offset.setWidth 40, regF := f }

/-- An insertion, or its refusal for a full queue (R30, R32). -/
def insertTrigger (e : TrigEntry) (s : State) : State :=
  if s.trq.queue.length < Config.trigQueueMax then s.setTrigQueue (insertEntry s.finePos e s.trq.queue)
  else setFactor .trqQueueFull (failTrigger e (checkedStream e s) .queueFull (streamCheck e s))

/-! ### Registration (R24-R28) -/

/-- A part registered at sensor `n` (R27). -/
def registerPart (n : SensorIx) (s : State) : State :=
  let part := s.trq.partCounter
  let t := { s with trq := { s.trq with partCounter := part + 1 } }
  let t := countTrq t.trq.partsRegistered (fun x k => { x with partsRegistered := k }) t
  let t := t.setSensor n { t.sensor n with lastReg := some t.finePos }
  (List.finRange 16).foldl (fun u i =>
    let x := u.planEntry i
    if x.enabled = true ∧ x.sensor = n then insertTrigger (planTrigger part i x u.finePos) u else u) t

/-- F lies within the sensor's lockout distance of its last registration (R26). -/
def lockedOut (x : Sensor) (f : FinePos) : Bool :=
  match x.lastReg with
  | none => false
  | some last => decide ((f - last).toNat < x.lockout.toNat)

/-- A transition to `level` is the sensor's active transition (R24). -/
def Transition.isTo : Transition → Bool → Bool
  | .rising, level => level
  | .falling, level => !level

/-- The registration gate for an accepted transition of sensor `n` to `level` (R24-R26). -/
def registrationGate (n : SensorIx) (level : Bool) (s : State) : State :=
  let x := s.sensor n
  if s.lvc.level = .run ∧ x.enabled = true ∧ x.transition.isTo level = true then
    if s.bpt.lastDir ≠ .forward then countTrq s.trq.reverseSensorEdges (fun q k => { q with reverseSensorEdges := k }) s
    else if lockedOut x s.finePos then
      setFactor .trqLockout (countTrq s.trq.lockoutEdges (fun q k => { q with lockoutEdges := k }) s)
    else registerPart n s
  else s

/-- One sample of sensor `n` (R22). -/
def sampleSensor (n : SensorIx) (sample : Bool) (s : State) : State :=
  let x := s.sensor n
  let (f, accepted) := filterSample x.depth sample x.filter
  let t := s.setSensor n { x with filter := f }
  if accepted then registrationGate n sample t else t

/-! ### The trigger stages (R37, R42) -/

/-- The end of a pulse: the output goes inactive and the rearm gap is loaded (R37). -/
def endPulse (x : Port) (g : Stage) : Stage :=
  { g with pulse := 0, out := x.polarity.inactiveLevel, gap := x.rearmGap }

/-- One trigger tick at a port's stage (R37). -/
def tickStage (x : Port) (g : Stage) : Stage :=
  if g.pulse = 1 then endPulse x g
  else
    { g with
      pulse := if g.pulse = 0 then 0 else g.pulse - 1
      gap := if g.gap = 0 then 0 else g.gap - 1 }

/-- Pulse and gap ended at once, the output inactive, the trigger count kept (R41, R42). -/
def clearStage (x : Port) (g : Stage) : Stage :=
  { g with pulse := 0, gap := 0, out := x.polarity.inactiveLevel }

/-! ### The commands -/

/-- TRIGGER_TICK: the four filters sample in ascending sensor number, each with its registration, and the stages count (R22, R28, R37). -/
def execTriggerTick (lines : BitVec 4) (s : State) : Host.Outcome State Fault Refusal :=
  let t := (List.finRange 4).foldl (fun u n => sampleSensor n (lines.getLsbD n.val) u) s
  .next ((List.finRange 6).foldl (fun u p => u.setStage p (tickStage (u.port p) (u.stage p))) t)

/-- PULSE_END of port `p`, where its pulse length counter is about to reach 0 (R37; log 3). -/
def execPulseEnd (p : PortIx) (s : State) : Host.Outcome State Fault Refusal :=
  .next (if (s.stage p).pulse = 1 then s.setStage p (endPulse (s.port p) (s.stage p)) else s)

/-- REARM_GAP_END of port `p`, where its rearm gap counter is about to reach 0 (R37; log 3). -/
def execRearmGapEnd (p : PortIx) (s : State) : Host.Outcome State Fault Refusal :=
  .next (if (s.stage p).gap = 1 then s.setStage p { s.stage p with gap := 0 } else s)

end Sys2Proof.Machine
end

