-- ==== Sys2Proof/Machine/Correlator.lean ====
section
/-! DEFINITION. The Exposure Correlator's lists: matching a frame to an exposure, and expiry (R67-R72), and the command EXPOSURE_EXPIRY. -/

namespace Sys2Proof.Machine

/-- The exposures older than the one with count `c`, that one, and the younger ones (R69). -/
def splitAtCount (c : BitVec 8) : List Exposure → Option (List Exposure × Exposure × List Exposure)
  | [] => none
  | e :: rest =>
    if e.count = c then some ([], e, rest)
    else (splitAtCount c rest).map (fun (older, m, younger) => (e :: older, m, younger))

/-- Exposures that a match passes over, closed with SKIPPED, oldest first (R69). -/
def closeSkipped (p : PortIx) (older : List Exposure) (s : State) : State :=
  older.foldl (fun u e => setFactor (.camSkipped p) (closeExposure p .skipped u.lineTime e u)) s

/-- A match request for camera trigger count `c` at port `p` (R69, R70). -/
def matchFrame (p : PortIx) (c : BitVec 8) (s : State) : Option Exposure × State :=
  if (s.port p).seqCheck then
    match splitAtCount c (s.exposures p) with
    | none => (none, s)
    | some (older, m, younger) => (some m, closeSkipped p older (s.setExposures p younger))
  else
    match s.exposures p with
    | [] => (none, s)
    | e :: rest => (some e, s.setExposures p rest)

/-- How long ago L reached a deadline. -/
def overdue (l deadline : LineTime) : Nat := (l - deadline).toNat

/-- The exposure of a list to expire: among those whose deadline L has reached, the one reached first, the oldest of equals (R67). -/
def expiredOf (l : LineTime) : List Exposure → Option Exposure
  | [] => none
  | e :: rest =>
    match expiredOf l rest with
    | none => if reached l e.deadline then some e else none
    | some x => if reached l e.deadline && decide (overdue l x.deadline ≤ overdue l e.deadline) then some e else some x

/-- EXPOSURE_EXPIRY on port `p`'s list: one exposure whose deadline L has reached (R67). -/
def execExposureExpiry (p : PortIx) (s : State) : Host.Outcome State Fault Refusal :=
  match expiredOf s.lineTime (s.exposures p) with
  | none => .next s
  | some e =>
    .next (setFactor (.camNoFrame p)
      (closeExposure p .noFrame e.deadline e (s.setExposures p ((s.exposures p).erase e))))

end Sys2Proof.Machine
end

