-- ==== Sys2Proof/Machine/Camera.lean ====
section
/-! DEFINITION. The Camera Port Receivers: camera words in each port state (R45-R58), and the commands IDLE_WORD, FRAME_START, LINE_START, DATA,
FRAME_END and UNDEFINED_KIND_WORD. Enabling and disabling stand in Commands.lean. -/

namespace Sys2Proof.Machine

/-- A word with bad parity at a live port: the counter and the factor (R46). -/
def parityError (p : PortIx) (s : State) : State :=
  setFactor (.camParity p) (countPort p Port.parityErrors (fun x n => { x with parityErrors := n }) s)

/-- A framing error: the counter and the factor (R49, R62). -/
def framingError (p : PortIx) (s : State) : State :=
  setFactor (.camFraming p) (countPort p Port.framingErrors (fun x n => { x with framingErrors := n }) s)

/-- A counter that stops at its highest value. -/
def saturatingInc {w : Nat} (x : BitVec w) : BitVec w := if x = BitVec.allOnes w then x else x + 1

/-! ### Frame start (R51, R52) -/

/-- A frame refused: counted at CBM, closed by a REJECTED record on stream `i`, the port DISCARDING (R51 steps 4 and 5, R80, R92). -/
def refuseFrame (p : PortIx) (i : StreamIx) (v : Verdict) (e : Option Exposure) (value : BitVec 16) (s : State) : State :=
  let t := countRefusal i v s
  let t := issueCapture i
    (rejectedRecord p e (value.setWidth 8) ((value >>> 8).setWidth 8) (t.stream i).frameCounter t.lineTime) false t
  t.setPortState p .discarding

/-- The context of a frame just admitted (R50). -/
def newFrame (i : StreamIx) (e : Option Exposure) (value : BitVec 16) (frameNo : BitVec 8) (remaining : Nat) (now : LineTime) : FrameCtx :=
  { exposure := e, stream := i, frameNo, camCount := value.setWidth 8, format := (value >>> 8).setWidth 8, startL := now
    endL := none, remaining, received := 0, forwarded := 0, lines := 0, computed := 0, rxChecksum := 0
    parity := false, checksumBad := false, aborted := false, truncated := false, assembly := none, committed := false }

/-- A frame offered to CBM on stream `i`: admitted or refused (R51 steps 4 and 5). -/
def offerFrame (p : PortIx) (i : StreamIx) (e : Option Exposure) (value : BitVec 16) (s : State) : State :=
  if (s.stream i).boundPort ≠ p then refuseFrame p i .notOpen e value s
  else
    match judgeFrame i s with
    | .granted =>
      let t := grantFrame i s
      t.setPort p
        { t.port p with
          state := .inFrame
          frame := some (newFrame i e value (t.stream i).frameCounter (s.stream i).reservation.toNat s.lineTime) }
    | v => refuseFrame p i v e value s

/-- The steps of R51 for a FRAME_START with the given value. -/
def beginFrame (p : PortIx) (value : BitVec 16) (s : State) : State :=
  let t := countPort p Port.frames (fun x n => { x with frames := n }) s
  match matchFrame p (value.setWidth 8) t with
  | (some e, t) => offerFrame p e.stream (some e) value t
  | (none, t) =>
    let t := countPort p Port.orphans (fun x n => { x with orphans := n }) (setFactor (.camOrphan p) t)
    if (t.port p).orphanForward then offerFrame p (t.port p).defaultStream none value t
    else t.setPortState p .discarding

/-! ### Words inside a frame (R53-R55) -/

/-- A DATA word of the frame in progress (R53). DESIGN CHOICE, log 26: a word with bad parity sets the PARITY flag whether CBM then places it or
truncates it. -/
def takeData (p : PortIx) (good : Bool) (value : BitVec 16) (f : FrameCtx) (s : State) : State :=
  let f' := { f with
    computed := f.computed + value, received := saturatingInc f.received, parity := f.parity || !good }
  placeWord p value f' (s.setFrame p (some f'))

/-- A good FRAME_END of the frame in progress (R55). -/
def closeFrame (p : PortIx) (value : BitVec 16) (f : FrameCtx) (s : State) : State :=
  let bad := value != f.computed
  let f' := { f with endL := some s.lineTime, rxChecksum := value, checksumBad := f.checksumBad || bad }
  let t := s.setFrame p (some f')
  let t := if bad then
      setFactor (.camChecksum p) (countPort p Port.checksumErrors (fun x n => { x with checksumErrors := n }) t) else t
  (finishFrame p f' t).setPortState p .idle

/-! ### The commands -/

/-- A camera word on port `p`'s word strobe: the command of its kind joins the end of the queue (R45; log 5). -/
def State.withCameraWord (s : State) (p : PortIx) (w : BitVec 20) : State :=
  { s with pending := s.pending ++ [cameraCommand p w] }

/-- IDLE_WORD: a good one has no effect in any port state; a bad one is a parity error at a port that is not OFF (R45, R46). -/
def execIdleWord (p : PortIx) (parity : Bool) (value : BitVec 16) (s : State) : Host.Outcome State Fault Refusal :=
  .next (if (s.port p).state = .off then s else if parityGood parity 0 value then s else parityError p s)

/-- FRAME_START (R51, R52; parity R46). -/
def execFrameStart (p : PortIx) (parity : Bool) (value : BitVec 16) (s : State) : Host.Outcome State Fault Refusal :=
  .next (
    if (s.port p).state = .off then s
    else if !parityGood parity 1 value then parityError p s
    else
      match (s.port p).state with
      | .inFrame => beginFrame p value (abortFrame p (framingError p s))
      | .discarding => beginFrame p value (framingError p s)
      | .idle | .off => beginFrame p value s)

/-- LINE_START (R49, R54, R56; parity R46). -/
def execLineStart (p : PortIx) (parity : Bool) (value : BitVec 16) (s : State) : Host.Outcome State Fault Refusal :=
  .next (
    if (s.port p).state = .off then s
    else if !parityGood parity 2 value then parityError p s
    else
      match (s.port p).state with
      | .idle => framingError p s
      | .inFrame => s.setFrame p ((s.port p).frame.map (fun f => { f with lines := saturatingInc f.lines }))
      | .discarding | .off => s)

/-- DATA: a bad-parity word is counted and then taken as DATA (R46, R49, R53, R56). -/
def execData (p : PortIx) (parity : Bool) (value : BitVec 16) (s : State) : Host.Outcome State Fault Refusal :=
  .next (
    if (s.port p).state = .off then s
    else
      let good := parityGood parity 3 value
      let t := if good then s else parityError p s
      match (t.port p).state with
      | .idle => framingError p t
      | .inFrame =>
        match (t.port p).frame with
        | some f => takeData p good value f t
        | none => t
      | .discarding | .off => t)

/-- FRAME_END (R49, R55, R56; parity R46). -/
def execFrameEnd (p : PortIx) (parity : Bool) (value : BitVec 16) (s : State) : Host.Outcome State Fault Refusal :=
  .next (
    if (s.port p).state = .off then s
    else if !parityGood parity 4 value then parityError p s
    else
      match (s.port p).state with
      | .idle => framingError p s
      | .inFrame =>
        match (s.port p).frame with
        | some f => closeFrame p value f s
        | none => s.setPortState p .idle
      | .discarding => s.setPortState p .idle
      | .off => s)

/-- UNDEFINED_KIND_WORD, a word of kind 5-7: a framing error with good parity, a parity error with bad (R46; log 1). -/
def execUndefinedKindWord (p : PortIx) (kind : BitVec 3) (parity : Bool) (value : BitVec 16) (s : State) :
    Host.Outcome State Fault Refusal :=
  .next (
    if (s.port p).state = .off ∨ kind.toNat < 5 then s
    else if parityGood parity kind value then framingError p s
    else parityError p s)

end Sys2Proof.Machine
end

