-- ==== Sys2Proof/Machine/Belt.lean ====
section
/-! DEFINITION. The Belt Position Tracker: tick prescalers, line time, encoder edges, intervals, stalls, the fraction (R1-R15), and the
commands REFERENCE_CLOCK_PERIOD, BELT_TICK and STALL. -/

namespace Sys2Proof.Machine

/-- One reference period at a prescaler with tick code `k`: a tick each time 2^k periods have been counted (R1). -/
def Prescaler.period (k : Nat) (x : Prescaler) : Prescaler :=
  if 2 ^ k ≤ x.count + 1 then { count := 0, tick := true } else { count := x.count + 1, tick := false }

/-- Elapsed belt ticks since the last encoder edge (R8). -/
def Bpt.elapsed (b : Bpt) : Nat := (Config.intervalLoad - b.interval).toNat

/-- The interpolated fraction min(255, floor(256 x elapsed / lastInterval)) (R14). -/
def Bpt.interpolated (b : Bpt) : BitVec 8 :=
  BitVec.ofNat 8 (min 255 (256 * b.elapsed / b.lastInterval.toNat))

/-- A stall's effects: the interval invalid, BPT.STALL, the stalls counter (R9). -/
def takeStall (s : State) : State :=
  let t := setFactor .bptStall { s with bpt := { s.bpt with intervalValid := false } }
  countBpt t.bpt.stalls (fun b n => { b with stalls := n }) t

/-- The interval counter's decrement at a belt tick, with the stall it may bring (R8, R9). -/
def countInterval (s : State) : State :=
  let t := { s with bpt := { s.bpt with interval := if s.bpt.interval = 0 then 0 else s.bpt.interval - 1 } }
  if s.bpt.interval = 1 then takeStall t else t

/-- An edge is forward: the accepted direction level against the polarity (R7). -/
def Bpt.isForward (b : Bpt) : Bool :=
  match b.polarity with
  | .forwardHigh => b.dirFilter.level
  | .forwardLow => !b.dirFilter.level

/-- A forward edge (R7, R10): the interval is valid when the edge before was forward too and no stall lies between. -/
def forwardEdge (s : State) : State :=
  let b := s.bpt
  let measured := b.lastDir = .forward ∧ b.interval ≠ 0
  let t := { s with bpt :=
    { b with
      p := b.p + 1, lastDir := .forward
      lastInterval := if measured then BitVec.ofNat 24 (max b.elapsed 1) else b.lastInterval
      intervalValid := decide measured
      fraction := 0, interval := Config.intervalLoad } }
  countBpt b.forwardEdges (fun x n => { x with forwardEdges := n }) t

/-- A reverse edge (R7, R11). -/
def reverseEdge (s : State) : State :=
  let b := s.bpt
  let t := { s with bpt :=
    { b with p := b.p - 1, lastDir := .reverse, intervalValid := false, fraction := 0, interval := Config.intervalLoad } }
  setFactor .bptReverse (countBpt b.reverseEdges (fun x n => { x with reverseEdges := n }) t)

/-- Steps 1 to 4 of a belt tick (R12). -/
def beltWork (step dir : Bool) (s : State) : State :=
  let (sf, accepted) := filterSample s.bpt.stepDepth step s.bpt.stepFilter
  let (df, _) := filterSample s.bpt.dirDepth dir s.bpt.dirFilter
  let t := { s with bpt := { s.bpt with stepFilter := sf, dirFilter := df } }
  let t := if s.tracking then countInterval t else t
  if accepted && step && s.tracking then (if t.bpt.isForward then forwardEdge t else reverseEdge t)
  else if t.bpt.intervalValid then { t with bpt := { t.bpt with fraction := t.bpt.interpolated } }
  else t

/-- F delivered to TRQ if it differs from what it was (R12 step 5, R15). -/
def deliverF (old : FinePos) (s : State) : State := if s.finePos = old then s else changeOfF s

/-- Entry into LISTEN (R13). -/
def enterListen (b : Bpt) : Bpt :=
  { b with intervalValid := false, lastDir := .none, interval := Config.intervalLoad }

/-! ### The commands -/

/-- REFERENCE_CLOCK_PERIOD: L and the three prescalers (R1, R2). -/
def execReferenceClockPeriod (s : State) : Host.Outcome State Fault Refusal :=
  .next { s with bpt :=
    { s.bpt with
      lineTime := s.bpt.lineTime + 1
      beltPre := s.bpt.beltPre.period s.bpt.tickCode
      trigPre := s.bpt.trigPre.period s.trq.tickCode
      relayPre := s.bpt.relayPre.period s.ccr.tickCode } }

/-- BELT_TICK (R12). -/
def execBeltTick (step dir : Bool) (s : State) : Host.Outcome State Fault Refusal :=
  .next (deliverF s.finePos (beltWork step dir s))

/-- STALL: the decrement that brings the interval counter from 1 to 0, taken by itself (R9; log 3). -/
def execStall (s : State) : Host.Outcome State Fault Refusal :=
  .next (if s.tracking && s.bpt.interval == 1 then countInterval s else s)

end Sys2Proof.Machine
end

