-- ==== Sys2Proof/Machine/Calendar.lean ====
section
/-! DEFINITION. The Slot Calendar scheduler and the outward lane of the fibre: the choice of a cell, the cells as sent, the swap
(R113-R117, R136-R144), and the commands CELL_SLOT, CALENDAR_SWAP and TRANSMISSION_END, HOLD_EXPIRY. -/

namespace Sys2Proof.Machine

/-! ### Codes of the IDLE cell (R117) -/

def RxState.code : RxState → Byte
  | .search => 0
  | .verify => 1
  | .sync => 2

def Level.code : Level → Byte
  | .listen => 0
  | .standby => 1
  | .run => 2
  | .powering => 3
  | .emptying => 4
  | .shutting => 5

/-- The 14 payload bytes of an IDLE cell (R117). -/
def State.idlePayload (s : State) : List Byte :=
  [s.flk.rx.code, s.lvc.level.code, flagByte s.flk.held] ++ be 2 s.evu.summary ++ be 3 s.freeCount ++ be 6 s.lineTime.toNat

/-! ### The choice (R137, R138) -/

/-- What a slot carries. `spare` says that a stream was found in a spare slot. -/
inductive Choice where
  | idle
  | mgmt
  | stream (i : StreamIx) (spare : Bool)
  deriving DecidableEq, Repr

/-- Stream `i` is OPEN or DRAINING and has a cell (R137, case 3). -/
def State.hasCell (s : State) (i : StreamIx) : Bool :=
  (s.stream i).state != .closed && !(s.stream i).queue.isEmpty

/-- A spare-eligible stream with a ready cell (R138). -/
def State.spareReady (s : State) (i : StreamIx) : Bool := (s.stream i).spare && s.hasCell i

/-- The streams in rotation, from the one after the spare pointer round to the one it names (R138). -/
def rotation (ptr : StreamIx) : List StreamIx := (List.finRange 16).map (fun k => ptr + 1 + k)

/-- A spare slot (R138). -/
def chooseSpare (s : State) : Choice :=
  if s.mge.output ≠ [] then .mgmt
  else if s.flk.held then .idle
  else
    match (rotation s.scd.sparePtr).find? s.spareReady with
    | some i => .stream i true
    | none => .idle

/-- The choice for the slot under the slot pointer (R137), from the queues as they stand: after a FLUSH, the queue that R107
leaves, empty or with the FLUSHED record (R140; for the first row of R108 see log 28). -/
def chooseCell (s : State) : Choice :=
  if s.flk.rx ≠ .sync then .idle
  else
    match s.scd.active[s.scd.slotPtr] with
    | .mgmt => if s.mge.output ≠ [] then .mgmt else chooseSpare s
    | .stream i => if s.hasCell i && !s.flk.held then .stream i false else chooseSpare s
    | .none => chooseSpare s

/-! ### The cells as sent (R113, R116) -/

/-- A cell on its way out. -/
def State.transmit (s : State) (owner : TxOwner) (bytes : List Byte) : State :=
  { s with flk := { s.flk with tx := some { owner, bytes } } }

/-- An IDLE cell with the part's state as it stands (R117). -/
def sendIdle (s : State) : State := s.transmit .idle (formCell 0 0 0 14 0 s.idlePayload)

/-- The head of the management output queue leaves it (R139, R150). -/
def sendMgmt (s : State) : State :=
  match s.mge.output with
  | [] => sendIdle s
  | .response r payload :: rest => (s.setOutput rest).transmit (.response r) (formCell 7 0 0 payload.length 0 payload)
  | .event payload :: rest => (s.setOutput rest).transmit (.event true) (formCell 8 0 0 payload.length 0 payload)

/-- The head cell of stream `i` leaves its queue (R102, R116). -/
def sendStream (i : StreamIx) (s : State) : State :=
  match selectCell i s with
  | none => sendIdle s
  | some (c, seq, t) =>
    t.transmit (.stream c.index)
      (formCell c.kind.code (BitVec.ofNat 8 i.val) seq c.len c.frameNo ((readPayload s.cbm.mem c.index).take c.len))

/-- The chosen cell becomes the cell in transmission (R139); a stream chosen in a spare slot moves the spare pointer (R138). -/
def sendChoice : Choice → State → State
  | .idle, s => sendIdle s
  | .mgmt, s => sendMgmt s
  | .stream i false, s => sendStream i s
  | .stream i true, s => sendStream i { s with scd := { s.scd with sparePtr := i } }

/-! ### The slot pointer (R141) -/

/-- The exchange of the calendars: roles, flag, factor (R141). -/
def exchangeCalendars (s : State) : State :=
  setFactor .ctlCalSwapped
    { s with scd := { s.scd with active := s.scd.shadow, shadow := s.scd.active, swapPending := false } }

/-- The advance of the slot pointer, with the swap at the calendar wrap (R141). -/
def advanceSlot (s : State) : State :=
  let t := { s with scd := { s.scd with slotPtr := s.scd.slotPtr + 1 } }
  if s.scd.slotPtr = 255 ∧ s.scd.swapPending = true then exchangeCalendars t else t

/-! ### The end of a slot (R116, R130, R188) -/

/-- The end of an event cell's transmission (R188). -/
def eventSent (s : State) : State :=
  { s with evu := { s.evu with reported := Vector.ofFn s.evu.isActive, eventPending := false } }

/-- The end of a transmission reported to the cell's owner (R116): a buffer cell returns to the free list (R102), an event cell's end
goes to EVU, the reset response's end to MGE (R164). -/
def reportSent (owner : TxOwner) (s : State) : State :=
  match owner with
  | .idle => s
  | .stream index => returnCell index s
  | .response isReset =>
    if isReset && s.mge.resetPending then { s with mge := { s.mge with resetDue := true } } else s
  | .event live => if live then eventSent s else s

/-- The hold expiry: the count comes to 0, no longer HELD, the timer stopped, FLK.HOLD_EXPIRED (R130). -/
def expireHold (s : State) : State :=
  setFactor .flkHoldExpired { s with flk := { s.flk with held := false, timer := 0, expiryDue := false } }

/-- The hold expiry, if it is due (R130). -/
def takeDueExpiry (s : State) : State := if s.flk.expiryDue then expireHold s else s

/-- The hold timer at the end of a cell slot (R130): a remaining count of 1 leaves its last step to the expiry, which the next slot's selection
may precede (R131, R140; log 25). -/
def tickHold (s : State) : State :=
  if s.flk.timer = 0 then s
  else if s.flk.timer = 1 then { s with flk := { s.flk with expiryDue := true } }
  else { s with flk := { s.flk with timer := s.flk.timer - 1 } }

/-! ### The commands -/

/-- The work of a slot's start: the selection, the chosen cell in transmission, and the advance with its swap, in one piece (R137-R141). -/
def takeSlot (s : State) : State := advanceSlot (sendChoice (chooseCell s) s)

/-- CELL_SLOT: the start of a slot, which comes when no cell is in transmission (R116, R137-R141; log 21). -/
def execCellSlot (s : State) : Host.Outcome State Fault Refusal :=
  .next (if s.flk.tx.isNone then takeSlot s else s)

/-- CALENDAR_SWAP: the start of slot 255 with a swap pending, whose advance is the calendar wrap and carries the swap out; no slot is skipped
(R141; log 3). -/
def execCalendarSwap (s : State) : Host.Outcome State Fault Refusal :=
  .next (if s.flk.tx.isNone && decide (s.scd.slotPtr = 255) && s.scd.swapPending then takeSlot s else s)

/-- TRANSMISSION_END: the end of the slot of the cell in transmission (R116), and the hold timer's slot end (R130). An expiry that the slot
before left due is taken first, at the latest here (log 25). At one slot end that ends an event cell's transmission and runs the timer out, the end
of transmission comes before the entry of FLK.HOLD_EXPIRED: R188 allows both orders, and this one is the model's choice (log 29). -/
def execTransmissionEnd (s : State) : Host.Outcome State Fault Refusal :=
  match s.flk.tx with
  | none => .next s
  | some c =>
    let t := takeDueExpiry s
    .next (tickHold (reportSent c.owner { t with flk := { t.flk with tx := none } }))

/-- HOLD_EXPIRY: the hold expiry, where the slot has ended at which the hold timer runs out (R130; log 25). -/
def execHoldExpiry (s : State) : Host.Outcome State Fault Refusal :=
  .next (takeDueExpiry s)

end Sys2Proof.Machine
end

