-- ==== Sys2Proof/Machine/Link.lean ====
section
/-! DEFINITION. The return lane of the fibre: synchronisation, judged cells, hold and resume, the arrival of requests (R124-R129, R148), and the
commands DELIMITER_FOUND, LOSS_OF_LIGHT, BAD_CELL, IDLE_CELL, HOLD, RESUME and MGMT_REQ. -/

namespace Sys2Proof.Machine

/-- Entry into SYNC (R126). -/
def enterSync (s : State) : State :=
  let t := setFactor .flkUp { s with flk := { s.flk with rx := .sync, goodRun := 0, badRun := 0 } }
  countFlk t.flk.resyncs (fun x n => { x with resyncs := n }) t

/-- Leaving SYNC (R128): SEARCH, FLK.DOWN, the hold state cleared, and the report to MGE, which makes a pending soft reset due (R164). -/
def leaveSync (s : State) : State :=
  let t := setFactor .flkDown { s with flk := { s.flk with rx := .search, goodRun := 0, badRun := 0 } }
  let t := { t with flk := { t.flk with held := false, timer := 0, expiryDue := false } }
  if t.mge.resetPending then { t with mge := { t.mge with resetDue := true } } else t

/-- A good cell judged: nothing in SEARCH, counted in VERIFY, acted on in SYNC (R124, R126, R127). -/
def takeGoodCell (act : State → State) (s : State) : State :=
  match s.flk.rx with
  | .search => s
  | .verify =>
    if Config.goodRunToSync ≤ s.flk.goodRun + 1 then enterSync s
    else { s with flk := { s.flk with goodRun := s.flk.goodRun + 1 } }
  | .sync => act { s with flk := { s.flk with badRun := 0 } }

/-- A bad cell judged (R125-R127). -/
def takeBadCell (s : State) : State :=
  match s.flk.rx with
  | .search => s
  | .verify =>
    let t := setFactor .flkBadCell (countFlk s.flk.badCells (fun x n => { x with badCells := n }) s)
    { t with flk := { t.flk with rx := .search, goodRun := 0 } }
  | .sync =>
    let t := setFactor .flkBadCell (countFlk s.flk.badCells (fun x n => { x with badCells := n }) s)
    if Config.badRunToSearch ≤ t.flk.badRun + 1 then leaveSync t
    else { t with flk := { t.flk with badRun := t.flk.badRun + 1 } }

/-- A HOLD taken: HELD, the timer loaded afresh from HoldLimit, the holds counter; an expiry not yet taken does not come (R129, R130). -/
def takeHold (s : State) : State :=
  let t := { s with flk :=
    { s.flk with held := true, timer := s.flk.holdLimit.toNat * Config.slotsPerHoldUnit, expiryDue := false } }
  countFlk t.flk.holds (fun x n => { x with holds := n }) t

/-- A RESUME taken: no longer HELD, the timer stopped before it can expire (R129, R130). -/
def takeResume (s : State) : State :=
  if s.flk.held then { s with flk := { s.flk with held := false, timer := 0, expiryDue := false } } else s

/-- A request joins the tail of the request queue, or is dropped at a full queue (R148, R165). -/
def takeRequest (payload : List Byte) (s : State) : State :=
  if s.mge.requests.length < Config.requestMax then
    { s with mge := { s.mge with requests := s.mge.requests ++ [payload] } }
  else setFactor .ctlReqDropped (countDropped s)

/-! ### The commands -/

/-- DELIMITER_FOUND: in SEARCH with light present the receiver goes to VERIFY with a run of 0 (R124, R128). -/
def execDelimiterFound (light : Bool) (s : State) : Host.Outcome State Fault Refusal :=
  .next (if light && s.flk.rx == .search then { s with flk := { s.flk with rx := .verify, goodRun := 0 } } else s)

/-- LOSS_OF_LIGHT (R128). -/
def execLossOfLight (s : State) : Host.Outcome State Fault Refusal :=
  .next (
    match s.flk.rx with
    | .sync => leaveSync s
    | .verify => { s with flk := { s.flk with rx := .search, goodRun := 0 } }
    | .search => s)

/-- BAD_CELL: a received cell that fails the CRC, kind or length check (R125). -/
def execBadCell (cell : List Byte) (s : State) : Host.Outcome State Fault Refusal :=
  .next (if isBadCell cell then takeBadCell s else s)

/-- IDLE_CELL: a good IDLE cell, which has no effect in SYNC (R117). -/
def execIdleCell (cell : List Byte) (s : State) : Host.Outcome State Fault Refusal :=
  .next (if isGoodCell cell 0 then takeGoodCell (fun t => t) s else s)

/-- HOLD: a good HOLD cell (R129). -/
def execHold (cell : List Byte) (s : State) : Host.Outcome State Fault Refusal :=
  .next (if isGoodCell cell 10 then takeGoodCell takeHold s else s)

/-- RESUME: a good RESUME cell (R129). -/
def execResume (cell : List Byte) (s : State) : Host.Outcome State Fault Refusal :=
  .next (if isGoodCell cell 11 then takeGoodCell takeResume s else s)

/-- MGMT_REQ: a good MGMT_REQ cell; in SYNC its payload is passed to the request queue (R127, R148). -/
def execMgmtReq (cell : List Byte) (s : State) : Host.Outcome State Fault Refusal :=
  .next (if isGoodCell cell 9 then takeGoodCell (takeRequest (cellPayload cell)) s else s)

end Sys2Proof.Machine
end

