-- ==== Sys2Proof/Machine/Relay.lean ====
section
/-! DEFINITION. The Camera Control Relay: the engine, one relay tick at a time (R168-R182), and the commands RELAY_ENGINE_TAKE, RELAY_TICK,
DEFER_TIMEOUT, STALL_TIMEOUT and RELAY_RESULT.

In one relay tick the part sets what it drives for that tick and the wires are then sampled (DEDUCED, log 15): so a bit lasts
(LowLen + 1) + (HighLen + 1) ticks, as R169 says. -/

namespace Sys2Proof.Machine

/-! ### Results (R123, R180, R181) -/

def StallPhase.code : StallPhase → Byte
  | .start => 1
  | .address => 2
  | .write => 3
  | .restart => 4
  | .read => 5
  | .stop => 6

def RelayResult.code : RelayResult → Byte
  | .done => 0
  | .addrNack => 1
  | .dataNack _ => 2
  | .stallTimeout _ => 3
  | .lineBusy => 4
  | .lineFault => 5
  | .deferTimeout => 6
  | .aborted => 7
  | .notAttempted => 8

/-- The detail byte of a single-port result (R123). -/
def RelayResult.detail : RelayResult → Byte
  | .dataNack n => BitVec.ofNat 8 n
  | .stallTimeout ph => ph.code
  | _ => 0

/-- The result data of a finished transaction (R123, R180, R181). Only DONE carries read bytes. -/
def Txn.resultData (x : Txn) : List Byte :=
  match x.req.port with
  | .all => x.outcomes.map RelayResult.code
  | .one _ =>
    let bytes := if x.result = .done then x.rxBytes else []
    [x.result.code, x.result.detail, BitVec.ofNat 8 bytes.length] ++ bytes

/-! ### Phases -/

/-- A phase begun: its counts at 0. -/
def Txn.enter (x : Txn) (ph : RelayPhase) : Txn :=
  { x with phase := ph, freeTicks := 0, byteIx := 0, bitIx := 0, lowTicks := 0, highTicks := 0, holdStep := false, holdCount := 0
           rxBits := [] }

/-- STOP begun with a result recorded (R177). -/
def Txn.stopWith (x : Txn) (r : RelayResult) : Txn := { x.enter .stop with result := r }

/-- The port is quiet: its Exposure List is empty and it is not IN_FRAME (R170). -/
def State.quiet (s : State) (p : PortIx) : Bool := (s.exposures p).isEmpty && (s.port p).state != .inFrame

/-- A transaction begun on port `p`, from its DEFERRING or its LINE_CHECK. The deferral is judged at the entry (R168, R170). -/
def beginOn (p : PortIx) (x : Txn) (s : State) : Txn :=
  let y := { x.enter .lineCheck with
    port := p, second := false, rxBytes := []
    deadline := s.lineTime + BitVec.ofNat 48 (x.timing.deferLimit.toNat * Config.periodsPerMs) }
  if x.req.deferred && !s.quiet p then { y with phase := .deferring } else y

/-- The walk of a broadcast over the ports still to come (R181, R182): a disabled port is NOT_ATTEMPTED, an enabled one is begun,
and once SHUTTING has begun each is ABORTED. After the last port the engine goes to REPORT. -/
def walkOn (s : State) : List PortIx → Txn → Txn
  | [], x => x.enter .report
  | p :: rest, x =>
    if x.abortRest then walkOn s rest { x with outcomes := x.outcomes ++ [.aborted] }
    else if (s.port p).enabled then beginOn p x s
    else walkOn s rest { x with outcomes := x.outcomes ++ [.notAttempted] }

/-- The ports after `p`, ascending. -/
def portsAfter (p : PortIx) : List PortIx := (List.finRange 6).filter (fun q => p < q)

/-- A transaction or sub-transaction ended with a result: to REPORT, or on with the walk (R180, R181). -/
def Txn.finish (x : Txn) (r : RelayResult) (s : State) : Txn :=
  match x.req.port with
  | .one _ => { x.enter .report with result := r }
  | .all => walkOn s (portsAfter x.port) { x with outcomes := x.outcomes ++ [r] }

/-- Both wires of the connected port released, and the transaction ended with a result. -/
def endTxn (x : Txn) (r : RelayResult) (s : State) : State :=
  (s.setWires x.port .released).setEngine (some (x.finish r s))

/-- The transaction in the engine goes on as `x`, with the connected port's wires as given. -/
def goOn (x : Txn) (w : Wires) (s : State) : State := (s.setWires x.port w).setEngine (some x)

/-! ### Clock holding (R178) -/

/-- The stall phase of a phase (R178). -/
def RelayPhase.stall : RelayPhase → Option StallPhase
  | .start => some .start
  | .address => some .address
  | .write => some .write
  | .restart => some .restart
  | .read => some .read
  | .stop => some .stop
  | .deferring | .lineCheck | .report => none

/-- The result when the holding count reaches StallLimit: STALL_TIMEOUT, but in STOP a result other than DONE stands (R177, R178). -/
def Txn.stallResult (x : Txn) (ph : StallPhase) : RelayResult :=
  if x.phase = .stop ∧ x.result ≠ .done then x.result else .stallTimeout ph

/-- One tick at which the released clock reads low (R178). -/
def holdTick (x : Txn) (ph : StallPhase) (w : Wires) (s : State) : State :=
  if x.timing.stallLimit.toNat ≤ x.holdCount + 1 then endTxn x (x.stallResult ph) s
  else goOn { x with holdCount := x.holdCount + 1 } w s

/-! ### Bits (R169, R173-R176) -/

/-- The transaction's first address byte asks to read (R173). -/
def RelayReq.readsFirst (r : RelayReq) : Bool :=
  match r.port with
  | .all => false
  | .one _ => r.bytes.isEmpty && decide (0 < r.readCount)

/-- The address byte sent now (R173, R175). -/
def Txn.addressByte (x : Txn) : Byte :=
  match x.req.port with
  | .all => 0
  | .one _ => x.req.addr ++ BitVec.ofBool (x.second || x.req.readsFirst)

/-- The byte being sent in ADDRESS or WRITE. -/
def Txn.sending (x : Txn) : Byte :=
  if x.phase = .address then x.addressByte else x.req.bytes.getD x.byteIx 0

/-- This is the last byte of a READ (R176). -/
def Txn.lastRead (x : Txn) : Bool := x.byteIx + 1 == x.req.readCount

/-- The part drives data low for the bit in progress (R169): a 0 of an address or write byte, or the acknowledge it gives in READ. -/
def Txn.drivesData (x : Txn) : Bool :=
  if x.phase = .read then x.bitIx == 8 && !x.lastRead
  else decide (x.bitIx < 8) && !x.sending.getLsbD (7 - x.bitIx)

/-- After the acknowledge of an address byte (R173). DEDUCED, log 27: READ and WRITE begin at the acknowledge sample, so that a clock held after
the acknowledge bit is held in the next phase. -/
def Txn.afterAddress (x : Txn) : Txn :=
  if x.second || x.req.readsFirst then { x.enter .read with rxBytes := [] }
  else if x.req.bytes.isEmpty then x.stopWith .done
  else x.enter .write

/-- After the acknowledge of a write byte (R174). -/
def Txn.afterWrite (x : Txn) : Txn :=
  if x.byteIx + 1 < x.req.bytes.length then { x with byteIx := x.byteIx + 1, bitIx := 0, lowTicks := 0, highTicks := 0 }
  else if 0 < x.req.readCount then x.enter .restart
  else x.stopWith .done

/-- Eight bits as a byte, the first the most significant (R176). -/
def byteOfBits (bits : List Bool) : Byte :=
  bits.foldl (fun b x => (b <<< 1) ||| (BitVec.ofBool x).setWidth 8) 0

/-- After the ninth bit of a read byte (R176). -/
def Txn.afterRead (x : Txn) : Txn :=
  let bytes := x.rxBytes ++ [byteOfBits x.rxBits]
  if x.lastRead then { x.stopWith .done with rxBytes := bytes }
  else { x with byteIx := x.byteIx + 1, bitIx := 0, lowTicks := 0, highTicks := 0, rxBits := [], rxBytes := bytes }

/-- The next bit of the same byte. -/
def Txn.nextBit (x : Txn) : Txn := { x with bitIx := x.bitIx + 1, lowTicks := 0, highTicks := 0 }

/-- What the data sample at the last tick of a bit's high period leads to (R173, R174, R176, R179). `dat` is the sampled data wire. -/
def Txn.bitDone (x : Txn) (dat : Bool) : Txn :=
  if x.phase = .read then
    if x.bitIx = 8 then x.afterRead else { x.nextBit with rxBits := x.rxBits ++ [dat] }
  else if x.bitIx < 8 then
    if x.sending.getLsbD (7 - x.bitIx) && !dat then x.stopWith .lineFault else x.nextBit
  else if x.phase = .address then (if dat then x.stopWith .addrNack else x.afterAddress)
  else if dat then x.stopWith (.dataNack x.byteIx)
  else x.afterWrite

/-- One relay tick of a bit of ADDRESS, WRITE or READ (R169): the low period, then the high period. `clk` and `dat` are what the camera end
leaves on the wires. -/
def bitTick (clk dat : Bool) (x : Txn) (ph : StallPhase) (s : State) : State :=
  if x.lowTicks ≤ x.timing.lowLen then
    goOn { x with lowTicks := x.lowTicks + 1 } { clkLow := true, datLow := x.drivesData } s
  else if !clk then holdTick x ph { clkLow := false, datLow := x.drivesData } s
  else
    let y := { x with highTicks := x.highTicks + 1, holdCount := 0 }
    let w : Wires := { clkLow := false, datLow := x.drivesData }
    if x.timing.highLen + 1 ≤ y.highTicks then goOn (y.bitDone (dat && !x.drivesData)) w s else goOn y w s

/-! ### The other phases -/

/-- DEFERRING at a relay tick (R170). -/
def deferTick (x : Txn) (s : State) : State :=
  if s.quiet x.port then s.setEngine (some (x.enter .lineCheck))
  else if reached s.lineTime x.deadline then endTxn x .deferTimeout s
  else s

/-- LINE_CHECK at a relay tick (R171). -/
def lineCheckTick (clk dat : Bool) (x : Txn) (s : State) : State :=
  if clk && dat then
    if x.timing.busFreeWait.toNat ≤ x.freeTicks + 1 then s.setEngine (some (x.enter .start))
    else s.setEngine (some { x with freeTicks := x.freeTicks + 1 })
  else endTxn x .lineBusy s

/-- START at a relay tick: data low with the clock released (R172). -/
def startTick (clk : Bool) (x : Txn) (s : State) : State :=
  let w : Wires := { clkLow := false, datLow := true }
  if !clk then holdTick x .start w s
  else
    let y := { x with highTicks := x.highTicks + 1, holdCount := 0 }
    if x.timing.highLen + 1 ≤ y.highTicks then goOn (y.enter .address) w s else goOn y w s

/-- RESTART at a relay tick: a low period, a high period with data released and checked, then data low with the clock high (R175, R179). -/
def restartTick (clk dat : Bool) (x : Txn) (s : State) : State :=
  if x.lowTicks ≤ x.timing.lowLen then goOn { x with lowTicks := x.lowTicks + 1 } { clkLow := true, datLow := false } s
  else
    let w : Wires := { clkLow := false, datLow := x.holdStep }
    if !clk then holdTick x .restart w s
    else
      let y := { x with highTicks := x.highTicks + 1, holdCount := 0 }
      if x.timing.highLen + 1 ≤ y.highTicks then
        if x.holdStep then goOn { y.enter .address with second := true } w s
        else if !dat then goOn (y.stopWith .lineFault) w s
        else goOn { y with holdStep := true, highTicks := 0 } w s
      else goOn y w s

/-- STOP at a relay tick: a low period with data low, a high period, and data released at its last tick (R177). -/
def stopTick (clk : Bool) (x : Txn) (s : State) : State :=
  if x.lowTicks ≤ x.timing.lowLen then goOn { x with lowTicks := x.lowTicks + 1 } { clkLow := true, datLow := true } s
  else
    let w : Wires := { clkLow := false, datLow := true }
    if !clk then holdTick x .stop w s
    else
      let y := { x with highTicks := x.highTicks + 1, holdCount := 0 }
      if x.timing.highLen + 1 ≤ y.highTicks then endTxn y y.result s else goOn y w s

/-- One relay tick of the transaction in the engine (R169). -/
def txnTick (clk dat : Bool) (x : Txn) (s : State) : State :=
  match x.phase with
  | .deferring => deferTick x s
  | .lineCheck => lineCheckTick clk dat x s
  | .start => startTick clk x s
  | .address => bitTick clk dat x .address s
  | .write => bitTick clk dat x .write s
  | .restart => restartTick clk dat x s
  | .read => bitTick clk dat x .read s
  | .stop => stopTick clk x s
  | .report => s

/-- The part has released the clock for the next tick of this phase, so that the camera may hold it (R178). -/
def Txn.clockReleased (x : Txn) : Bool :=
  match x.phase with
  | .start => true
  | .address | .write | .restart | .read | .stop => decide (x.timing.lowLen < x.lowTicks)
  | .deferring | .lineCheck | .report => false

/-! ### The engine's take and SHUTTING -/

/-- A transaction just taken, with the RELAY table's timing copied (R168). -/
def newTxn (r : RelayReq) (t : RelayTiming) : Txn :=
  { phase := .report, req := r, timing := t, port := 0, deadline := 0, freeTicks := 0, second := false, byteIx := 0, bitIx := 0
    lowTicks := 0, highTicks := 0, holdStep := false, holdCount := 0, rxBits := [], rxBytes := [], result := .aborted
    outcomes := [], abortRest := false }

/-- The engine's take of a request (R168): an aborted one goes to REPORT, one port is begun, ALL begins its walk. -/
def takeRelay (r : RelayReq) (s : State) : Txn :=
  let x := newTxn r s.ccr.timing
  if r.aborted then { x with outcomes := if r.port = .all then List.replicate 6 .aborted else [] }
  else
    match r.port with
    | .one p => beginOn p x s
    | .all => walkOn s (List.finRange 6) x

/-- The control lines are not in use: the engine is IDLE or in REPORT (R182). -/
def State.linesFree (s : State) : Bool :=
  match s.ccr.engine with
  | none => true
  | some x => x.phase == .report

/-- What the transaction in the engine does when SHUTTING begins (R182, steps 2 to 4). -/
def Txn.shut (x : Txn) (s : State) : Txn :=
  let y := { x with abortRest := true }
  if x.phase = .deferring then y.finish .aborted s else y

/-- CCR's part of the start of SHUTTING (R182). -/
def abortMarking (s : State) : State :=
  { s with ccr :=
    { s.ccr with
      queue := s.ccr.queue.map (fun r => { r with aborted := true })
      engine := s.ccr.engine.map (fun x => x.shut s) } }

/-! ### The commands -/

/-- RELAY_ENGINE_TAKE: the idle engine takes the head of the relay queue (R168). -/
def execRelayEngineTake (s : State) : Host.Outcome State Fault Refusal :=
  match s.ccr.engine, s.ccr.queue with
  | none, r :: rest => .next { s with ccr := { s.ccr with queue := rest, engine := some (takeRelay r s) } }
  | _, _ => .next s

/-- RELAY_TICK (R169-R179). -/
def execRelayTick (clk dat : Bool) (s : State) : Host.Outcome State Fault Refusal :=
  match s.ccr.engine with
  | none => .next s
  | some x => .next (txnTick clk dat x s)

/-- DEFER_TIMEOUT: the defer deadline reached before the port is quiet, taken by itself (R170; log 3). -/
def execDeferTimeout (s : State) : Host.Outcome State Fault Refusal :=
  match s.ccr.engine with
  | none => .next s
  | some x =>
    .next (if x.phase = .deferring ∧ s.quiet x.port = false ∧ reached s.lineTime x.deadline = true then endTxn x .deferTimeout s else s)

/-- STALL_TIMEOUT: the tick at which the holding count reaches StallLimit, taken by itself (R178; log 3). -/
def execStallTimeout (s : State) : Host.Outcome State Fault Refusal :=
  match s.ccr.engine with
  | none => .next s
  | some x =>
    match x.phase.stall with
    | none => .next s
    | some ph =>
      .next (if x.clockReleased = true ∧ x.timing.stallLimit.toNat ≤ x.holdCount + 1 then endTxn x (x.stallResult ph) s else s)

/-- RELAY_RESULT: the result waiting in REPORT placed in a free response position, and the engine IDLE again (R151, R180). -/
def execRelayResult (s : State) : Host.Outcome State Fault Refusal :=
  match s.ccr.engine with
  | none => .next s
  | some x =>
    .next (
      if x.phase = .report ∧ s.responses < Config.responseMax then
        (s.setOutput (s.mge.output ++ [.response false ([x.req.tag, 0, 14] ++ x.resultData)])).setEngine none
      else s)

end Sys2Proof.Machine
end

