-- ==== Sys2Proof/Machine/LevelControl.lean ====
section
/-! DEFINITION. The Level Controller: transitions, draining, shutting (R192-R196), and the commands SETTLE_EXPIRY, DRAIN_COMPLETE, DRAIN_EXPIRY and
SHUTTING_END. -/

namespace Sys2Proof.Machine

/-- A deadline `ms` milliseconds ahead (R192). -/
def deadlineIn (ms : BitVec 8) (s : State) : LineTime := s.lineTime + BitVec.ofNat 48 (ms.toNat * Config.periodsPerMs)

/-- A deadline that runs and that L has reached (R192). -/
def expired (d : Option LineTime) (s : State) : Bool :=
  match d with
  | none => false
  | some x => reached s.lineTime x

/-- Entry into SHUTTING: CCR marks and ends its relay work (R182, R196). -/
def enterShutting (s : State) : State :=
  abortMarking { s with lvc := { s.lvc with level := .shutting, target := some .listen, settle := none, drain := none } }

/-- The level arrives at a settled level that is not LISTEN (R192). -/
def arrive (x : Level) (s : State) : State :=
  setFactor .ctlLevelReached { s with lvc := { s.lvc with level := x, target := none, settle := none, drain := none } }

/-- EMPTYING ends: at STANDBY, or in SHUTTING on the way to LISTEN (R195). -/
def endEmptying (s : State) : State :=
  if s.lvc.target = some .listen then enterShutting s else arrive .standby s

/-- Every Trigger Queue entry removed with LEVEL_DOWN, from the head to the tail (R41). -/
def dropTriggers : List TrigEntry → State → State
  | [], s => s.setTrigQueue []
  | e :: rest, s => dropTriggers rest (failTrigger e (checkedStream e s) .levelDown (streamCheck e (s.setTrigQueue rest)))

/-- The start of a transition to another level (R193). -/
def beginTransition (target : Level) (s : State) : State :=
  match s.lvc.level with
  | .listen =>
    { s with lvc :=
      { s.lvc with level := .powering, target := some target, settle := some (deadlineIn s.lvc.powerSettle s), power := true } }
  | .standby => if target = .run then arrive .run s else enterShutting s
  | .run =>
    let t := dropTriggers s.trq.queue
      { s with lvc := { s.lvc with level := .emptying, target := some target } }
    { t with lvc := { t.lvc with drain := some (deadlineIn t.lvc.drainLimit t) } }
  | .powering | .emptying | .shutting => s

/-- The drain is complete: all Exposure Lists empty and no port IN_FRAME (R195). -/
def State.drained (s : State) : Bool :=
  (List.finRange 6).all (fun p => (s.exposures p).isEmpty && (s.port p).state != .inFrame)

/-- A port takes the forcing of the drain: its frame aborted, then its list removed with LEVEL_DOWN (R57, R75, R195). -/
def forcePort (p : PortIx) (s : State) : State :=
  let t := if (s.port p).state = .inFrame then (abortFrame p s).setPortState p .discarding else s
  removeAll p .levelDown (t.exposures p) t

/-- A port that is not OFF goes OFF when camera power goes off, its frame aborted (R48). -/
def powerOffPort (p : PortIx) (s : State) : State :=
  let t := if (s.port p).state = .inFrame then abortFrame p s else s
  t.setPortState p .off

/-- An enabled port that is OFF goes IDLE when the level settles (R48). -/
def settlePort (p : PortIx) (s : State) : State :=
  if (s.port p).enabled = true ∧ (s.port p).state = .off then s.setPortState p .idle else s

/-- Every trigger pulse and rearm gap ended (R41). -/
def clearStages (s : State) : State :=
  (List.finRange 6).foldl (fun u p => u.setStage p (clearStage (u.port p) (u.stage p))) s

/-! ### The commands -/

/-- SETTLE_EXPIRY (R194). -/
def execSettleExpiry (s : State) : Host.Outcome State Fault Refusal :=
  .next (
    if s.lvc.level = .powering ∧ expired s.lvc.settle s = true then
      let x := s.lvc.target.getD .standby
      let t := { s with lvc := { s.lvc with level := x, target := none, settle := none } }
      setFactor .ctlLevelReached ((List.finRange 6).foldl (fun u p => settlePort p u) t)
    else s)

/-- DRAIN_COMPLETE (R195). -/
def execDrainComplete (s : State) : Host.Outcome State Fault Refusal :=
  .next (if s.lvc.level = .emptying ∧ s.drained = true then endEmptying s else s)

/-- DRAIN_EXPIRY: the forcing, port by port in the given order (R195; log 8). -/
def execDrainExpiry (order : List PortIx) (s : State) : Host.Outcome State Fault Refusal :=
  .next (
    if s.lvc.level = .emptying ∧ expired s.lvc.drain s = true ∧ s.drained = false then
      endEmptying (setFactor .ctlLevelForced (forPorts order forcePort s))
    else s)

/-- SHUTTING_END: CCR's report that no control line is in use, and what it ends, the ports in the given order (R196; log 8). -/
def execShuttingEnd (order : List PortIx) (s : State) : Host.Outcome State Fault Refusal :=
  .next (
    if s.lvc.level = .shutting ∧ s.linesFree = true then
      let t := { s with lvc := { s.lvc with power := false } }
      let t := clearStages (forPorts order powerOffPort t)
      arrive .listen { t with bpt := enterListen t.bpt }
    else s)

end Sys2Proof.Machine
end

