-- ==== Sys2Proof/Machine/Operands.lean ====
section
/-! DEFINITION. The operands of the management rows: a request is 56 payload bytes, read at the offsets of R122. -/

namespace Sys2Proof.Machine

/-- A request: the payload of its MGMT_REQ cell (R148). -/
abbrev Request := List Byte

def reqTag (r : Request) : Byte := byteAt r 0
def reqOp (r : Request) : Nat := (byteAt r 1).toNat

/-- The parameter byte at an offset, as a number. -/
def reqNat (r : Request) (offset : Nat) : Nat := (byteAt r offset).toNat

/-- The table code of a READ or WRITE. -/
def reqTable (r : Request) : Nat := reqNat r 2

/-- The index of a READ or WRITE. -/
def reqIndex (r : Request) : Nat := reqNat r 3

/-- The field mask of a WRITE, bit n for field n. -/
def reqMask (r : Request) : Nat := ofBe [byteAt r 4, byteAt r 5]

/-- What follows the fixed parameters, from offset 6. -/
def reqValues (r : Request) : List Byte := r.drop 6

/-! ### Which row takes a request (R122; log 6) -/

def opRead : Nat := 1
def opWrite : Nat := 2
def opWriteCal : Nat := 3
def opReadCounters : Nat := 4
def opClearEvents : Nat := 5
def opStreamCmd : Nat := 6
def opPortCmd : Nat := 7
def opCalSwap : Nat := 8
def opSetLevel : Nat := 9
def opBeltPreset : Nat := 10
def opRelay : Nat := 11
def opStatus : Nat := 12
def opSoftReset : Nat := 13

/-- The operation code is outside 1-13 (R152). -/
def isBadOp (r : Request) : Bool := decide (reqOp r = 0) || decide (13 < reqOp r)

/-- A WRITE that names the table with the given code. -/
def writesTable (code : Nat) (r : Request) : Bool := reqOp r == opWrite && reqTable r == code

/-- A WRITE to a table without a row of its own, or to no table (R154). -/
def writesPlain (r : Request) : Bool :=
  reqOp r == opWrite && !([0, 2, 6, 7, 8, 11].contains (reqTable r))

/-- A STREAM_CMD with the given action, or with an action above 2, which any of OPEN, CLOSE and FLUSH takes (R158; log 6). -/
def isStreamCmd (action : Nat) (r : Request) : Bool :=
  reqOp r == opStreamCmd && (reqNat r 3 == action || decide (2 < reqNat r 3))

/-- A PORT_CMD with the given action, or with an action above 1, which either of ENABLE and DISABLE takes (R158; log 6). -/
def isPortCmd (action : Nat) (r : Request) : Bool :=
  reqOp r == opPortCmd && (reqNat r 3 == action || decide (1 < reqNat r 3))

/-! ### The values of a WRITE (R154) -/

/-- The selected fields of a WRITE with their values, in ascending field number. `widths` are the table's writable fields from field `n` on. -/
def takeFields : List Nat → Nat → Nat → List Byte → List (Nat × Nat)
  | [], _, _, _ => []
  | w :: ws, n, mask, bytes =>
    if mask.testBit n then (n, ofBe (bytes.take w)) :: takeFields ws (n + 1) mask (bytes.drop w)
    else takeFields ws (n + 1) mask bytes

/-- The fields a WRITE carries to a table whose writable fields have these widths. -/
def reqFields (widths : List Nat) (r : Request) : List (Nat × Nat) := takeFields widths 0 (reqMask r) (reqValues r)

/-- The mask names only fields below `n`: no read-only field and none that the table does not have. -/
def maskBelow (n : Nat) (r : Request) : Bool := decide (reqMask r < 2 ^ n)

/-- A field, where carried, is at most `limit`: an enumerated value, a flag or an index (R154). -/
def fieldAtMost (v : List (Nat × Nat)) (n limit : Nat) : Bool :=
  match v.lookup n with
  | none => true
  | some x => decide (x ≤ limit)

/-- What a field becomes: `f` of the value carried, or what it was. -/
def stored {α : Type} (v : List (Nat × Nat)) (n : Nat) (old : α) (f : Nat → α) : α :=
  match v.lookup n with
  | none => old
  | some x => f x

/-- A field is carried. -/
def carries (v : List (Nat × Nat)) (n : Nat) : Bool := (v.lookup n).isSome

/-- A numeric field clamped to a range (00_scope.md, Clamped and refused). -/
def clamp (lo hi x : Nat) : Nat := max lo (min hi x)

/-! ### Status codes (R123, R152) -/

inductive Status where
  | ok
  | queued
  | busy
  | badOp
  | badTable
  | badIndex
  | badValue
  | state
  | activeTable
  deriving DecidableEq, Repr

def Status.code : Status → Byte
  | .ok => 0
  | .queued => 1
  | .busy => 2
  | .badOp => 3
  | .badTable => 4
  | .badIndex => 5
  | .badValue => 6
  | .state => 7
  | .activeTable => 8

/-- The answer of a request's owner: the status, the data of an OK response, and the state after. -/
structure Answer where
  status : Status
  data : List Byte
  after : State

def refuse (x : Status) (s : State) : Answer := { status := x, data := [], after := s }
def okay (s : State) : Answer := { status := .ok, data := [], after := s }
def okayData (data : List Byte) (s : State) : Answer := { status := .ok, data, after := s }

end Sys2Proof.Machine
end

