-- ==== Sys2Proof/Machine/Tables.lean ====
section
/-! DEFINITION. The twelve tables: what a READ returns and what a WRITE checks and stores (R18, R21, R23, R29, R61, R110, R133, R143, R153-R157). -/

namespace Sys2Proof.Machine

/-! ### Field codes -/

def Slot.code : Slot → Byte
  | .stream i => BitVec.ofNat 8 i.val
  | .mgmt => 16
  | .none => 17

/-- The slot value with a code of at most 17 (R136). -/
def Slot.ofCode (n : Nat) : Slot :=
  if h : n < 16 then .stream ⟨n, h⟩ else if n = 16 then .mgmt else .none

def StreamState.code : StreamState → Byte
  | .closed => 0
  | .opened => 1
  | .draining => 2

def PortState.code : PortState → Byte
  | .off => 0
  | .idle => 1
  | .inFrame => 2
  | .discarding => 3

def EdgeDir.code : EdgeDir → Byte
  | .none => 0
  | .forward => 1
  | .reverse => 2

/-! ### READ -/

def readSensor (x : Sensor) : List Byte :=
  [flagByte x.enabled, BitVec.ofNat 8 x.depth, flagByte (x.transition == .falling)] ++ be 3 x.lockout.toNat ++
  [flagByte x.filter.level, flagByte x.lastReg.isSome] ++ be 5 (x.lastReg.getD (BitVec.allOnes 40)).toNat

def readPlan (x : PlanEntry) : List Byte :=
  [flagByte x.enabled, BitVec.ofNat 8 x.sensor.val, BitVec.ofNat 8 x.port.val] ++ be 4 x.offset.toNat ++
  [BitVec.ofNat 8 x.stream.val] ++ be 2 x.width.toNat ++ [x.tag]

def readPort (p : PortIx) (s : State) : List Byte :=
  let x := s.port p
  [flagByte (x.polarity == .activeLow)] ++ be 2 x.rearmGap.toNat ++ be 2 x.exposureTimeout.toNat ++
  [BitVec.ofNat 8 x.defaultStream.val, flagByte x.orphanForward, flagByte x.seqCheck, flagByte x.enabled, x.state.code,
    (s.stage p).count, BitVec.ofNat 8 (s.exposures p).length]

def readStream (x : Stream) : List Byte :=
  [BitVec.ofNat 8 x.boundPort.val] ++ be 2 x.reservation.toNat ++ [x.maxHeld, flagByte x.spare, x.state.code] ++
  be 3 x.queue.length ++ [BitVec.ofNat 8 x.framesHeld] ++ be 2 x.seq.toNat ++
  [x.frameCounter, flagByte x.inProgress, flagByte x.openTx, if x.openTx then x.openTxNo else 0xFF]

/-- The slot with a number, counted round the 256 slots. -/
def slotAt (cal : Vector Slot 256) (n : Nat) : Slot := cal[(⟨n % 256, Nat.mod_lt _ (by decide)⟩ : Fin 256)]

/-- 48 slots from an index upward, slot 0 after slot 255 (R143). -/
def readCalendar (cal : Vector Slot 256) (index : Nat) : List Byte :=
  (List.range 48).map (fun k => (slotAt cal (index + k)).code)

def readBelt (s : State) : List Byte :=
  let b := s.bpt
  [BitVec.ofNat 8 b.tickCode, BitVec.ofNat 8 b.stepDepth, BitVec.ofNat 8 b.dirDepth, flagByte (b.polarity == .forwardLow)] ++
  be 4 b.p.toNat ++ [b.fraction, flagByte b.intervalValid] ++ be 3 b.lastInterval.toNat ++ [b.lastDir.code] ++ be 6 b.lineTime.toNat

def readTrigger (s : State) : List Byte :=
  let h := s.trq.queue.head?
  [BitVec.ofNat 8 s.trq.tickCode] ++ be 4 s.trq.partCounter.toNat ++ [BitVec.ofNat 8 s.trq.queue.length] ++
  be 5 ((h.map TrigEntry.due).getD (BitVec.allOnes 40)).toNat ++ be 4 ((h.map TrigEntry.part).getD (BitVec.allOnes 32)).toNat ++
  be 5 ((h.map TrigEntry.regF).getD (BitVec.allOnes 40)).toNat

def readRelay (s : State) : List Byte :=
  let t := s.ccr.timing
  [BitVec.ofNat 8 s.ccr.tickCode, BitVec.ofNat 8 t.lowLen, BitVec.ofNat 8 t.highLen] ++ be 2 t.stallLimit.toNat ++
  be 2 t.busFreeWait.toNat ++ [t.deferLimit]

def readLevel (s : State) : List Byte := [s.lvc.powerSettle, s.lvc.drainLimit, s.lvc.level.code]

def readLink (s : State) : List Byte :=
  [s.flk.holdLimit, s.flk.rx.code, flagByte s.flk.held] ++ be 3 s.flk.timer

def readEvent (g : GroupIx) (e : Evu) : List Byte :=
  [e.enables[g], flagByte e.notice[g], e.factors[g], flagByte (e.summaryBit g)]

/-- The entries of a table, by its code (R122, R154); none for a code above 11. -/
def tableEntries : Nat → Option Nat
  | 0 => some 4
  | 1 => some 16
  | 2 => some 6
  | 3 => some 16
  | 4 => some 256
  | 5 => some 256
  | 6 => some 1
  | 7 => some 1
  | 8 => some 1
  | 9 => some 1
  | 10 => some 1
  | 11 => some 11
  | _ => none

/-- The data of a READ of a table that exists at an index that it has (R153). -/
def tableData (table index : Nat) (s : State) : List Byte :=
  match table with
  | 0 => if h : index < 4 then readSensor (s.sensor ⟨index, h⟩) else []
  | 1 => if h : index < 16 then readPlan (s.planEntry ⟨index, h⟩) else []
  | 2 => if h : index < 6 then readPort ⟨index, h⟩ s else []
  | 3 => if h : index < 16 then readStream (s.stream ⟨index, h⟩) else []
  | 4 => readCalendar s.scd.shadow index
  | 5 => readCalendar s.scd.active index
  | 6 => readBelt s
  | 7 => readTrigger s
  | 8 => readRelay s
  | 9 => readLevel s
  | 10 => readLink s
  | 11 => if h : index < 11 then readEvent ⟨index, h⟩ s.evu else []
  | _ => []

/-- READ (R153). -/
def answerRead (r : Request) (s : State) : Answer :=
  match tableEntries (reqTable r) with
  | none => refuse .badTable s
  | some n => if reqIndex r < n then okayData (tableData (reqTable r) (reqIndex r) s) s else refuse .badIndex s

/-! ### WRITE: the tables with a row of their own -/

/-- A level in which the BELT table may be written: settled LISTEN (R18). -/
def Level.beltWritable (x : Level) : Bool := x == .listen

/-- A level in which the TRIGGER table may be written: settled LISTEN or settled STANDBY (R21). -/
def Level.trigWritable (x : Level) : Bool := x == .listen || x == .standby

/-- The BELT fields stored: a tick code restarts the prescaler, a depth code clears its filter's run count (R1, R5, R18). -/
def storeBelt (v : List (Nat × Nat)) (b : Bpt) : Bpt :=
  { b with
    tickCode := stored v 0 b.tickCode (clamp 0 14)
    beltPre := if carries v 0 then .reset else b.beltPre
    stepDepth := stored v 1 b.stepDepth (clamp 0 5)
    stepFilter := if carries v 1 then { b.stepFilter with run := 0 } else b.stepFilter
    dirDepth := stored v 2 b.dirDepth (clamp 0 5)
    dirFilter := if carries v 2 then { b.dirFilter with run := 0 } else b.dirFilter
    polarity := stored v 3 b.polarity (fun n => if n = 0 then .forwardHigh else .forwardLow) }

/-- WRITE to BELT (R18). -/
def answerWriteBelt (r : Request) (s : State) : Answer :=
  let v := reqFields [1, 1, 1, 1] r
  if reqIndex r ≠ 0 then refuse .badIndex s
  else if !s.lvc.level.beltWritable then refuse .state s
  else if !maskBelow 4 r || !fieldAtMost v 3 1 then refuse .badValue s
  else okay { s with bpt := storeBelt v s.bpt }

/-- WRITE to TRIGGER (R21). -/
def answerWriteTrigger (r : Request) (s : State) : Answer :=
  let v := reqFields [1] r
  if reqIndex r ≠ 0 then refuse .badIndex s
  else if !s.lvc.level.trigWritable then refuse .state s
  else if !maskBelow 1 r then refuse .badValue s
  else okay { s with
    trq := { s.trq with tickCode := stored v 0 s.trq.tickCode (clamp 0 14) }
    bpt := { s.bpt with trigPre := if carries v 0 then .reset else s.bpt.trigPre } }

/-- The SENSOR fields stored; a stored depth code clears the filter's run count (R23). -/
def storeSensor (v : List (Nat × Nat)) (x : Sensor) : Sensor :=
  { x with
    enabled := stored v 0 x.enabled (· == 1)
    depth := stored v 1 x.depth (clamp 0 5)
    filter := if carries v 1 then { x.filter with run := 0 } else x.filter
    transition := stored v 2 x.transition (fun n => if n = 0 then .rising else .falling)
    lockout := stored v 3 x.lockout (BitVec.ofNat 24) }

/-- WRITE to SENSOR (R23). -/
def answerWriteSensor (r : Request) (s : State) : Answer :=
  let v := reqFields [1, 1, 1, 3] r
  if h : reqIndex r < 4 then
    if !maskBelow 4 r || !fieldAtMost v 0 1 || !fieldAtMost v 2 1 then refuse .badValue s
    else okay (s.setSensor ⟨reqIndex r, h⟩ (storeSensor v (s.sensor ⟨reqIndex r, h⟩)))
  else refuse .badIndex s

/-- A number below 16 as a stream, for a field that has passed its check. -/
def streamOf (n : Nat) : StreamIx := ⟨n % 16, Nat.mod_lt _ (by decide)⟩

/-- A number below 6 as a port, for a field that has passed its check. -/
def portOf (n : Nat) : PortIx := ⟨n % 6, Nat.mod_lt _ (by decide)⟩

/-- A number below 4 as a sensor, for a field that has passed its check. -/
def sensorOf (n : Nat) : SensorIx := ⟨n % 4, Nat.mod_lt _ (by decide)⟩

/-- The PORT fields stored (R61). -/
def storePort (v : List (Nat × Nat)) (x : Port) : Port :=
  { x with
    polarity := stored v 0 x.polarity (fun n => if n = 0 then .activeHigh else .activeLow)
    rearmGap := stored v 1 x.rearmGap (BitVec.ofNat 16)
    exposureTimeout := stored v 2 x.exposureTimeout (fun n => BitVec.ofNat 16 (clamp 1 65535 n))
    defaultStream := stored v 3 x.defaultStream streamOf
    orphanForward := stored v 4 x.orphanForward (· == 1)
    seqCheck := stored v 5 x.seqCheck (· == 1) }

/-- The mask names a field other than ExposureTimeout (R61, check 1). -/
def namesLockedField (r : Request) : Bool := reqMask r &&& 0xFFFB != 0

/-- WRITE to PORT; a stored trigger polarity moves the disabled port's output to its new inactive level (R61). -/
def answerWritePort (r : Request) (s : State) : Answer :=
  let v := reqFields [1, 2, 2, 1, 1, 1] r
  if h : reqIndex r < 6 then
    let p : PortIx := ⟨reqIndex r, h⟩
    if (s.port p).enabled && namesLockedField r then refuse .state s
    else if !maskBelow 6 r || !fieldAtMost v 0 1 || !fieldAtMost v 3 15 || !fieldAtMost v 4 1 || !fieldAtMost v 5 1 then
      refuse .badValue s
    else
      let t := s.setPort p (storePort v (s.port p))
      okay (if carries v 0 then t.setStage p { t.stage p with out := (t.port p).polarity.inactiveLevel } else t)
  else refuse .badIndex s

/-- The RELAY timing stored (R155). -/
def storeTiming (v : List (Nat × Nat)) (t : RelayTiming) : RelayTiming :=
  { lowLen := stored v 1 t.lowLen (clamp 0 63)
    highLen := stored v 2 t.highLen (clamp 0 63)
    stallLimit := stored v 3 t.stallLimit (fun n => BitVec.ofNat 16 (clamp 1 65535 n))
    busFreeWait := stored v 4 t.busFreeWait (fun n => BitVec.ofNat 16 (clamp 1 65535 n))
    deferLimit := stored v 5 t.deferLimit (fun n => BitVec.ofNat 8 (clamp 1 255 n)) }

/-- WRITE to RELAY (R155). -/
def answerWriteRelay (r : Request) (s : State) : Answer :=
  let v := reqFields [1, 1, 1, 2, 2, 1] r
  if reqIndex r ≠ 0 then refuse .badIndex s
  else if s.ccr.engine.isSome || !s.ccr.queue.isEmpty then refuse .busy s
  else if !maskBelow 6 r then refuse .badValue s
  else okay { s with
    ccr := { s.ccr with tickCode := stored v 0 s.ccr.tickCode (clamp 0 14), timing := storeTiming v s.ccr.timing }
    bpt := { s.bpt with relayPre := if carries v 0 then .reset else s.bpt.relayPre } }

/-- WRITE to EVENT: the enables stored, and EVU's work at the change (R157, R189). -/
def answerWriteEvent (r : Request) (s : State) : Answer :=
  let v := reqFields [1, 1] r
  if h : reqIndex r < 11 then
    let g : GroupIx := ⟨reqIndex r, h⟩
    if !maskBelow 2 r || !fieldAtMost v 1 1 || stored v 0 0#8 (BitVec.ofNat 8) &&& ~~~factorMask g != 0 then
      refuse .badValue s
    else
      let e := { s.evu with
        enables := s.evu.enables.set g (stored v 0 s.evu.enables[g] (BitVec.ofNat 8))
        notice := s.evu.notice.set g (stored v 1 s.evu.notice[g] (· == 1)) }
      okay (evuChanged s.evu g { s with evu := e })
  else refuse .badIndex s

/-! ### WRITE: the tables without behaviour of their own -/

/-- The PLAN fields stored (R29). -/
def storePlan (v : List (Nat × Nat)) (x : PlanEntry) : PlanEntry :=
  { enabled := stored v 0 x.enabled (· == 1)
    sensor := stored v 1 x.sensor sensorOf
    port := stored v 2 x.port portOf
    offset := stored v 3 x.offset (fun n => BitVec.ofNat 32 (clamp 1 (2 ^ 31) n))
    stream := stored v 4 x.stream streamOf
    width := stored v 5 x.width (fun n => BitVec.ofNat 16 (clamp 1 65535 n))
    tag := stored v 6 x.tag (BitVec.ofNat 8) }

/-- WRITE to PLAN (R29). -/
def answerWritePlan (r : Request) (s : State) : Answer :=
  let v := reqFields [1, 1, 1, 4, 1, 2, 1] r
  if h : reqIndex r < 16 then
    if !maskBelow 7 r || !fieldAtMost v 0 1 || !fieldAtMost v 1 3 || !fieldAtMost v 2 5 || !fieldAtMost v 4 15 then
      refuse .badValue s
    else okay (s.setPlanEntry ⟨reqIndex r, h⟩ (storePlan v (s.planEntry ⟨reqIndex r, h⟩)))
  else refuse .badIndex s

/-- The STREAM configuration stored (R110). -/
def storeStream (v : List (Nat × Nat)) (x : Stream) : Stream :=
  { x with
    boundPort := stored v 0 x.boundPort portOf
    reservation := stored v 1 x.reservation (fun n => BitVec.ofNat 16 (clamp 1 65535 n))
    maxHeld := stored v 2 x.maxHeld (fun n => BitVec.ofNat 8 (clamp 1 255 n))
    spare := stored v 3 x.spare (· == 1) }

/-- WRITE to STREAM (R110). -/
def answerWriteStream (r : Request) (s : State) : Answer :=
  let v := reqFields [1, 2, 1, 1] r
  if h : reqIndex r < 16 then
    let i : StreamIx := ⟨reqIndex r, h⟩
    if (s.stream i).state ≠ .closed then refuse .state s
    else if !maskBelow 4 r || !fieldAtMost v 0 5 || !fieldAtMost v 3 1 then refuse .badValue s
    else okay (s.setStream i (storeStream v (s.stream i)))
  else refuse .badIndex s

/-- One slot of the shadow calendar written. -/
def setShadow (n : Nat) (x : Slot) (s : State) : State :=
  { s with scd := { s.scd with shadow := s.scd.shadow.set (n % 256) x (Nat.mod_lt _ (by decide)) } }

/-- WRITE to CAL_SHADOW (R143). -/
def answerWriteShadow (r : Request) (s : State) : Answer :=
  let v := reqFields [1] r
  if s.scd.swapPending then refuse .busy s
  else if !maskBelow 1 r || !fieldAtMost v 0 17 then refuse .badValue s
  else okay (stored v 0 s (fun n => setShadow (reqIndex r) (Slot.ofCode n) s))

/-- WRITE to LEVEL (R156). -/
def answerWriteLevel (r : Request) (s : State) : Answer :=
  let v := reqFields [1, 1] r
  if reqIndex r ≠ 0 then refuse .badIndex s
  else if !maskBelow 2 r then refuse .badValue s
  else okay { s with lvc :=
    { s.lvc with
      powerSettle := stored v 0 s.lvc.powerSettle (fun n => BitVec.ofNat 8 (clamp 1 255 n))
      drainLimit := stored v 1 s.lvc.drainLimit (fun n => BitVec.ofNat 8 (clamp 1 255 n)) } }

/-- WRITE to LINK (R133). -/
def answerWriteLink (r : Request) (s : State) : Answer :=
  let v := reqFields [1] r
  if reqIndex r ≠ 0 then refuse .badIndex s
  else if !maskBelow 1 r then refuse .badValue s
  else okay { s with flk := { s.flk with holdLimit := stored v 0 s.flk.holdLimit (BitVec.ofNat 8) } }

/-- WRITE to a table without a row of its own, or to no table (R154). CAL_ACTIVE is answered ACTIVE_TABLE before any other check (R143). -/
def answerWritePlain (r : Request) (s : State) : Answer :=
  match reqTable r with
  | 1 => answerWritePlan r s
  | 3 => answerWriteStream r s
  | 4 => answerWriteShadow r s
  | 5 => refuse .activeTable s
  | 9 => answerWriteLevel r s
  | 10 => answerWriteLink r s
  | _ => refuse .badTable s

end Sys2Proof.Machine
end

