-- ==== Sys2Proof/Machine/Commands.lean ====
section
/-! DEFINITION. The Management Engine's takes (R149-R162): one meaning for each management row. -/

namespace Sys2Proof.Machine

/-! ### Taking a request (R149) -/

/-- The payload of a response: tag, status, operation code, and the data of an OK response (R123, R152). -/
def responsePayload (r : Request) (a : Answer) : List Byte :=
  [reqTag r, a.status.code, byteAt r 1] ++ (if a.status = .ok then a.data else [])

/-- The response placed at the tail of the output queue (R149, R150). `isReset` marks the reset response (R163). -/
def placeResponse (isReset : Bool) (r : Request) (a : Answer) : State :=
  a.after.setOutput (a.after.mge.output ++ [.response isReset (responsePayload r a)])

/-- MGE may take a request: it is not RESET_PENDING and a response position is free (R149, conditions 2 and 3). -/
def State.mayTake (s : State) : Bool := !s.mge.resetPending && decide (s.responses < Config.responseMax)

/-- A row's take: where the head of the request queue is a request of this row and MGE may take it, the head leaves the queue, the owner
answers, and the response is placed. Elsewhere the row's event does not come about (log 1). -/
def takeRow (isReset : Bool) (accepts : Request → Bool) (owner : Request → State → Answer) (s : State) : State :=
  match s.mge.requests with
  | [] => s
  | r :: rest =>
    if accepts r && s.mayTake then
      placeResponse isReset r (owner r { s with mge := { s.mge with requests := rest } })
    else s

/-! ### The owners' answers -/

/-- WRITE_CAL (R142). -/
def answerWriteCal (r : Request) (s : State) : Answer :=
  let count := reqNat r 4
  let values := (reqValues r).take count
  if s.scd.swapPending then refuse .busy s
  else if count = 0 ∨ 48 < count ∨ values.any (fun b => decide (17 < b.toNat)) = true then refuse .badValue s
  else okay (values.zipIdx.foldl (fun t (b, k) => setShadow (reqNat r 3 + k) (Slot.ofCode b.toNat) t) s)

/-- CAL_SWAP (R144). -/
def answerCalSwap (_ : Request) (s : State) : Answer :=
  if s.scd.swapPending then refuse .busy s
  else if ¬ Slot.mgmt ∈ s.scd.shadow.toList then refuse .badValue s
  else okay { s with scd := { s.scd with swapPending := true } }

/-- A group's counters in the order of R190; for group 8, those of the named stream. -/
def groupCounters (group stream : Nat) (s : State) : List (BitVec 32) :=
  if group = 0 then [s.bpt.forwardEdges, s.bpt.reverseEdges, s.bpt.stalls]
  else if group = 1 then
    [s.trq.partsRegistered, s.trq.lockoutEdges, s.trq.reverseSensorEdges, s.trq.triggersFired, s.trq.triggersFailed]
  else if group < 8 then
    let x := s.port (portOf (group - 2))
    [x.frames, x.parityErrors, x.framingErrors, x.checksumErrors, x.orphans, x.missing]
  else if group = 8 then
    let x := s.stream (streamOf stream)
    [x.cellsSent, x.framesAdmitted, x.framesRejected, x.recordsLost]
  else if group = 9 then [s.flk.badCells, s.flk.resyncs, s.flk.holds]
  else [s.mge.dropped]

/-- A group's counters set to 0 (R159). -/
def clearCounters (group stream : Nat) (s : State) : State :=
  if group = 0 then { s with bpt := { s.bpt with forwardEdges := 0, reverseEdges := 0, stalls := 0 } }
  else if group = 1 then
    { s with trq :=
      { s.trq with partsRegistered := 0, lockoutEdges := 0, reverseSensorEdges := 0, triggersFired := 0, triggersFailed := 0 } }
  else if group < 8 then
    let p := portOf (group - 2)
    s.setPort p
      { s.port p with frames := 0, parityErrors := 0, framingErrors := 0, checksumErrors := 0, orphans := 0, missing := 0 }
  else if group = 8 then
    let i := streamOf stream
    s.setStream i { s.stream i with cellsSent := 0, framesAdmitted := 0, framesRejected := 0, recordsLost := 0 }
  else if group = 9 then { s with flk := { s.flk with badCells := 0, resyncs := 0, holds := 0 } }
  else { s with mge := { s.mge with dropped := 0 } }

/-- READ_COUNTERS (R159). -/
def answerReadCounters (r : Request) (s : State) : Answer :=
  let group := reqNat r 2
  let stream := reqNat r 3
  let flag := reqNat r 4
  if 10 < group ∨ (group = 8 ∧ 15 < stream) then refuse .badIndex s
  else if 1 < flag then refuse .badValue s
  else
    okayData ((groupCounters group stream s).flatMap (fun x => be 4 x.toNat))
      (if flag = 1 then clearCounters group stream s else s)

/-- CLEAR_EVENTS (R160, R189). -/
def answerClearEvents (r : Request) (s : State) : Answer :=
  if h : reqNat r 2 < 11 then
    let g : GroupIx := ⟨reqNat r 2, h⟩
    let mask := byteAt r 4
    if mask &&& ~~~factorMask g != 0 then refuse .badValue s
    else
      okay (evuChanged s.evu g
        { s with evu := { s.evu with factors := s.evu.factors.set g (s.evu.factors[g] &&& ~~~mask) } })
  else refuse .badIndex s

/-- A STREAM_CMD whose stream is in range and whose action is the row's, handed to CBM (R158). -/
def streamCmd (cbm : StreamIx → State → Answer) (r : Request) (s : State) : Answer :=
  if h : reqNat r 2 < 16 then
    if 2 < reqNat r 3 then refuse .badValue s else cbm ⟨reqNat r 2, h⟩ s
  else refuse .badIndex s

/-- A PORT_CMD whose port is in range and whose action is the row's, handed to CPR (R158). -/
def portCmd (cpr : PortIx → State → State) (r : Request) (s : State) : Answer :=
  if h : reqNat r 2 < 6 then
    if 1 < reqNat r 3 then refuse .badValue s else okay (cpr ⟨reqNat r 2, h⟩ s)
  else refuse .badIndex s

/-- OPEN at CBM (R105). -/
def answerOpen (i : StreamIx) (s : State) : Answer :=
  if (s.stream i).state = .closed then okay (openSteps i s) else refuse .state s

/-- CLOSE at CBM (R106). -/
def answerClose (i : StreamIx) (s : State) : Answer :=
  match (s.stream i).state with
  | .opened => okay (closeSteps i s)
  | .draining => okay s
  | .closed => refuse .state s

/-- FLUSH at CBM (R107). -/
def answerFlush (i : StreamIx) (s : State) : Answer :=
  if (s.stream i).state = .closed then refuse .state s else okay (flushSteps i s)

/-- ENABLE at CPR, with its effect on TRQ (R42, R59). -/
def enableSteps (p : PortIx) (s : State) : State :=
  if (s.port p).enabled then s
  else
    let goesIdle := s.lvc.level.portsLive ∧ (s.port p).state = .off
    let t := s.setPort p { s.port p with enabled := true, state := if goesIdle then .idle else (s.port p).state }
    t.setStage p { t.stage p with count := 0 }

/-- DISABLE at CPR, with its effects on TRQ and XCR (R42, R60, R74). -/
def disableSteps (p : PortIx) (s : State) : State :=
  if (s.port p).enabled then
    let t := if (s.port p).state = .inFrame then abortFrame p s else s
    let t := t.setPort p { t.port p with enabled := false, state := .off }
    let t := t.setStage p (clearStage (t.port p) (t.stage p))
    removeAll p .portOff (t.exposures p) t
  else s

/-- The settled level with a SET_LEVEL code (R122). -/
def Level.ofCode : Nat → Option Level
  | 0 => some .listen
  | 1 => some .standby
  | 2 => some .run
  | _ => none

/-- One of the three settled levels (R192). -/
def Level.settled : Level → Bool
  | .listen | .standby | .run => true
  | .powering | .emptying | .shutting => false

/-- SET_LEVEL at LVC (R193). -/
def answerSetLevel (r : Request) (s : State) : Answer :=
  if !s.lvc.level.settled then refuse .busy s
  else
    match Level.ofCode (reqNat r 2) with
    | none => refuse .badValue s
    | some x => okay (if x = s.lvc.level then setFactor .ctlLevelReached s else beginTransition x s)

/-- The sensors' lockout state cleared (R26). -/
def clearLockout (s : State) : State :=
  { s with trq := { s.trq with sensors := s.trq.sensors.map (fun x => { x with lastReg := none }) } }

/-- A preset of P (R17, R26). -/
def presetBelt (value : BitVec 32) (s : State) : State :=
  let old := s.finePos
  let t := { s with bpt := { enterListen s.bpt with p := value, fraction := 0 } }
  deliverF old (clearLockout (setFactor .bptPreset t))

/-- BELT_PRESET at BPT (R17). -/
def answerBeltPreset (r : Request) (s : State) : Answer :=
  if s.lvc.level = .listen ∨ s.lvc.level = .standby then
    okay (presetBelt (BitVec.ofNat 32 (ofBe ((reqValues r).take 4))) s)
  else refuse .state s

/-- The levels at which a RELAY is accepted (R161). -/
def Level.relayAccepted : Level → Bool
  | .standby | .run | .emptying => true
  | .listen | .powering | .shutting => false

/-- The relay request that a RELAY carries (R161, R167). -/
def relayRequest (r : Request) : RelayReq :=
  { tag := reqTag r
    port := if reqNat r 2 = 6 then .all else .one (portOf (reqNat r 2))
    addr := (byteAt r 3).setWidth 7
    bytes := (r.drop 7).take (reqNat r 4)
    readCount := reqNat r 5
    deferred := reqNat r 6 == 1
    aborted := false }

/-- RELAY: checked, and handed to CCR (R161). -/
def answerRelay (r : Request) (s : State) : Answer :=
  if 6 < reqNat r 2 then refuse .badIndex s
  else if !s.lvc.level.relayAccepted then refuse .state s
  else if Config.relayMax ≤ s.ccr.queue.length then refuse .busy s
  else if 127 < reqNat r 3 ∨ 16 < reqNat r 4 ∨ 16 < reqNat r 5 ∨ 1 < reqNat r 6 ∨ (reqNat r 2 = 6 ∧ reqNat r 5 ≠ 0) then
    refuse .badValue s
  else { status := .queued, data := [], after := { s with ccr := { s.ccr with queue := s.ccr.queue ++ [relayRequest r] } } }

/-- The STATUS snapshot (R123, R162). -/
def statusData (s : State) : List Byte :=
  [s.lvc.level.code, s.flk.rx.code, flagByte s.flk.held] ++ be 3 s.freeCount ++ be 3 s.cbm.reserved ++ be 2 s.evu.summary ++
  [flagByte s.scd.swapPending, flagByte s.ccr.engine.isSome, BitVec.ofNat 8 s.ccr.queue.length,
    BitVec.ofNat 8 s.mge.requests.length, BitVec.ofNat 8 s.mge.output.length] ++
  be 6 s.lineTime.toNat

/-- SOFT_RESET at MGE (R163). -/
def answerSoftReset (_ : Request) (s : State) : Answer :=
  okay { s with mge := { s.mge with resetPending := true } }

/-! ### The commands -/

/-- BAD_OP (R152). -/
def execBadOp (s : State) : Host.Outcome State Fault Refusal :=
  .next (takeRow false isBadOp (fun _ t => refuse .badOp t) s)

/-- READ (R153). -/
def execRead (s : State) : Host.Outcome State Fault Refusal :=
  .next (takeRow false (fun r => reqOp r == opRead) answerRead s)

/-- WRITE to PLAN, STREAM, CAL_SHADOW, CAL_ACTIVE, LEVEL or LINK, or to no table (R154). -/
def execWrite (s : State) : Host.Outcome State Fault Refusal :=
  .next (takeRow false writesPlain answerWritePlain s)

/-- WRITE_BELT (R18). -/
def execWriteBelt (s : State) : Host.Outcome State Fault Refusal :=
  .next (takeRow false (writesTable 6) answerWriteBelt s)

/-- WRITE_TRIGGER (R21). -/
def execWriteTrigger (s : State) : Host.Outcome State Fault Refusal :=
  .next (takeRow false (writesTable 7) answerWriteTrigger s)

/-- WRITE_SENSOR (R23). -/
def execWriteSensor (s : State) : Host.Outcome State Fault Refusal :=
  .next (takeRow false (writesTable 0) answerWriteSensor s)

/-- WRITE_PORT (R61). -/
def execWritePort (s : State) : Host.Outcome State Fault Refusal :=
  .next (takeRow false (writesTable 2) answerWritePort s)

/-- WRITE_RELAY (R155). -/
def execWriteRelay (s : State) : Host.Outcome State Fault Refusal :=
  .next (takeRow false (writesTable 8) answerWriteRelay s)

/-- WRITE_EVENT (R157). -/
def execWriteEvent (s : State) : Host.Outcome State Fault Refusal :=
  .next (takeRow false (writesTable 11) answerWriteEvent s)

/-- WRITE_CAL (R142). -/
def execWriteCal (s : State) : Host.Outcome State Fault Refusal :=
  .next (takeRow false (fun r => reqOp r == opWriteCal) answerWriteCal s)

/-- READ_COUNTERS (R159). -/
def execReadCounters (s : State) : Host.Outcome State Fault Refusal :=
  .next (takeRow false (fun r => reqOp r == opReadCounters) answerReadCounters s)

/-- CLEAR_EVENTS (R160). -/
def execClearEvents (s : State) : Host.Outcome State Fault Refusal :=
  .next (takeRow false (fun r => reqOp r == opClearEvents) answerClearEvents s)

/-- OPEN (R105). -/
def execOpen (s : State) : Host.Outcome State Fault Refusal :=
  .next (takeRow false (isStreamCmd 0) (streamCmd answerOpen) s)

/-- CLOSE (R106). -/
def execClose (s : State) : Host.Outcome State Fault Refusal :=
  .next (takeRow false (isStreamCmd 1) (streamCmd answerClose) s)

/-- FLUSH (R107). -/
def execFlush (s : State) : Host.Outcome State Fault Refusal :=
  .next (takeRow false (isStreamCmd 2) (streamCmd answerFlush) s)

/-- ENABLE (R59). -/
def execEnable (s : State) : Host.Outcome State Fault Refusal :=
  .next (takeRow false (isPortCmd 0) (portCmd enableSteps) s)

/-- DISABLE (R60). -/
def execDisable (s : State) : Host.Outcome State Fault Refusal :=
  .next (takeRow false (isPortCmd 1) (portCmd disableSteps) s)

/-- CAL_SWAP (R144). -/
def execCalSwap (s : State) : Host.Outcome State Fault Refusal :=
  .next (takeRow false (fun r => reqOp r == opCalSwap) answerCalSwap s)

/-- SET_LEVEL (R193). -/
def execSetLevel (s : State) : Host.Outcome State Fault Refusal :=
  .next (takeRow false (fun r => reqOp r == opSetLevel) answerSetLevel s)

/-- BELT_PRESET (R17). -/
def execBeltPreset (s : State) : Host.Outcome State Fault Refusal :=
  .next (takeRow false (fun r => reqOp r == opBeltPreset) answerBeltPreset s)

/-- RELAY (R161). -/
def execRelay (s : State) : Host.Outcome State Fault Refusal :=
  .next (takeRow false (fun r => reqOp r == opRelay) answerRelay s)

/-- STATUS (R162). -/
def execStatus (s : State) : Host.Outcome State Fault Refusal :=
  .next (takeRow false (fun r => reqOp r == opStatus) (fun _ t => okayData (statusData t) t) s)

/-- SOFT_RESET (R163). -/
def execSoftReset (s : State) : Host.Outcome State Fault Refusal :=
  .next (takeRow true (fun r => reqOp r == opSoftReset) answerSoftReset s)

end Sys2Proof.Machine
end

