-- ==== Sys2Proof/Machine/Resets.lean ====
section
/-! DEFINITION. Power-on and the soft reset, block by block from the reset tables (R20, R44, R63, R87, R112, R135, R147, R166, R183, R191, R197), and the commands
POWER_ON and SOFT_RESET_CARRIED_OUT. -/

namespace Sys2Proof.Machine

/-- A filter at a soft reset: the level kept, the run count 0 (R4). -/
def Filter.soft (f : Filter) : Filter := { f with run := 0 }

/-- BPT at a soft reset (R20). -/
def softBpt (b : Bpt) : Bpt :=
  { Bpt.reset with
    tickCode := b.tickCode, stepDepth := b.stepDepth, dirDepth := b.dirDepth, polarity := b.polarity
    stepFilter := b.stepFilter.soft, dirFilter := b.dirFilter.soft }

/-- TRQ at a soft reset (R44); `ports` gives each output's inactive level. -/
def softTrq (ports : Vector Port 6) (q : Trq) : Trq :=
  { Trq.reset with
    tickCode := q.tickCode
    sensors := q.sensors.map (fun x => { x with filter := x.filter.soft, lastReg := none })
    plan := q.plan
    stages := ports.map (fun x => { Stage.reset with out := x.polarity.inactiveLevel }) }

/-- A port at a soft reset (R63). -/
def softPort (x : Port) : Port :=
  { x with
    state := .off, frame := none
    frames := 0, parityErrors := 0, framingErrors := 0, checksumErrors := 0, orphans := 0, missing := 0 }

/-- A stream at a soft reset: the configuration kept (R112); the open-transmitted frame number is kept until it is next set (R103). -/
def softStream (x : Stream) : Stream :=
  { x with
    state := .closed, queue := [], framesHeld := 0, seq := 0, frameCounter := 0, inProgress := false, openTx := false
    cellsSent := 0, framesAdmitted := 0, framesRejected := 0, recordsLost := 0 }

/-- CBM at a soft reset; `tx` is the cell in transmission (R89, R112). -/
def softCbm (tx : Option TxCell) (c : Cbm) : Cbm :=
  { mem := c.mem
    free := match tx with
      | some { owner := .stream index, .. } => allBut index
      | _ => allCells
    reserved := 0
    streams := c.streams.map softStream }

/-- A cell in transmission completes at a soft reset; neither MGE nor EVU acts on its end any more (R116, R164, R191). -/
def softTx (x : TxCell) : TxCell :=
  match x.owner with
  | .event _ => { x with owner := .event false }
  | .response _ => { x with owner := .response false }
  | .stream _ | .idle => x

/-- FLK at a soft reset (R135). -/
def softFlk (f : Flk) : Flk := { f with tx := f.tx.map softTx, badCells := 0, resyncs := 0, holds := 0 }

/-- SCD at a soft reset (R147). -/
def softScd (c : Scd) : Scd := { c with slotPtr := 0, sparePtr := 0, swapPending := false }

/-- CCR at a soft reset (R183). -/
def softCcr (c : Ccr) : Ccr :=
  { c with queue := [], engine := none, wires := Vector.replicate 6 .released }

/-- EVU at a soft reset, before CONTROL.SOFT_RESET is set (R191, steps 1 and 2). -/
def softEvu (e : Evu) : Evu := { Evu.reset with enables := e.enables, notice := e.notice }

/-- LVC at a soft reset (R197). -/
def softLvc (x : Lvc) : Lvc := { Lvc.reset with powerSettle := x.powerSettle, drainLimit := x.drainLimit }

/-- The soft reset of every block, and EVU's last steps (R164, R191). -/
def softResetAll (s : State) : State :=
  setFactor .ctlSoftReset
    { bpt := softBpt s.bpt
      trq := softTrq s.cpr s.trq
      cpr := s.cpr.map softPort
      xcr := { lists := Vector.replicate 6 [] }
      cbm := softCbm s.flk.tx s.cbm
      flk := softFlk s.flk
      scd := softScd s.scd
      mge := .reset
      ccr := softCcr s.ccr
      evu := softEvu s.evu
      lvc := softLvc s.lvc
      pending := s.pending }

/-! ### The commands -/

/-- POWER_ON: every block's power-on state. The DRAM contents are not cleared (R112), and the waiting commands stay. -/
def execPowerOn (s : State) : Host.Outcome State Fault Refusal :=
  .next { State.reset with cbm := { Cbm.reset with mem := s.cbm.mem }, pending := s.pending }

/-- SOFT_RESET_CARRIED_OUT: while RESET_PENDING, once one of the two events of R164 has been taken. -/
def execSoftResetCarriedOut (s : State) : Host.Outcome State Fault Refusal :=
  .next (if s.mge.resetPending && s.mge.resetDue then softResetAll s else s)

end Sys2Proof.Machine
end

