-- ==== Sys2Proof/Machine/Dispatch.lean ====
section
/-! DEFINITION. One arm for each row of spec/opcode_table.json. -/

namespace Sys2Proof.Machine

def exec (i : Instr) (s : State) : Host.Outcome State Fault Refusal :=
  match i with
  | .powerOn => Sys2Proof.Machine.execPowerOn s
  | .beltTick step dir => Sys2Proof.Machine.execBeltTick step dir s
  | .stall => Sys2Proof.Machine.execStall s
  | .triggerTick lines => Sys2Proof.Machine.execTriggerTick lines s
  | .pulseEnd p => Sys2Proof.Machine.execPulseEnd p s
  | .rearmGapEnd p => Sys2Proof.Machine.execRearmGapEnd p s
  | .idleWord p parity value => Sys2Proof.Machine.execIdleWord p parity value s
  | .frameStart p parity value => Sys2Proof.Machine.execFrameStart p parity value s
  | .lineStart p parity value => Sys2Proof.Machine.execLineStart p parity value s
  | .data p parity value => Sys2Proof.Machine.execData p parity value s
  | .frameEnd p parity value => Sys2Proof.Machine.execFrameEnd p parity value s
  | .undefinedKindWord p kind parity value => Sys2Proof.Machine.execUndefinedKindWord p kind parity value s
  | .exposureExpiry p => Sys2Proof.Machine.execExposureExpiry p s
  | .cellSlot => Sys2Proof.Machine.execCellSlot s
  | .calendarSwap => Sys2Proof.Machine.execCalendarSwap s
  | .transmissionEnd => Sys2Proof.Machine.execTransmissionEnd s
  | .holdExpiry => Sys2Proof.Machine.execHoldExpiry s
  | .delimiterFound light => Sys2Proof.Machine.execDelimiterFound light s
  | .lossOfLight => Sys2Proof.Machine.execLossOfLight s
  | .badCell cell => Sys2Proof.Machine.execBadCell cell s
  | .idleCell cell => Sys2Proof.Machine.execIdleCell cell s
  | .hold cell => Sys2Proof.Machine.execHold cell s
  | .resume cell => Sys2Proof.Machine.execResume cell s
  | .mgmtReq cell => Sys2Proof.Machine.execMgmtReq cell s
  | .badOp => Sys2Proof.Machine.execBadOp s
  | .read => Sys2Proof.Machine.execRead s
  | .write => Sys2Proof.Machine.execWrite s
  | .writeBelt => Sys2Proof.Machine.execWriteBelt s
  | .writeTrigger => Sys2Proof.Machine.execWriteTrigger s
  | .writeSensor => Sys2Proof.Machine.execWriteSensor s
  | .writePort => Sys2Proof.Machine.execWritePort s
  | .writeRelay => Sys2Proof.Machine.execWriteRelay s
  | .writeEvent => Sys2Proof.Machine.execWriteEvent s
  | .writeCal => Sys2Proof.Machine.execWriteCal s
  | .readCounters => Sys2Proof.Machine.execReadCounters s
  | .clearEvents => Sys2Proof.Machine.execClearEvents s
  | .openStream => Sys2Proof.Machine.execOpen s
  | .closeStream => Sys2Proof.Machine.execClose s
  | .flushStream => Sys2Proof.Machine.execFlush s
  | .enablePort => Sys2Proof.Machine.execEnable s
  | .disablePort => Sys2Proof.Machine.execDisable s
  | .calSwap => Sys2Proof.Machine.execCalSwap s
  | .setLevel => Sys2Proof.Machine.execSetLevel s
  | .beltPreset => Sys2Proof.Machine.execBeltPreset s
  | .relay => Sys2Proof.Machine.execRelay s
  | .status => Sys2Proof.Machine.execStatus s
  | .softReset => Sys2Proof.Machine.execSoftReset s
  | .softResetCarriedOut => Sys2Proof.Machine.execSoftResetCarriedOut s
  | .relayEngineTake => Sys2Proof.Machine.execRelayEngineTake s
  | .relayTick clk dat => Sys2Proof.Machine.execRelayTick clk dat s
  | .deferTimeout => Sys2Proof.Machine.execDeferTimeout s
  | .stallTimeout => Sys2Proof.Machine.execStallTimeout s
  | .relayResult => Sys2Proof.Machine.execRelayResult s
  | .settleExpiry => Sys2Proof.Machine.execSettleExpiry s
  | .drainComplete => Sys2Proof.Machine.execDrainComplete s
  | .drainExpiry order => Sys2Proof.Machine.execDrainExpiry order s
  | .shuttingEnd order => Sys2Proof.Machine.execShuttingEnd order s
  | .referenceClockPeriod => Sys2Proof.Machine.execReferenceClockPeriod s

end Sys2Proof.Machine
end

