-- ==== Sys2Proof/Safety.lean ====
section
/-! DEFINITION. The terms in which claims about the part are made: what a command raises and what it leaves alone, how a request is read, and
the laws of the part, each a predicate of one state. -/

namespace Sys2Proof.Machine

/-! ### What a command raises and leaves alone -/

/-- The factors of `fs` were set and no other changed, and no more than one event cell joined the output queue (R184, R187). Nothing else
of EVU and MGE changed. -/
structure Raised (fs : List Factor) (s t : State) : Prop where
  factors : ∀ f : Factor, t.evu.has f = (s.evu.has f || decide (f ∈ fs))
  enables : t.evu.enables = s.evu.enables
  notice : t.evu.notice = s.evu.notice
  reported : t.evu.reported = s.evu.reported
  cell : (t.mge.output = s.mge.output ∧ t.evu.eventPending = s.evu.eventPending) ∨
    (s.evu.eventPending = false ∧ t.evu.eventPending = true ∧ ∃ payload, t.mge.output = s.mge.output ++ [.event payload])
  requests : t.mge.requests = s.mge.requests
  resetPending : t.mge.resetPending = s.mge.resetPending
  resetDue : t.mge.resetDue = s.mge.resetDue
  dropped : t.mge.dropped = s.mge.dropped

/-- `t` with EVU and MGE as they are in `s`: what a command did to every other block. -/
def State.withReportsOf (t s : State) : State := { t with evu := s.evu, mge := s.mge }

/-- The WRAP factor of a counter that stood at `old` before it was incremented, if it wrapped (R190). -/
def wrapsAt (old : BitVec 32) (f : Factor) : List Factor := if old = 0xFFFFFFFF#32 then [f] else []

/-- The head of the request queue taken off (R149). -/
def State.popped (s : State) (rest : List Request) : State := { s with mge := { s.mge with requests := rest } }

/-- A response placed at the tail of the output queue (R149). -/
def State.placed (s : State) (payload : List Byte) : State := s.setOutput (s.mge.output ++ [.response false payload])

/-- A request taken and answered with `payload`, and nothing else. -/
def State.answered (s : State) (rest : List Request) (payload : List Byte) : State := (s.popped rest).placed payload

/-- The response to request `r`: its tag, the status with this code, its operation code, and the data (R123, R152). -/
def reply (r : Request) (code : Byte) (data : List Byte := []) : List Byte := [byteAt r 0, code, byteAt r 1] ++ data

/-- The head of the request queue is `r`, which MGE may take (R149). -/
abbrev State.offers (s : State) (r : Request) (rest : List Request) : Prop :=
  s.mge.requests = r :: rest ∧ s.mge.resetPending = false ∧ s.responses < 15

/-- Commands carried out one after another. -/
def runs : List Instr → State → Host.Outcome State Fault Refusal
  | [], s => .next s
  | c :: rest, s =>
    match exec c s with
    | .next t => runs rest t
    | x => x

/-! ### Records and received cells -/

/-- What CBM does with a record handed to it for stream `i` (R99): it is queued in the cell at the head of the free list, whose other
payload bytes are zero, or it is lost, which the counter and the factor say. -/
def RecordWent (i : StreamIx) (kind : CellKind) (payload : List Byte) (f : BitVec 8) (closing : Bool) (s t : State) : Prop :=
  ((s.stream i).state ≠ .closed ∧ s.cbm.reserved < s.freeCount ∧
    ∃ k, freeCells s.cbm.free = k :: freeCells t.cbm.free ∧
      (t.stream i).queue = (s.stream i).queue ++ [{ index := k, kind, len := payload.length, frameNo := f, closing }] ∧
      t.cbm.mem = writePayload s.cbm.mem k payload ∧ (t.stream i).recordsLost = (s.stream i).recordsLost) ∨
  (((s.stream i).state = .closed ∨ s.freeCount ≤ s.cbm.reserved) ∧
    t.cbm.free = s.cbm.free ∧ t.cbm.mem = s.cbm.mem ∧
    (t.stream i).recordsLost = (s.stream i).recordsLost + 1 ∧ t.evu.has .cbmRecordLost = true ∧
    (closing = false → (t.stream i).queue = (s.stream i).queue))

/-- The 21 payload bytes of the missing record of an exposure of port `p` (R83, R120). -/
def exposureMissing (p : PortIx) (x : Exposure) (cause : Byte) (l : LineTime) : List Byte :=
  [0x80, BitVec.ofNat 8 p.val, BitVec.ofNat 8 x.plan.val, x.tag] ++ be 4 x.part.toNat ++ [x.count, cause] ++ be 5 x.fireF.toNat ++
  be 6 l.toNat

/-- The 21 payload bytes of the missing record of a trigger that never fired (R83, R120). -/
def triggerMissing (e : TrigEntry) (cause : Byte) (l : LineTime) : List Byte :=
  [0, BitVec.ofNat 8 e.port.val, BitVec.ofNat 8 e.plan.val, e.tag] ++ be 4 e.part.toNat ++ [0xFF, cause] ++ be 5 e.due.toNat ++
  be 6 l.toNat

/-- Missing records handed to CBM one after another, each a stream and its payload (R76, R101; what each handing over does: `RecordWent`). -/
def handMissing (records : List (StreamIx × List Byte)) (s : State) : State :=
  records.foldl (fun t r => handRecord r.1 .missing r.2 (t.stream r.1).frameCounter false t) s

/-- The missing records of a list of exposures of port `p`, oldest first, each for its exposure's stream (R84). -/
def listMissing (p : PortIx) (list : List Exposure) (cause : Byte) (l : LineTime) : List (StreamIx × List Byte) :=
  list.map (fun x => (x.stream, exposureMissing p x cause l))

/-- The frame's partial cell as it is committed at a close or an abort, if there is one (R97, R98). -/
def FrameCtx.lastCell (f : FrameCtx) : List QCell :=
  f.assembly.toList.map (fun a =>
    { index := a.index, kind := if f.committed then .dataLast else .dataOnly, len := 2 * a.words, frameNo := f.frameNo, closing := false })

/-- The 49 payload bytes of the ABORTED capture record of frame `f` at port `p` (R57, R78, R79, R81, R119). -/
def abortedBytes (p : PortIx) (f : FrameCtx) (l : LineTime) : List Byte :=
  let flags : Byte :=
    (if f.exposure.isSome then 0x88 else 0x0C) ||| (if f.parity then 0x40 else 0) ||| (if f.checksumBad then 0x20 else 0) |||
    (if f.truncated then 0x10 else 0)
  [flags, BitVec.ofNat 8 p.val] ++
  (match f.exposure with
    | some e => [BitVec.ofNat 8 e.plan.val, e.tag] ++ be 4 e.part.toNat ++ [e.count]
    | none => List.replicate 7 0xFF) ++
  [f.camCount, f.format, f.frameNo] ++
  (match f.exposure with
    | some e => be 5 e.fireF.toNat ++ be 6 e.fireL.toNat
    | none => List.replicate 11 0xFF) ++
  be 6 f.startL.toNat ++ be 6 l.toNat ++ be 4 f.received.toNat ++ be 4 f.forwarded.toNat ++ be 2 f.lines.toNat ++
  [0, 0] ++ be 2 f.computed.toNat

/-- What an abort of the frame in progress at port `p`, if there is one, does at CBM (R57, R97-R100, R106): the partial cell committed, the
reservation returned, the ABORTED record handed over with the closing mark, and a DRAINING stream left with nothing closed. -/
def frameAborted (p : PortIx) (s : State) : State :=
  match (s.port p).frame with
  | none => s
  | some f =>
    let i := f.stream
    let t := (s.setReserved (s.cbm.reserved - f.remaining)).setStream i
      { s.stream i with queue := (s.stream i).queue ++ f.lastCell, inProgress := false }
    let t := handRecord i .capture (abortedBytes p f s.bpt.lineTime) f.frameNo true t
    if (t.stream i).state = .draining ∧ (t.stream i).queue = [] then
      setFactor .cbmStreamClosed (t.setStream i { t.stream i with state := .closed })
    else t

/-- The 16 bits that bytes 6 and 7 of a received cell carry are its CRC (R114). -/
def crcRight (cell : List Byte) : Prop :=
  (crc16 (cell.take 6 ++ (cell.drop 8).take 56)).toNat = 256 * (byteAt cell 6).toNat + (byteAt cell 7).toNat

/-- A cell of the management output queue as the link carries it (R116, R150). -/
def OutCell.sent : OutCell → TxCell
  | .response isReset payload => { owner := .response isReset, bytes := formCell 7 0 0 payload.length 0 payload }
  | .event payload => { owner := .event true, bytes := formCell 8 0 0 payload.length 0 payload }

/-- A received cell of kind `k` that is not bad, for a kind of the return direction (R115, R125). -/
def GoodCell (k : Byte) (cell : List Byte) : Prop :=
  cell.length = 64 ∧ crcRight cell ∧ byteAt cell 0 = k ∧ (byteAt cell 4).toNat ≤ 56

/-- A received cell that is bad (R125). -/
def BadCell (cell : List Byte) : Prop :=
  cell.length = 64 ∧
    (¬ crcRight cell ∨ (byteAt cell 0 ≠ 0 ∧ byteAt cell 0 ≠ 9 ∧ byteAt cell 0 ≠ 10 ∧ byteAt cell 0 ≠ 11) ∨ 56 < (byteAt cell 4).toNat)

/-! ### The relay engine -/

/-- A transaction (or the sub-transaction of a broadcast) ends with result `r`: the connected port's wires are released, and the engine stands in
REPORT or goes on with the walk, where the ports that are not enabled are NOT_ATTEMPTED, or those not yet come to ABORTED once SHUTTING
has begun (R180-R182). -/
def TxnEnds (x : Txn) (r : RelayResult) (s t : State) : Prop :=
  ∃ y : Txn, t = (s.setWires x.port { clkLow := false, datLow := false }).setEngine (some y) ∧ y.req = x.req ∧ y.timing = x.timing ∧
    (∀ p, x.req.port = .one p → y.phase = .report ∧ y.result = r ∧ y.rxBytes = x.rxBytes) ∧
    (x.req.port = .all → x.abortRest = true →
      y.phase = .report ∧ y.outcomes = x.outcomes ++ r :: List.replicate (5 - x.port.val) .aborted) ∧
    (x.req.port = .all → x.abortRest = false → (∀ q, x.port < q → (s.port q).enabled = false) →
      y.phase = .report ∧ y.outcomes = x.outcomes ++ r :: List.replicate (5 - x.port.val) .notAttempted) ∧
    (∀ q, x.req.port = .all → x.abortRest = false → x.port < q → (s.port q).enabled = true →
      (∀ q', x.port < q' → q' < q → (s.port q').enabled = false) →
      y.port = q ∧ y.outcomes = x.outcomes ++ r :: List.replicate (q.val - x.port.val - 1) .notAttempted ∧
      y.phase = if x.req.deferred && !s.quiet q then .deferring else .lineCheck)

/-- What the start of SHUTTING does to the relay (R182). -/
def RelayShut (s t : State) : Prop :=
  t.ccr = { s.ccr with queue := s.ccr.queue.map (fun r => { r with aborted := true }), engine := t.ccr.engine } ∧
  (s.ccr.engine = none → t.ccr.engine = none) ∧
  (∀ x, s.ccr.engine = some x → x.phase ≠ .deferring → t.ccr.engine = some { x with abortRest := true }) ∧
  (∀ x, s.ccr.engine = some x → x.phase = .deferring → ∃ y : Txn, t.ccr.engine = some y ∧ y.phase = .report ∧ y.req = x.req ∧
    ((∃ p, x.req.port = .one p) → y.resultData = [7, 0, 0]) ∧
    (x.req.port = .all → y.outcomes = x.outcomes ++ List.replicate (6 - x.port.val) .aborted))

/-! ### A WRITE's values, read field by field (R154) -/

/-- The bytes that the selected fields below field `n` take. -/
def widthBelow (widths : List Nat) (mask n : Nat) : Nat :=
  ((widths.zipIdx.take n).map (fun (w, m) => if mask.testBit m then w else 0)).sum

/-- The value that a WRITE with this mask carries for field `n`. -/
def carriedValue (widths : List Nat) (r : Request) (n : Nat) : Nat :=
  ofBe (((r.drop 6).drop (widthBelow widths (reqMask r) n)).take (widths.getD n 0))

/-- Field `n` after the WRITE: made from the value carried where the mask selects it, else what it was. -/
def newField {α : Type} (widths : List Nat) (r : Request) (n : Nat) (old : α) (make : Nat → α) : α :=
  if (reqMask r).testBit n then make (carriedValue widths r n) else old

/-- The value of field `n`, if the WRITE carries it, is at most `limit`. -/
abbrev carriedAtMost (widths : List Nat) (r : Request) (n limit : Nat) : Prop :=
  (reqMask r).testBit n = true → carriedValue widths r n ≤ limit

/-! ### The rows that take a request (R149) -/

/-- The management rows. -/
def isTake : Instr → Bool
  | .badOp | .read | .write | .writeBelt | .writeTrigger | .writeSensor | .writePort | .writeRelay | .writeEvent | .writeCal
  | .readCounters | .clearEvents | .openStream | .closeStream | .flushStream | .enablePort | .disablePort | .calSwap | .setLevel
  | .beltPreset | .relay | .status | .softReset => true
  | .powerOn | .beltTick _ _ | .stall | .triggerTick _ | .pulseEnd _ | .rearmGapEnd _ | .idleWord _ _ _ | .frameStart _ _ _
  | .lineStart _ _ _ | .data _ _ _ | .frameEnd _ _ _ | .undefinedKindWord _ _ _ _ | .exposureExpiry _ | .cellSlot | .calendarSwap
  | .transmissionEnd | .holdExpiry | .delimiterFound _ | .lossOfLight | .badCell _ | .idleCell _ | .hold _ | .resume _ | .mgmtReq _
  | .softResetCarriedOut | .relayEngineTake | .relayTick _ _ | .deferTimeout | .stallTimeout | .relayResult | .settleExpiry
  | .drainComplete | .drainExpiry _ | .shuttingEnd _ | .referenceClockPeriod => false

/-! ### The laws of the part -/

/-- A port holds a frame context just while it is IN_FRAME (R50). -/
def FramesMatch (s : State) : Prop := ∀ p, (s.port p).frame.isSome = true ↔ (s.port p).state = .inFrame

/-- The cells in the stream queues. -/
def State.queuedCells (s : State) : List Nat :=
  (List.finRange 16).flatMap (fun i => (s.stream i).queue.map QCell.index)

/-- The assembly cell of port `p`, if it has one. -/
def State.assemblyOf (s : State) (p : PortIx) : Option Nat :=
  ((s.port p).frame.bind FrameCtx.assembly).map Assembly.index

/-- The assembly cells. -/
def State.assemblyCells (s : State) : List Nat := (List.finRange 6).filterMap s.assemblyOf

/-- The buffer cell that a transmission carries. -/
def TxOwner.cell : TxOwner → List Nat
  | .stream index => [index]
  | .idle | .response _ | .event _ => []

/-- The buffer cell in transmission, if there is one. -/
def State.sendingCells (s : State) : List Nat :=
  match s.flk.tx with
  | none => []
  | some c => c.owner.cell

/-- Each buffer cell is in exactly one of the four places (R88). -/
def BufferLaw (s : State) : Prop :=
  FramesMatch s ∧
  (freeCells s.cbm.free ++ s.queuedCells ++ s.assemblyCells ++ s.sendingCells).Perm (List.range 262144)

/-- The remaining reservation of port `p`'s frame, 0 without a frame. -/
def State.remainingOf (s : State) (p : PortIx) : Nat := ((s.port p).frame.map FrameCtx.remaining).getD 0

/-- The reserved total is the sum of the remaining reservations, and never exceeds the free count (R90). -/
def ReservedLaw (s : State) : Prop :=
  FramesMatch s ∧ s.cbm.reserved = ((List.finRange 6).map s.remainingOf).sum ∧ s.cbm.reserved ≤ s.freeCount

/-- A frame travels on a stream bound to its port, a stream's frame-in-progress flag says that a port holds such a frame, and a CLOSED
stream has an empty queue and no frame in progress (R95, R103, R106). -/
def StreamLaw (s : State) : Prop :=
  FramesMatch s ∧
  (∀ p f, (s.port p).frame = some f → (s.stream f.stream).boundPort = p) ∧
  (∀ i, (s.stream i).inProgress = true ↔ ∃ p f, (s.port p).frame = some f ∧ f.stream = i) ∧
  (∀ i, (s.stream i).state = .closed → (s.stream i).queue = [] ∧ (s.stream i).inProgress = false)

/-- The canonical form of the DRAM, whose bytes are payload bytes of buffer cells (R88, R113). -/
def MemoryLaw (s : State) : Prop :=
  Memory.wf s.cbm.mem = true ∧ ∀ x ∈ s.cbm.mem, x.1 < 262144 * 64 ∧ 8 ≤ x.1 % 64

/-- The operating level's target, timers and power outputs (R192). -/
def LevelLaw (s : State) : Prop :=
  (s.lvc.level = .powering → s.lvc.target = some .standby ∨ s.lvc.target = some .run) ∧
  (s.lvc.level = .emptying → s.lvc.target = some .standby ∨ s.lvc.target = some .listen) ∧
  (s.lvc.level = .shutting → s.lvc.target = some .listen) ∧
  (s.lvc.level.settled = true → s.lvc.target = none) ∧
  (s.lvc.settle.isSome = true ↔ s.lvc.level = .powering) ∧
  (s.lvc.drain.isSome = true ↔ s.lvc.level = .emptying) ∧
  (s.lvc.power = true ↔ s.lvc.level ≠ .listen)

/-- A port is not OFF only while it is live: enabled, at a level at which ports are live (R47). -/
def PortLaw (s : State) : Prop :=
  FramesMatch s ∧ LevelLaw s ∧
  ∀ p, (s.port p).state ≠ .off →
    (s.port p).enabled = true ∧
      (s.lvc.level = .standby ∨ s.lvc.level = .run ∨ s.lvc.level = .emptying ∨ s.lvc.level = .shutting)

/-- The Trigger Queue holds at most 64 entries, and none outside settled RUN (R31, R33, R41). -/
def TriggerLaw (s : State) : Prop :=
  s.trq.queue.length ≤ 64 ∧ (s.lvc.level ≠ .run → s.trq.queue = [])

/-- Each Exposure List holds at most 8 exposures with different trigger counts (R65). -/
def ExposureLaw (s : State) : Prop :=
  ∀ p, (s.exposures p).length ≤ 8 ∧ ((s.exposures p).map Exposure.count).Nodup

/-- The active calendar holds a MGMT slot, and so does the shadow calendar while a swap is pending (R144). -/
def CalendarLaw (s : State) : Prop :=
  (∃ i : Fin 256, s.scd.active[i] = .mgmt) ∧
  (s.scd.swapPending = true → ∃ i : Fin 256, s.scd.shadow[i] = .mgmt)

/-- The phases in which the part drives the connected port's wires (R169). -/
def RelayPhase.onLine : RelayPhase → Bool
  | .start | .address | .write | .restart | .read | .stop => true
  | .deferring | .lineCheck | .report => false

/-- The part drives a wire only on the connected port of a transaction that is on the line, so at most one control line at any time
(R168, R169). -/
def RelayLaw (s : State) : Prop :=
  ∀ p, s.wiresOf p ≠ .released → ∃ x, s.ccr.engine = some x ∧ x.port = p ∧ x.phase.onLine = true

/-- The event cells in the output queue. -/
def State.eventsQueued (s : State) : Nat := (s.mge.output.filter (fun c => !c.isResponse)).length

/-- The event cells in transmission whose end EVU awaits. -/
def State.eventsSending (s : State) : Nat :=
  match s.flk.tx with
  | some ⟨.event true, _⟩ => 1
  | _ => 0

/-- An event cell is pending from its creation to the end of its transmission, at most one at a time, and the reported set lies within the
active set (R150, R186, R187). -/
def EventLaw (s : State) : Prop :=
  s.eventsQueued + s.eventsSending = (if s.evu.eventPending then 1 else 0) ∧
  ∀ g : GroupIx, s.evu.reported[g] = true → s.evu.isActive g = true

/-- The queues of MGE and CCR within their capacities, each request the 56 payload bytes of a cell (R148, R150, R167). -/
def QueueLaw (s : State) : Prop :=
  s.mge.requests.length ≤ 8 ∧ s.responses ≤ 15 ∧ s.ccr.queue.length ≤ 4 ∧ ∀ r ∈ s.mge.requests, r.length = 56

/-- The link is HELD only in SYNC, the hold timer runs only while HELD, an expiry is due only at the last count of a running timer, and the two
runs and the timer stay in range (R126-R130). -/
def LinkLaw (s : State) : Prop :=
  (s.flk.held = true → s.flk.rx = .sync) ∧ (0 < s.flk.timer → s.flk.held = true) ∧
  (s.flk.expiryDue = true → s.flk.timer = 1) ∧ s.flk.timer ≤ 261120 ∧ s.flk.goodRun < 16 ∧ s.flk.badRun < 4

end Sys2Proof.Machine
end

