-- ==== Sys2Proof/Certificates/Slice0/Obligations.lean ====
section
/-! DEFINITION. The statements for the provers, in the order of the spec's files. Where a statement follows a choice of the model and not
a rule of the spec, its docstring names the log entry. -/

open Sys2Proof Sys2Proof.Machine

/-! ### The machine of commands -/

/-- A step takes the command at the front of the queue and carries it out on the state with the queue's rest; on an empty queue the part
idles (the queue and the idling are the model's: log 5). -/
def Obligations.StepRunsFrontCommand : Prop :=
  (∀ (c : Instr) (rest : List Instr) (s : State), s.pending = c :: rest → step s = exec c { s with pending := rest }) ∧
  (∀ s : State, s.pending = [] → step s = .next s)

/-- Every command answers a next state from every state, and leaves the waiting commands alone: nothing the manual names stops the part
(INVENTORY.md, Faults; log 1). -/
def Obligations.EveryCommandCompletes : Prop :=
  ∀ (c : Instr) (s : State), ∃ t, exec c s = .next t ∧ t.pending = s.pending

/-! ### Resets -/

/-- The values that power-on gives (R20, R44, R63, R87, R112, R135, R147, R155, R166, R183, R191, R197). The DRAM keeps its contents. That a
prescaler shows no tick (log 4), and the model's own bits resetDue and expiryDue at false (logs 7 and 25), are the model's choice. -/
def Obligations.PowerOnState : Prop :=
  ∀ s : State, ∃ t, exec .powerOn s = .next t ∧ t.pending = s.pending ∧
    t.bpt =
      { tickCode := 4, stepDepth := 2, dirDepth := 2, polarity := .forwardHigh
        stepFilter := ⟨false, 0⟩, dirFilter := ⟨false, 0⟩, p := 0, fraction := 0, intervalValid := false, lastInterval := 0
        lastDir := .none, interval := 16777215, lineTime := 0, forwardEdges := 0, reverseEdges := 0, stalls := 0
        beltPre := ⟨0, false⟩, trigPre := ⟨0, false⟩, relayPre := ⟨0, false⟩ } ∧
    t.trq.tickCode = 6 ∧ t.trq.partCounter = 0 ∧ t.trq.queue = [] ∧
    (∀ n, t.sensor n = ⟨false, 2, .rising, 0, ⟨false, 0⟩, none⟩) ∧
    (∀ i, t.planEntry i = ⟨false, 0, 0, 256, 0, 1, 0⟩) ∧
    (∀ p, t.stage p = ⟨0, 0, 0, false⟩) ∧
    t.trq.partsRegistered = 0 ∧ t.trq.lockoutEdges = 0 ∧ t.trq.reverseSensorEdges = 0 ∧ t.trq.triggersFired = 0 ∧
    t.trq.triggersFailed = 0 ∧
    (∀ p : PortIx, t.port p =
      { polarity := .activeHigh, rearmGap := 0, exposureTimeout := 1000, defaultStream := ⟨p.val, by omega⟩, orphanForward := false
        seqCheck := true, enabled := false, state := .off, frame := none, frames := 0, parityErrors := 0, framingErrors := 0
        checksumErrors := 0, orphans := 0, missing := 0 }) ∧
    (∀ p, t.exposures p = []) ∧
    freeCells t.cbm.free = List.range 262144 ∧ t.cbm.reserved = 0 ∧ t.cbm.mem = s.cbm.mem ∧
    (∀ i, ∃ no, t.stream i =
      { boundPort := ⟨i.val % 6, by omega⟩, reservation := 1, maxHeld := 1, spare := false, state := .closed, queue := []
        framesHeld := 0, seq := 0, frameCounter := 0, inProgress := false, openTx := false, openTxNo := no
        cellsSent := 0, framesAdmitted := 0, framesRejected := 0, recordsLost := 0 }) ∧
    t.flk =
      { rx := .search, goodRun := 0, badRun := 0, held := false, timer := 0, expiryDue := false, holdLimit := 16, tx := none, badCells := 0, resyncs := 0
        holds := 0 } ∧
    (∀ i : Fin 256, t.scd.active[i] = if i = 0 then Slot.mgmt else Slot.none) ∧ (∀ i : Fin 256, t.scd.shadow[i] = Slot.none) ∧
    t.scd.slotPtr = 0 ∧ t.scd.sparePtr = 0 ∧ t.scd.swapPending = false ∧
    t.mge = { requests := [], output := [], resetPending := false, resetDue := false, dropped := 0 } ∧
    t.ccr.tickCode = 8 ∧ t.ccr.timing = ⟨1, 1, 10000, 4, 100⟩ ∧ t.ccr.queue = [] ∧ t.ccr.engine = none ∧
    (∀ p, t.wiresOf p = ⟨false, false⟩) ∧
    (∀ g : GroupIx, t.evu.factors[g] = 0 ∧ t.evu.enables[g] = 0 ∧ t.evu.notice[g] = false ∧ t.evu.reported[g] = false) ∧
    t.evu.eventPending = false ∧
    t.lvc =
      { level := .listen, target := none, settle := none, drain := none, power := false, powerSettle := 50, drainLimit := 100 }

/-- What the soft reset leaves, block by block (R20, R44, R63, R87, R112, R135, R147, R164, R166, R183, R191, R197). An event cell is made just if
CONTROL.SOFT_RESET's enable and the CONTROL notice enable are both on. That a prescaler shows no tick is the model's choice (log 4), and so is the
bit resetDue between the event and the reset (log 7). That the bit expiryDue is kept with the hold state is the model's choice too (log 25). -/
def Obligations.SoftResetState : Prop :=
  ∀ s : State, s.mge.resetPending = true → s.mge.resetDue = true →
    ∃ t, exec .softResetCarriedOut s = .next t ∧
      t.bpt =
        { s.bpt with
          stepFilter := { s.bpt.stepFilter with run := 0 }, dirFilter := { s.bpt.dirFilter with run := 0 }
          p := 0, fraction := 0, intervalValid := false, lastInterval := 0, lastDir := .none, interval := 16777215, lineTime := 0
          forwardEdges := 0, reverseEdges := 0, stalls := 0, beltPre := ⟨0, false⟩, trigPre := ⟨0, false⟩, relayPre := ⟨0, false⟩ } ∧
      t.trq.tickCode = s.trq.tickCode ∧ t.trq.plan = s.trq.plan ∧ t.trq.partCounter = 0 ∧ t.trq.queue = [] ∧
      (∀ n, t.sensor n = { s.sensor n with filter := { (s.sensor n).filter with run := 0 }, lastReg := none }) ∧
      (∀ p, t.stage p = ⟨0, 0, 0, (s.port p).polarity == .activeLow⟩) ∧
      t.trq.partsRegistered = 0 ∧ t.trq.lockoutEdges = 0 ∧ t.trq.reverseSensorEdges = 0 ∧ t.trq.triggersFired = 0 ∧
      t.trq.triggersFailed = 0 ∧
      (∀ p, t.port p =
        { s.port p with
          state := .off, frame := none, frames := 0, parityErrors := 0, framingErrors := 0, checksumErrors := 0, orphans := 0
          missing := 0 }) ∧
      (∀ p, t.exposures p = []) ∧
      freeCells t.cbm.free = (List.range 262144).filter (fun k => decide (k ∉ s.sendingCells)) ∧
      t.cbm.reserved = 0 ∧ t.cbm.mem = s.cbm.mem ∧
      (∀ i, t.stream i =
        { s.stream i with
          state := .closed, queue := [], framesHeld := 0, seq := 0, frameCounter := 0, inProgress := false, openTx := false
          cellsSent := 0, framesAdmitted := 0, framesRejected := 0, recordsLost := 0 }) ∧
      (t.flk = { s.flk with tx := t.flk.tx, badCells := 0, resyncs := 0, holds := 0 }) ∧
      t.flk.tx.map TxCell.bytes = s.flk.tx.map TxCell.bytes ∧ t.sendingCells = s.sendingCells ∧ t.eventsSending = 0 ∧
      t.scd = { s.scd with slotPtr := 0, sparePtr := 0, swapPending := false } ∧
      t.mge.requests = [] ∧ t.mge.resetPending = false ∧ t.mge.resetDue = false ∧ t.mge.dropped = 0 ∧
      ((¬ (s.evu.enables[(10 : GroupIx)].getLsbD 4 = true ∧ s.evu.notice[(10 : GroupIx)] = true) ∧
          t.mge.output = [] ∧ t.evu.eventPending = false) ∨
        ((s.evu.enables[(10 : GroupIx)].getLsbD 4 = true ∧ s.evu.notice[(10 : GroupIx)] = true) ∧
          t.evu.eventPending = true ∧ ∃ payload, t.mge.output = [.event payload])) ∧
      t.ccr = { s.ccr with queue := [], engine := none, wires := t.ccr.wires } ∧ (∀ p, t.wiresOf p = ⟨false, false⟩) ∧
      (∀ f : Factor, t.evu.has f = decide (f = .ctlSoftReset)) ∧ t.evu.enables = s.evu.enables ∧ t.evu.notice = s.evu.notice ∧
      (∀ g : GroupIx, t.evu.reported[g] = false) ∧
      t.lvc =
        { level := .listen, target := none, settle := none, drain := none, power := false, powerSettle := s.lvc.powerSettle
          drainLimit := s.lvc.drainLimit } ∧
      t.pending = s.pending

/-! ### BPT -/

/-- A reference period advances L by 1, and each prescaler gives its tick at every 2^k-th period, over any number of periods (R1, R2). -/
def Obligations.PeriodsCountLineTime : Prop :=
  (∀ s : State, ∃ t, exec .referenceClockPeriod s = .next t ∧ t.bpt.lineTime = s.bpt.lineTime + 1) ∧
  ∀ (n : Nat) (s : State),
    s.bpt.beltPre.count < 2 ^ s.bpt.tickCode → s.bpt.trigPre.count < 2 ^ s.trq.tickCode → s.bpt.relayPre.count < 2 ^ s.ccr.tickCode →
    runs (List.replicate (n + 1) .referenceClockPeriod) s = .next { s with bpt := { s.bpt with
      lineTime := s.bpt.lineTime + BitVec.ofNat 48 (n + 1)
      beltPre := { count := (s.bpt.beltPre.count + (n + 1)) % 2 ^ s.bpt.tickCode
                   tick := decide ((s.bpt.beltPre.count + (n + 1)) % 2 ^ s.bpt.tickCode = 0) }
      trigPre := { count := (s.bpt.trigPre.count + (n + 1)) % 2 ^ s.trq.tickCode
                   tick := decide ((s.bpt.trigPre.count + (n + 1)) % 2 ^ s.trq.tickCode = 0) }
      relayPre := { count := (s.bpt.relayPre.count + (n + 1)) % 2 ^ s.ccr.tickCode
                    tick := decide ((s.bpt.relayPre.count + (n + 1)) % 2 ^ s.ccr.tickCode = 0) } } }

/-- An input filter accepts a level once it has been seen in 2^d consecutive samples, and a matching sample clears the run (R4). -/
def Obligations.FilterAcceptsAfterDepth : Prop :=
  (∀ (d n : Nat) (b : Bool), 0 < n → n ≤ 2 ^ d →
    (fun f => (filterSample d b f).1)^[n] { level := !b, run := 0 } =
      if n = 2 ^ d then { level := b, run := 0 } else { level := !b, run := n }) ∧
  (∀ (d : Nat) (f : Filter), filterSample d f.level f = ({ f with run := 0 }, false)) ∧
  (∀ (d : Nat) (b : Bool) (f : Filter), (filterSample d b f).2 = true ↔ f.level ≠ b ∧ f.run + 1 = 2 ^ d)

/-- An encoder edge, forward or reverse (R7, R8, R10-R12): P, the direction, the interval, the fraction, the load of the counter, the stall that
the same tick may bring (R9), and the change of F delivered to TRQ (R15). -/
def Obligations.EncoderEdges : Prop :=
  (∀ (s : State) (dir : Bool),
    s.lvc.level ≠ .listen → s.bpt.stepFilter.level = false → s.bpt.stepFilter.run + 1 = 2 ^ s.bpt.stepDepth →
    (filterSample s.bpt.dirDepth dir s.bpt.dirFilter).1.level = (s.bpt.polarity == .forwardHigh) →
    ∃ u, exec (.beltTick true dir) s = .next (changeOfF u) ∧
      Raised ((if s.bpt.interval = 1 then .bptStall :: wrapsAt s.bpt.stalls .bptWrap else []) ++
        wrapsAt s.bpt.forwardEdges .bptWrap) s u ∧
      u.withReportsOf s = { s with bpt := { s.bpt with
        stepFilter := { level := true, run := 0 }
        dirFilter := (filterSample s.bpt.dirDepth dir s.bpt.dirFilter).1
        p := s.bpt.p + 1, lastDir := .forward, fraction := 0, interval := 16777215
        intervalValid := decide (s.bpt.lastDir = .forward ∧ 1 < s.bpt.interval.toNat)
        lastInterval :=
          if s.bpt.lastDir = .forward ∧ 1 < s.bpt.interval.toNat then BitVec.ofNat 24 (16777215 - (s.bpt.interval.toNat - 1))
          else s.bpt.lastInterval
        forwardEdges := s.bpt.forwardEdges + 1
        stalls := if s.bpt.interval = 1 then s.bpt.stalls + 1 else s.bpt.stalls } }) ∧
  (∀ (s : State) (dir : Bool),
    s.lvc.level ≠ .listen → s.bpt.stepFilter.level = false → s.bpt.stepFilter.run + 1 = 2 ^ s.bpt.stepDepth →
    (filterSample s.bpt.dirDepth dir s.bpt.dirFilter).1.level = (s.bpt.polarity == .forwardLow) →
    ∃ u, exec (.beltTick true dir) s = .next (changeOfF u) ∧
      Raised ((if s.bpt.interval = 1 then .bptStall :: wrapsAt s.bpt.stalls .bptWrap else []) ++
        (.bptReverse :: wrapsAt s.bpt.reverseEdges .bptWrap)) s u ∧
      u.withReportsOf s = { s with bpt := { s.bpt with
        stepFilter := { level := true, run := 0 }
        dirFilter := (filterSample s.bpt.dirDepth dir s.bpt.dirFilter).1
        p := s.bpt.p - 1, lastDir := .reverse, fraction := 0, interval := 16777215, intervalValid := false
        reverseEdges := s.bpt.reverseEdges + 1
        stalls := if s.bpt.interval = 1 then s.bpt.stalls + 1 else s.bpt.stalls } })

/-- A belt tick without an encoder edge (R6, R8, R9, R12, R14): the counter runs down unless the level is settled LISTEN, a stall is taken
as it comes to 0, and with a valid interval the fraction is interpolated. STALL is that stall taken by itself (log 3). -/
def Obligations.TickWithoutEdge : Prop :=
  (∀ (s : State) (step dir : Bool),
    ¬ (step = true ∧ (filterSample s.bpt.stepDepth step s.bpt.stepFilter).2 = true ∧ s.lvc.level ≠ .listen) →
    let counts := s.lvc.level ≠ .listen
    let stalls := s.lvc.level ≠ .listen ∧ s.bpt.interval = 1
    let after : BitVec 24 := if counts ∧ s.bpt.interval ≠ 0 then s.bpt.interval - 1 else s.bpt.interval
    let valid : Bool := s.bpt.intervalValid && decide (¬ stalls)
    ∃ u, exec (.beltTick step dir) s = .next (if u.finePos = s.finePos then u else changeOfF u) ∧
      Raised (if stalls then .bptStall :: wrapsAt s.bpt.stalls .bptWrap else []) s u ∧
      u.withReportsOf s = { s with bpt := { s.bpt with
        stepFilter := (filterSample s.bpt.stepDepth step s.bpt.stepFilter).1
        dirFilter := (filterSample s.bpt.dirDepth dir s.bpt.dirFilter).1
        interval := after, intervalValid := valid
        fraction :=
          if valid then BitVec.ofNat 8 (min 255 (256 * (16777215 - after.toNat) / s.bpt.lastInterval.toNat)) else s.bpt.fraction
        stalls := if stalls then s.bpt.stalls + 1 else s.bpt.stalls } }) ∧
  (∀ s : State, s.lvc.level ≠ .listen → s.bpt.interval = 1 →
    ∃ t, exec .stall s = .next t ∧ Raised (.bptStall :: wrapsAt s.bpt.stalls .bptWrap) s t ∧
      t.withReportsOf s = { s with bpt := { s.bpt with interval := 0, intervalValid := false, stalls := s.bpt.stalls + 1 } })

/-! ### TRQ -/

/-- A trigger that falls due and fires (R33, R34, R36, R64, R65): the head leaves the queue, the port's output goes active for the pulse
width, the trigger count advances, and an exposure joins the port's list. An older exposure of the same trigger count is first removed, with a
NO_FRAME record and its factor (R65). An entry that F has not reached stays, and a change of F then does nothing. Of several entries due at one
change of F the head is handled as if it were alone, and the rest is examined in the state that leaves (R33); the second of two for one armed
port ends with OVERTRIGGER (R38). -/
def Obligations.DueTriggerFires : Prop :=
  let formed (s : State) (e : TrigEntry) : Exposure :=
    { part := e.part, plan := e.plan, tag := e.tag
      stream := if (s.stream e.stream).boundPort = e.port then e.stream else (s.port e.port).defaultStream
      fireF := s.bpt.p ++ s.bpt.fraction, fireL := s.bpt.lineTime, count := (s.stage e.port).count + 1
      deadline := s.bpt.lineTime + BitVec.ofNat 48 ((s.port e.port).exposureTimeout.toNat * 1000) }
  let fired (s : State) (e : TrigEntry) (rest : List TrigEntry) : Trq :=
    { s.trq with
      queue := rest, triggersFired := s.trq.triggersFired + 1
      stages := s.trq.stages.set e.port
        { pulse := e.width, gap := 0, count := (s.stage e.port).count + 1, out := (s.port e.port).polarity == .activeHigh } }
  (∀ (s : State) (e : TrigEntry) (rest : List TrigEntry),
    s.trq.queue = e :: rest → reached s.finePos e.due = true → (∀ x, rest.head? = some x → reached s.finePos x.due = false) →
    (s.port e.port).enabled = true → (s.stage e.port).pulse = 0 → (s.stage e.port).gap = 0 →
    (s.exposures e.port).length < 8 → (∀ x ∈ s.exposures e.port, x.count ≠ (s.stage e.port).count + 1) →
    let bound := (s.stream e.stream).boundPort = e.port
    Raised ((if bound then [] else [.trqPlanMismatch]) ++ wrapsAt s.trq.triggersFired .trqWrap) s (changeOfF s) ∧
    (changeOfF s).withReportsOf s = { s with
      trq := fired s e rest, xcr := { lists := s.xcr.lists.set e.port (s.exposures e.port ++ [formed s e]) } }) ∧
  (∀ (s : State) (e : TrigEntry) (rest : List TrigEntry) (older younger : List Exposure) (x : Exposure),
    s.trq.queue = e :: rest → reached s.finePos e.due = true → (∀ y, rest.head? = some y → reached s.finePos y.due = false) →
    (s.port e.port).enabled = true → (s.stage e.port).pulse = 0 → (s.stage e.port).gap = 0 →
    s.exposures e.port = older ++ x :: younger → (s.exposures e.port).length < 8 → x.count = (s.stage e.port).count + 1 →
    (∀ y ∈ older ++ younger, y.count ≠ x.count) →
    let t := changeOfF s
    t.trq = fired s e rest ∧ t.exposures e.port = older ++ younger ++ [formed s e] ∧
    (∀ q, q ≠ e.port → t.exposures q = s.exposures q) ∧
    t.port e.port = { s.port e.port with missing := (s.port e.port).missing + 1 } ∧ (∀ q, q ≠ e.port → t.port q = s.port q) ∧
    t.evu.has (.camNoFrame e.port) = true ∧ t.cbm.reserved = s.cbm.reserved ∧ (∀ k, k ≠ x.stream → t.stream k = s.stream k) ∧
    RecordWent x.stream .missing (exposureMissing e.port x 1 s.bpt.lineTime) (s.stream x.stream).frameCounter false s t) ∧
  (∀ s : State, (∀ x, s.trq.queue.head? = some x → reached s.finePos x.due = false) → changeOfF s = s) ∧
  (∀ (s : State) (e : TrigEntry) (rest : List TrigEntry), s.trq.queue = e :: rest → reached s.finePos e.due = true →
    let u := changeOfF (s.setTrigQueue [e])
    changeOfF s = changeOfF (u.setTrigQueue rest) ∧
    ∀ (x : TrigEntry) (rest' : List TrigEntry), rest = x :: rest' → reached s.finePos x.due = true →
      (∀ y, rest'.head? = some y → reached s.finePos y.due = false) → x.port = e.port → e.width ≠ 0 →
      (s.port e.port).enabled = true → (s.stage e.port).pulse = 0 → (s.stage e.port).gap = 0 → (s.exposures e.port).length < 8 →
      let i := if (s.stream x.stream).boundPort = x.port then x.stream else (s.port x.port).defaultStream
      let t := changeOfF s
      t.trq.queue = rest' ∧ t.trq.triggersFired = s.trq.triggersFired + 1 ∧ t.trq.triggersFailed = s.trq.triggersFailed + 1 ∧
      t.stage e.port = u.stage e.port ∧ t.exposures e.port = u.exposures e.port ∧ t.evu.has .trqOvertrigger = true ∧
      RecordWent i .missing (triggerMissing x 3 s.bpt.lineTime) (s.stream i).frameCounter false u t)

/-- A trigger that falls due and cannot fire (R34, R35, R40): its cause, its factor, the triggers failed counter, its missing record on the
checked stream (R83, R120), and the port's stage and list left as they were. -/
def Obligations.DueTriggerRefused : Prop :=
  ∀ (s : State) (e : TrigEntry) (rest : List TrigEntry) (code : Byte) (factor : Factor),
    s.trq.queue = e :: rest → reached s.finePos e.due = true → (∀ x, rest.head? = some x → reached s.finePos x.due = false) →
    ((s.port e.port).enabled = false ∧ code = 6 ∧ factor = .trqPortOff ∨
      (s.port e.port).enabled = true ∧ ¬ ((s.stage e.port).pulse = 0 ∧ (s.stage e.port).gap = 0) ∧
        code = 3 ∧ factor = .trqOvertrigger ∨
      (s.port e.port).enabled = true ∧ (s.stage e.port).pulse = 0 ∧ (s.stage e.port).gap = 0 ∧ 8 ≤ (s.exposures e.port).length ∧
        code = 4 ∧ factor = .trqListFull) →
    let i := if (s.stream e.stream).boundPort = e.port then e.stream else (s.port e.port).defaultStream
    let t := changeOfF s
    t.trq = { s.trq with queue := rest, triggersFailed := s.trq.triggersFailed + 1 } ∧ t.xcr = s.xcr ∧ t.bpt = s.bpt ∧
    (t.port e.port).missing = (s.port e.port).missing + 1 ∧ t.evu.has factor = true ∧
    ((s.stream e.stream).boundPort ≠ e.port → t.evu.has .trqPlanMismatch = true) ∧
    RecordWent i .missing
      ([0, BitVec.ofNat 8 e.port.val, BitVec.ofNat 8 e.plan.val, e.tag] ++ be 4 e.part.toNat ++ [0xFF, code] ++ be 5 e.due.toNat ++
        be 6 s.bpt.lineTime.toNat)
      (s.stream i).frameCounter false s t

/-- The trigger stages at a trigger tick, whatever the sensors do (R37), and the two ends taken by themselves (log 3). -/
def Obligations.TriggerStagesCount : Prop :=
  (∀ (lines : BitVec 4) (s : State), ∃ t, exec (.triggerTick lines) s = .next t ∧
    ∀ p, t.stage p =
      if (s.stage p).pulse = 1 then
        { s.stage p with pulse := 0, gap := (s.port p).rearmGap, out := (s.port p).polarity == .activeLow }
      else
        { s.stage p with
          pulse := BitVec.ofNat 16 ((s.stage p).pulse.toNat - 1), gap := BitVec.ofNat 16 ((s.stage p).gap.toNat - 1) }) ∧
  (∀ (p : PortIx) (s : State), (s.stage p).pulse = 1 →
    exec (.pulseEnd p) s = .next (s.setStage p
      { s.stage p with pulse := 0, gap := (s.port p).rearmGap, out := (s.port p).polarity == .activeLow })) ∧
  (∀ (p : PortIx) (s : State), (s.stage p).gap = 1 →
    exec (.rearmGapEnd p) s = .next (s.setStage p { s.stage p with gap := 0 }))

/-- Parts registered at one trigger tick (R22, R24, R26-R28, R30-R32): the sensors `regs`, in ascending number, each take a part number and a
lockout state, and make one Trigger Queue entry for each enabled plan entry that names the sensor, in plan index order, all for the same F, while
the other sensors see no change. The queue is kept by distance, equal due positions in the order of their insertion. The entries that find 64
queued are refused: QUEUE_FULL, the triggers failed counter, and a missing record with cause 5 on the checked stream, in order. -/
def Obligations.PartRegistered : Prop :=
  ∀ (s : State) (regs : List SensorIx) (lines : BitVec 4), regs.Pairwise (· < ·) → s.lvc.level = .run → s.bpt.lastDir = .forward →
    (∀ m : SensorIx, m ∉ regs → lines.getLsbD m.val = (s.sensor m).filter.level) →
    (∀ n ∈ regs, lines.getLsbD n.val ≠ (s.sensor n).filter.level ∧ (s.sensor n).filter.run + 1 = 2 ^ (s.sensor n).depth ∧
      (s.sensor n).enabled = true ∧ ((s.sensor n).transition = .rising ↔ lines.getLsbD n.val = true) ∧
      (∀ last, (s.sensor n).lastReg = some last → (s.sensor n).lockout.toNat ≤ (s.finePos - last).toNat)) →
    let entries : List TrigEntry := regs.zipIdx.flatMap (fun (n, k) =>
      ((List.finRange 16).filter (fun i => (s.planEntry i).enabled && (s.planEntry i).sensor == n)).map (fun i =>
        { part := s.trq.partCounter + BitVec.ofNat 32 k, plan := i, tag := (s.planEntry i).tag, port := (s.planEntry i).port
          stream := (s.planEntry i).stream, width := (s.planEntry i).width
          due := s.finePos + (s.planEntry i).offset.setWidth 40, regF := s.finePos }))
    let kept := entries.take (64 - s.trq.queue.length)
    let refused := entries.drop (64 - s.trq.queue.length)
    let bound (e : TrigEntry) : Prop := (s.stream e.stream).boundPort = e.port
    let distance (e : TrigEntry) : Nat := (e.due - s.finePos).toNat
    ∃ t, exec (.triggerTick lines) s = .next t ∧
      t.withReportsOf s = { s with
        trq := { s.trq with
          partCounter := s.trq.partCounter + BitVec.ofNat 32 regs.length
          partsRegistered := s.trq.partsRegistered + BitVec.ofNat 32 regs.length
          triggersFailed := s.trq.triggersFailed + BitVec.ofNat 32 refused.length
          queue := t.trq.queue, sensors := t.trq.sensors, stages := t.trq.stages }
        cpr := t.cpr, cbm := t.cbm } ∧
      (∀ n ∈ regs, t.sensor n =
        { s.sensor n with filter := { level := lines.getLsbD n.val, run := 0 }, lastReg := some s.finePos }) ∧
      (∀ m, m ∉ regs → t.sensor m = { s.sensor m with filter := { (s.sensor m).filter with run := 0 } }) ∧
      t.trq.queue.Perm (s.trq.queue ++ kept) ∧
      (s.trq.queue.Pairwise (fun a b => distance a ≤ distance b) →
        t.trq.queue.Pairwise (fun a b => distance a ≤ distance b) ∧
        ∀ due, t.trq.queue.filter (fun e => e.due == due) = (s.trq.queue ++ kept).filter (fun e => e.due == due)) ∧
      (refused = [] →
        Raised (if 4294967296 ≤ s.trq.partsRegistered.toNat + regs.length then [.trqWrap] else []) s t ∧ t.cpr = s.cpr ∧
          t.cbm = s.cbm) ∧
      (let v := handMissing
          (refused.map (fun e => (if bound e then e.stream else (s.port e.port).defaultStream, triggerMissing e 5 s.bpt.lineTime))) s;
        t.cbm = v.cbm ∧
        (∀ p, t.port p = { s.port p with
          missing := (s.port p).missing + BitVec.ofNat 32 (refused.filter (fun e => e.port == p)).length }) ∧
        ∀ f : Factor, f ≠ .trqWrap → (∀ p, f ≠ .camWrap p) →
          t.evu.has f = (v.evu.has f || decide (f = .trqQueueFull ∧ refused ≠ []) ||
            decide (f = .trqPlanMismatch ∧ ∃ e ∈ refused, ¬ bound e)))

/-- A sensor transition that registers no part (R24-R26): ignored outside settled RUN, at a disabled sensor or for the other transition;
refused for motion; refused for lockout. No part number is taken and no lockout state changes. -/
def Obligations.RegistrationRefused : Prop :=
  ∀ (s : State) (n : SensorIx) (lines : BitVec 4),
    (∀ m : SensorIx, m ≠ n → lines.getLsbD m.val = (s.sensor m).filter.level) →
    lines.getLsbD n.val ≠ (s.sensor n).filter.level → (s.sensor n).filter.run + 1 = 2 ^ (s.sensor n).depth →
    let asks := s.lvc.level = .run ∧ (s.sensor n).enabled = true ∧ ((s.sensor n).transition = .rising ↔ lines.getLsbD n.val = true)
    let moves := s.bpt.lastDir = .forward
    let locked := ∃ last, (s.sensor n).lastReg = some last ∧ (s.finePos - last).toNat < (s.sensor n).lockout.toNat
    ¬ (asks ∧ moves ∧ ¬ locked) →
    ∃ t, exec (.triggerTick lines) s = .next t ∧
      t.trq = { s.trq with
        sensors := t.trq.sensors, stages := t.trq.stages
        reverseSensorEdges := t.trq.reverseSensorEdges, lockoutEdges := t.trq.lockoutEdges } ∧
      (∀ m, (t.sensor m).lastReg = (s.sensor m).lastReg) ∧
      (¬ asks → t.trq.reverseSensorEdges = s.trq.reverseSensorEdges ∧ t.trq.lockoutEdges = s.trq.lockoutEdges ∧ t.evu = s.evu) ∧
      (asks ∧ ¬ moves → t.trq.reverseSensorEdges = s.trq.reverseSensorEdges + 1 ∧ t.trq.lockoutEdges = s.trq.lockoutEdges ∧
        Raised (wrapsAt s.trq.reverseSensorEdges .trqWrap) s t) ∧
      (asks ∧ moves ∧ locked → t.trq.reverseSensorEdges = s.trq.reverseSensorEdges ∧ t.trq.lockoutEdges = s.trq.lockoutEdges + 1 ∧
        Raised (.trqLockout :: wrapsAt s.trq.lockoutEdges .trqWrap) s t)

/-! ### CPR and XCR -/

/-- The command of a camera word, by the word's number (R45): parity in bit 19, kind in bits 18-16, value in bits 15-0. Then the words that are no
part of a frame (R45, R46, R49, R56). No change: any word at a port in OFF, a good IDLE word, and what a discarded frame
still sends, which a good FRAME_END ends. Only a count and its factor at a port that is not OFF: a word with bad parity that does not read
DATA, a good word of undefined kind, and out of frame a good LINE_START, DATA or FRAME_END, or a DATA word with bad parity, which a discard counts
as a parity error only. -/
def Obligations.WordsOutOfPlace : Prop :=
  (∀ (p : PortIx) (w : BitVec 20) (parity : Bool) (kind : BitVec 3) (v : BitVec 16),
    w.toNat = parity.toNat * 524288 + kind.toNat * 65536 + v.toNat →
    (∀ (k : BitVec 3) (c : Instr),
      (k, c) ∈ [(0, Instr.idleWord p parity v), (1, .frameStart p parity v), (2, .lineStart p parity v), (3, .data p parity v),
        (4, .frameEnd p parity v)] → kind = k → cameraCommand p w = c) ∧
    (5 ≤ kind.toNat → cameraCommand p w = .undefinedKindWord p kind parity v)) ∧
  (∀ (s : State) (p : PortIx) (parity : Bool) (kind : BitVec 3) (v : BitVec 16), (s.port p).state = .off →
    ∀ c ∈ [Instr.idleWord p parity v, .frameStart p parity v, .lineStart p parity v, .data p parity v, .frameEnd p parity v,
      .undefinedKindWord p kind parity v], exec c s = .next s) ∧
  (∀ (s : State) (p : PortIx) (parity : Bool) (v : BitVec 16), parityGood parity 0 v = true →
    exec (.idleWord p parity v) s = .next s) ∧
  (∀ (s : State) (p : PortIx) (parity : Bool) (v : BitVec 16), (s.port p).state = .discarding →
    (parityGood parity 2 v = true → exec (.lineStart p parity v) s = .next s) ∧
    (parityGood parity 3 v = true → exec (.data p parity v) s = .next s) ∧
    (parityGood parity 4 v = true → exec (.frameEnd p parity v) s = .next (s.setPort p { s.port p with state := .idle }))) ∧
  (∀ (s : State) (p : PortIx) (parity : Bool) (v : BitVec 16), (s.port p).state ≠ .off →
    (∀ (k : BitVec 3) (c : Instr),
      ((k, c) ∈ [(0, Instr.idleWord p parity v), (1, .frameStart p parity v), (2, .lineStart p parity v), (4, .frameEnd p parity v)] ∨
        5 ≤ k.toNat ∧ c = .undefinedKindWord p k parity v) →
      parityGood parity k v = false →
      ∃ t, exec c s = .next t ∧ Raised (.camParity p :: wrapsAt (s.port p).parityErrors (.camWrap p)) s t ∧
        t.withReportsOf s = s.setPort p { s.port p with parityErrors := (s.port p).parityErrors + 1 }) ∧
    (∀ (k : BitVec 3) (c : Instr),
      ((s.port p).state = .idle ∧ (k, c) ∈ [(2, Instr.lineStart p parity v), (3, .data p parity v), (4, .frameEnd p parity v)] ∨
        5 ≤ k.toNat ∧ c = .undefinedKindWord p k parity v) →
      parityGood parity k v = true →
      ∃ t, exec c s = .next t ∧ Raised (.camFraming p :: wrapsAt (s.port p).framingErrors (.camWrap p)) s t ∧
        t.withReportsOf s = s.setPort p { s.port p with framingErrors := (s.port p).framingErrors + 1 }) ∧
    ((s.port p).state = .idle → parityGood parity 3 v = false →
      ∃ t, exec (.data p parity v) s = .next t ∧
        Raised (.camParity p :: .camFraming p ::
          (wrapsAt (s.port p).parityErrors (.camWrap p) ++ wrapsAt (s.port p).framingErrors (.camWrap p))) s t ∧
        t.withReportsOf s = s.setPort p
          { s.port p with
            parityErrors := (s.port p).parityErrors + 1, framingErrors := (s.port p).framingErrors + 1 }) ∧
    ((s.port p).state = .discarding → parityGood parity 3 v = false →
      ∃ t, exec (.data p parity v) s = .next t ∧ Raised (.camParity p :: wrapsAt (s.port p).parityErrors (.camWrap p)) s t ∧
        t.withReportsOf s = s.setPort p { s.port p with parityErrors := (s.port p).parityErrors + 1 }))

/-- A FRAME_START at an IDLE port whose oldest exposure is the match, admitted (R50, R51, R69, R70, R71, R91). -/
def Obligations.FrameStartAdmits : Prop :=
  ∀ (s : State) (p : PortIx) (parity : Bool) (v : BitVec 16) (e : Exposure) (younger : List Exposure),
    (s.port p).state = .idle → parityGood parity 1 v = true →
    s.exposures p = e :: younger → ((s.port p).seqCheck = true → e.count = v.extractLsb' 0 8) →
    (s.stream e.stream).boundPort = p → (s.stream e.stream).state = .opened →
    (s.stream e.stream).framesHeld < (s.stream e.stream).maxHeld.toNat →
    s.cbm.reserved + 256 + (s.stream e.stream).reservation.toNat ≤ s.freeCount →
    let i := e.stream
    ∃ t, exec (.frameStart p parity v) s = .next t ∧
      Raised (wrapsAt (s.port p).frames (.camWrap p) ++ wrapsAt (s.stream i).framesAdmitted .cbmWrap) s t ∧
      t.withReportsOf s =
        (((s.setExposures p younger).setReserved (s.cbm.reserved + (s.stream i).reservation.toNat)).setStream i
          { s.stream i with
            framesHeld := (s.stream i).framesHeld + 1, frameCounter := (s.stream i).frameCounter + 1, inProgress := true
            framesAdmitted := (s.stream i).framesAdmitted + 1 }).setPort p
          { s.port p with
            frames := (s.port p).frames + 1, state := .inFrame
            frame := some
              { exposure := some e, stream := i, frameNo := (s.stream i).frameCounter + 1, camCount := v.extractLsb' 0 8
                format := v.extractLsb' 8 8, startL := s.bpt.lineTime, endL := none, remaining := (s.stream i).reservation.toNat
                received := 0, forwarded := 0, lines := 0, computed := 0, rxChecksum := 0, parity := false, checksumBad := false
                aborted := false, truncated := false, assembly := none, committed := false } }

/-- A FRAME_START at an IDLE port whose match is refused (R51, R80, R91, R92, R119): the port goes DISCARDING, the refusal is counted with
its factor, and the exposure closes with a REJECTED record on its stream. -/
def Obligations.FrameStartRefused : Prop :=
  ∀ (s : State) (p : PortIx) (parity : Bool) (v : BitVec 16) (e : Exposure) (younger : List Exposure),
    (s.port p).state = .idle → parityGood parity 1 v = true →
    s.exposures p = e :: younger → ((s.port p).seqCheck = true → e.count = v.extractLsb' 0 8) →
    let i := e.stream
    let takes := (s.stream i).boundPort = p ∧ (s.stream i).state = .opened
    let below := (s.stream i).framesHeld < (s.stream i).maxHeld.toNat
    let room := s.cbm.reserved + 256 + (s.stream i).reservation.toNat ≤ s.freeCount
    ¬ (takes ∧ below ∧ room) →
    ∃ t, exec (.frameStart p parity v) s = .next t ∧
      t.cpr = (s.setPort p { s.port p with state := .discarding, frames := (s.port p).frames + 1 }).cpr ∧
      t.exposures p = younger ∧ (∀ q, q ≠ p → t.exposures q = s.exposures q) ∧
      t.cbm.reserved = s.cbm.reserved ∧ (t.stream i).framesHeld = (s.stream i).framesHeld ∧
      (t.stream i).frameCounter = (s.stream i).frameCounter ∧ (t.stream i).framesRejected = (s.stream i).framesRejected + 1 ∧
      (∀ k, k ≠ i → t.stream k = s.stream k) ∧
      t.evu.has .cbmRejectLimit = (s.evu.has .cbmRejectLimit || decide (takes ∧ ¬ below)) ∧
      t.evu.has .cbmRejectNoBuffer = (s.evu.has .cbmRejectNoBuffer || decide (takes ∧ below)) ∧
      RecordWent i .capture
        ([0x81, BitVec.ofNat 8 p.val, BitVec.ofNat 8 e.plan.val, e.tag] ++ be 4 e.part.toNat ++
          [e.count, v.extractLsb' 0 8, v.extractLsb' 8 8, (s.stream i).frameCounter] ++ be 5 e.fireF.toNat ++ be 6 e.fireL.toNat ++
          be 6 s.bpt.lineTime.toNat ++ be 6 s.bpt.lineTime.toNat ++ List.replicate 14 0)
        (s.stream i).frameCounter false s t

/-- An orphan at an IDLE port (R51, R72, R80, R91, R92): under DISCARD the port goes DISCARDING and no record is made; under FORWARD the frame
is admitted on the default stream with no exposure, or refused with a REJECTED and ORPHAN record there. The list is left as it was. -/
def Obligations.OrphanFrame : Prop :=
  ∀ (s : State) (p : PortIx) (parity : Bool) (v : BitVec 16),
    (s.port p).state = .idle → parityGood parity 1 v = true →
    ((s.port p).seqCheck = true ∧ (∀ x ∈ s.exposures p, x.count ≠ v.extractLsb' 0 8) ∨
      (s.port p).seqCheck = false ∧ s.exposures p = []) →
    let base := { s.port p with frames := (s.port p).frames + 1, orphans := (s.port p).orphans + 1 }
    ((s.port p).orphanForward = false →
      ∃ t, exec (.frameStart p parity v) s = .next t ∧
        Raised (.camOrphan p :: (wrapsAt (s.port p).frames (.camWrap p) ++ wrapsAt (s.port p).orphans (.camWrap p))) s t ∧
        t.withReportsOf s = s.setPort p { base with state := .discarding }) ∧
    (let i := (s.port p).defaultStream;
      (s.port p).orphanForward = true → (s.stream i).boundPort = p → (s.stream i).state = .opened →
      (s.stream i).framesHeld < (s.stream i).maxHeld.toNat →
      s.cbm.reserved + 256 + (s.stream i).reservation.toNat ≤ s.freeCount →
      ∃ t, exec (.frameStart p parity v) s = .next t ∧
        Raised (.camOrphan p :: (wrapsAt (s.port p).frames (.camWrap p) ++ wrapsAt (s.port p).orphans (.camWrap p) ++
          wrapsAt (s.stream i).framesAdmitted .cbmWrap)) s t ∧
        t.withReportsOf s = ((s.setReserved (s.cbm.reserved + (s.stream i).reservation.toNat)).setStream i
          { s.stream i with
            framesHeld := (s.stream i).framesHeld + 1, frameCounter := (s.stream i).frameCounter + 1, inProgress := true
            framesAdmitted := (s.stream i).framesAdmitted + 1 }).setPort p
          { base with
            state := .inFrame
            frame := some
              { exposure := none, stream := i, frameNo := (s.stream i).frameCounter + 1, camCount := v.extractLsb' 0 8
                format := v.extractLsb' 8 8, startL := s.bpt.lineTime, endL := none, remaining := (s.stream i).reservation.toNat
                received := 0, forwarded := 0, lines := 0, computed := 0, rxChecksum := 0, parity := false, checksumBad := false
                aborted := false, truncated := false, assembly := none, committed := false } }) ∧
    (let i := (s.port p).defaultStream;
      let takes := (s.stream i).boundPort = p ∧ (s.stream i).state = .opened;
      let below := (s.stream i).framesHeld < (s.stream i).maxHeld.toNat;
      let room := s.cbm.reserved + 256 + (s.stream i).reservation.toNat ≤ s.freeCount;
      (s.port p).orphanForward = true → ¬ (takes ∧ below ∧ room) →
      ∃ t, exec (.frameStart p parity v) s = .next t ∧ t.xcr = s.xcr ∧ t.bpt = s.bpt ∧ t.trq = s.trq ∧
        t.cpr = (s.setPort p { base with state := .discarding }).cpr ∧ t.evu.has (.camOrphan p) = true ∧
        t.cbm.reserved = s.cbm.reserved ∧ (t.stream i).framesHeld = (s.stream i).framesHeld ∧
        (t.stream i).frameCounter = (s.stream i).frameCounter ∧ (t.stream i).framesRejected = (s.stream i).framesRejected + 1 ∧
        (∀ k, k ≠ i → t.stream k = s.stream k) ∧
        t.evu.has .cbmRejectLimit = (s.evu.has .cbmRejectLimit || decide (takes ∧ ¬ below)) ∧
        t.evu.has .cbmRejectNoBuffer = (s.evu.has .cbmRejectNoBuffer || decide (takes ∧ below)) ∧
        RecordWent i .capture
          ([0x05, BitVec.ofNat 8 p.val] ++ List.replicate 7 0xFF ++
            [v.extractLsb' 0 8, v.extractLsb' 8 8, (s.stream i).frameCounter] ++ List.replicate 11 0xFF ++
            be 6 s.bpt.lineTime.toNat ++ be 6 s.bpt.lineTime.toNat ++ List.replicate 14 0)
          (s.stream i).frameCounter false s t)

/-- A match request under sequence check passes over the older exposures, each closed on its own stream with a missing record of cause 2, SKIPPED,
oldest first, and leaves the younger ones (R69, R76, R83, R84); the matched exposure has left the list (R71). -/
def Obligations.MatchSkipsOlder : Prop :=
  ∀ (s : State) (p : PortIx) (older younger : List Exposure) (e : Exposure),
    (s.port p).seqCheck = true → s.exposures p = older ++ e :: younger → (∀ x ∈ older, x.count ≠ e.count) →
    (matchFrame p e.count s).1 = some e ∧
    (let t := (matchFrame p e.count s).2;
      t.exposures p = younger ∧ (∀ q, q ≠ p → t.exposures q = s.exposures q) ∧
      t.port p = { s.port p with missing := (s.port p).missing + BitVec.ofNat 32 older.length } ∧
      (∀ q, q ≠ p → t.port q = s.port q) ∧
      t.evu.has (.camSkipped p) = (s.evu.has (.camSkipped p) || !older.isEmpty) ∧
      t.bpt = s.bpt ∧ t.trq = s.trq ∧
      (∀ x, older = [x] →
        RecordWent x.stream .missing (exposureMissing p x 2 s.bpt.lineTime) (s.stream x.stream).frameCounter false s t) ∧
      let v := handMissing (listMissing p older 2 s.bpt.lineTime) s
      t.cbm = v.cbm ∧
      ∀ f : Factor, f ≠ .camSkipped p → f ≠ .camWrap p → t.evu.has f = v.evu.has f)

/-- A good LINE_START (R54): inside a frame it is counted, up to 65,535, its value unused; in IDLE it is a framing error; in DISCARDING it is
dropped. The count stands at offsets 43 and 44 of the frame's capture record (R119). -/
def Obligations.LineStartCounts : Prop :=
  ∀ (s : State) (p : PortIx) (parity : Bool) (v : BitVec 16), parityGood parity 2 v = true →
    (∀ f, (s.port p).state = .inFrame → (s.port p).frame = some f →
      exec (.lineStart p parity v) s = .next (s.setPort p
        { s.port p with frame := some { f with lines := if f.lines = 65535 then 65535 else f.lines + 1 } })) ∧
    ((s.port p).state = .idle → ∃ t, exec (.lineStart p parity v) s = .next t ∧
      Raised (.camFraming p :: wrapsAt (s.port p).framingErrors (.camWrap p)) s t ∧
      t.withReportsOf s = s.setPort p { s.port p with framingErrors := (s.port p).framingErrors + 1 }) ∧
    ((s.port p).state = .discarding → exec (.lineStart p parity v) s = .next s) ∧
    ∀ (f : FrameCtx) (now : LineTime), ((frameRecord p f now).payload.drop 43).take 2 = be 2 f.lines.toNat

/-- A DATA word placed in an assembly cell that has room (R46, R53, R95, R118): the context's sums, and the two payload bytes, bits 15-8
first, no other byte of the DRAM changed. -/
def Obligations.DataFillsCell : Prop :=
  ∀ (s : State) (p : PortIx) (parity : Bool) (v : BitVec 16) (f : FrameCtx) (a : Assembly),
    (s.port p).state = .inFrame → (s.port p).frame = some f → f.assembly = some a → a.words < 28 → Memory.wf s.cbm.mem = true →
    let good := parityGood parity 3 v
    ∃ t, exec (.data p parity v) s = .next t ∧
      Raised (if good then [] else .camParity p :: wrapsAt (s.port p).parityErrors (.camWrap p)) s t ∧
      t.withReportsOf s = (s.setMem t.cbm.mem).setPort p
        { s.port p with
          parityErrors := if good then (s.port p).parityErrors else (s.port p).parityErrors + 1
          frame := some { f with
            computed := f.computed + v, received := if f.received = 4294967295 then f.received else f.received + 1
            parity := f.parity || !good, forwarded := f.forwarded + 1, assembly := some { index := a.index, words := a.words + 1 } } } ∧
      ∀ addr, readByte t.cbm.mem addr =
        if addr = 64 * a.index + 8 + 2 * a.words then v.extractLsb' 8 8
        else if addr = 64 * a.index + 8 + 2 * a.words + 1 then v.extractLsb' 0 8
        else readByte s.cbm.mem addr

/-- A DATA word that needs a new cell and has reservation left (R53, R90, R94, R95): a full cell is committed as DATA_FIRST or DATA_MID,
the head of the free list becomes the assembly cell, and its other payload bytes are zero (R89). -/
def Obligations.DataTakesNewCell : Prop :=
  ∀ (s : State) (p : PortIx) (parity : Bool) (v : BitVec 16) (f : FrameCtx) (k : Nat) (rest : List Nat),
    (s.port p).state = .inFrame → (s.port p).frame = some f → (∀ a, f.assembly = some a → a.words = 28) → 0 < f.remaining →
    freeCells s.cbm.free = k :: rest → Memory.wf s.cbm.mem = true →
    let good := parityGood parity 3 v
    let full : List QCell := f.assembly.toList.map (fun a =>
      { index := a.index, kind := if f.committed then .dataMid else .dataFirst, len := 56, frameNo := f.frameNo, closing := false })
    ∃ t, exec (.data p parity v) s = .next t ∧
      Raised (if good then [] else .camParity p :: wrapsAt (s.port p).parityErrors (.camWrap p)) s t ∧
      t.withReportsOf s =
        ((((s.setFree t.cbm.free).setMem t.cbm.mem).setReserved (s.cbm.reserved - 1)).setStream f.stream
          { s.stream f.stream with queue := (s.stream f.stream).queue ++ full }).setPort p
          { s.port p with
            parityErrors := if good then (s.port p).parityErrors else (s.port p).parityErrors + 1
            frame := some { f with
              computed := f.computed + v, received := if f.received = 4294967295 then f.received else f.received + 1
              parity := f.parity || !good, forwarded := f.forwarded + 1, remaining := f.remaining - 1
              assembly := some { index := k, words := 1 }, committed := f.committed || f.assembly.isSome } } ∧
      freeCells t.cbm.free = rest ∧
      readPayload t.cbm.mem k = [v.extractLsb' 8 8, v.extractLsb' 0 8] ++ List.replicate 54 0 ∧
      ∀ addr, (addr < 64 * k + 8 ∨ 64 * k + 64 ≤ addr) → readByte t.cbm.mem addr = readByte s.cbm.mem addr

/-- A DATA word that would need a new cell with no reservation left is dropped (R53, R96): a full cell is committed as the frame's last, and
TRUNCATED is set in the context and as a factor. That a dropped word with bad parity sets the context's PARITY flag is the model's choice: it follows
R53 step 3 and not the words of R78 (log 26). -/
def Obligations.DataTruncated : Prop :=
  ∀ (s : State) (p : PortIx) (parity : Bool) (v : BitVec 16) (f : FrameCtx),
    (s.port p).state = .inFrame → (s.port p).frame = some f → (∀ a, f.assembly = some a → a.words = 28) → f.remaining = 0 →
    let good := parityGood parity 3 v
    let full : List QCell := f.assembly.toList.map (fun a =>
      { index := a.index, kind := if f.committed then .dataLast else .dataOnly, len := 56, frameNo := f.frameNo, closing := false })
    ∃ t, exec (.data p parity v) s = .next t ∧
      Raised (.camTruncated p :: (if good then [] else .camParity p :: wrapsAt (s.port p).parityErrors (.camWrap p))) s t ∧
      t.withReportsOf s =
        (s.setStream f.stream { s.stream f.stream with queue := (s.stream f.stream).queue ++ full }).setPort p
          { s.port p with
            parityErrors := if good then (s.port p).parityErrors else (s.port p).parityErrors + 1
            frame := some { f with
              computed := f.computed + v, received := if f.received = 4294967295 then f.received else f.received + 1
              parity := f.parity || !good, truncated := true, assembly := none, committed := f.committed || f.assembly.isSome } }

/-- A good FRAME_END closes the frame (R55, R79, R81, R97, R99, R119) when its stream can take the record: the last cell and the capture
record join the queue, the unused reservation returns, and the port goes IDLE. Where the record is lost and nothing of a DRAINING stream is
queued, the stream becomes CLOSED (R100, R106). -/
def Obligations.FrameEndCloses : Prop :=
  (∀ (s : State) (p : PortIx) (parity : Bool) (v : BitVec 16) (f : FrameCtx),
    (s.port p).state = .inFrame → (s.port p).frame = some f → parityGood parity 4 v = true →
    (s.stream f.stream).state = .draining → (s.stream f.stream).queue = [] → f.assembly = none →
    s.freeCount ≤ s.cbm.reserved - f.remaining →
    let i := f.stream
    ∃ t, exec (.frameEnd p parity v) s = .next t ∧
      Raised (.cbmRecordLost :: .cbmStreamClosed :: (wrapsAt (s.stream i).recordsLost .cbmWrap ++
        if v = f.computed then [] else .camChecksum p :: wrapsAt (s.port p).checksumErrors (.camWrap p))) s t ∧
      t.withReportsOf s =
        ((s.setReserved (s.cbm.reserved - f.remaining)).setStream i
          { s.stream i with
            state := .closed, inProgress := false, framesHeld := (s.stream i).framesHeld - 1
            recordsLost := (s.stream i).recordsLost + 1
            openTx := (s.stream i).openTx && decide ((s.stream i).openTxNo ≠ f.frameNo) }).setPort p
          { s.port p with
            state := .idle, frame := none
            checksumErrors := if v = f.computed then (s.port p).checksumErrors else (s.port p).checksumErrors + 1 }) ∧
  ∀ (s : State) (p : PortIx) (parity : Bool) (v : BitVec 16) (f : FrameCtx) (k : Nat) (rest : List Nat),
    (s.port p).state = .inFrame → (s.port p).frame = some f → parityGood parity 4 v = true →
    (s.stream f.stream).state ≠ .closed → s.cbm.reserved - f.remaining < s.freeCount → freeCells s.cbm.free = k :: rest →
    let i := f.stream
    let bad := f.checksumBad || v != f.computed
    let last : List QCell := f.assembly.toList.map (fun a =>
      { index := a.index, kind := if f.committed then .dataLast else .dataOnly, len := 2 * a.words, frameNo := f.frameNo
        closing := false })
    let flags : Byte :=
      (if f.exposure.isSome then 0x80 else 0x04) ||| (if f.parity then 0x40 else 0) ||| (if bad then 0x20 else 0) |||
      (if f.truncated then 0x10 else 0) ||| (if f.aborted then 0x08 else 0)
    let payload : List Byte :=
      [flags, BitVec.ofNat 8 p.val] ++
      (match f.exposure with
        | some e => [BitVec.ofNat 8 e.plan.val, e.tag] ++ be 4 e.part.toNat ++ [e.count]
        | none => List.replicate 7 0xFF) ++
      [f.camCount, f.format, f.frameNo] ++
      (match f.exposure with
        | some e => be 5 e.fireF.toNat ++ be 6 e.fireL.toNat
        | none => List.replicate 11 0xFF) ++
      be 6 f.startL.toNat ++ be 6 s.bpt.lineTime.toNat ++ be 4 f.received.toNat ++ be 4 f.forwarded.toNat ++ be 2 f.lines.toNat ++
      be 2 v.toNat ++ be 2 f.computed.toNat
    ∃ t, exec (.frameEnd p parity v) s = .next t ∧
      Raised (if v = f.computed then [] else .camChecksum p :: wrapsAt (s.port p).checksumErrors (.camWrap p)) s t ∧
      freeCells t.cbm.free = rest ∧
      t.withReportsOf s =
        ((((s.setFree t.cbm.free).setMem (writePayload s.cbm.mem k payload)).setReserved (s.cbm.reserved - f.remaining)).setStream i
          { s.stream i with
            queue := (s.stream i).queue ++ last ++ [{ index := k, kind := .capture, len := 49, frameNo := f.frameNo, closing := true }]
            inProgress := false }).setPort p
          { s.port p with
            state := .idle, frame := none
            checksumErrors := if v = f.computed then (s.port p).checksumErrors else (s.port p).checksumErrors + 1 }

/-- An exposure whose deadline L has reached, the only such one on its list, expires (R67, R76, R83, R120): it leaves the list, and a NO_FRAME
record with its deadline goes to its stream. -/
def Obligations.ExposureExpires : Prop :=
  ∀ (s : State) (p : PortIx) (older younger : List Exposure) (e : Exposure),
    s.exposures p = older ++ e :: younger → reached s.bpt.lineTime e.deadline = true →
    (∀ x ∈ older ++ younger, reached s.bpt.lineTime x.deadline = false) →
    let i := e.stream
    ∃ t, exec (.exposureExpiry p) s = .next t ∧ t.exposures p = older ++ younger ∧ (∀ q, q ≠ p → t.exposures q = s.exposures q) ∧
      t.cpr = (s.setPort p { s.port p with missing := (s.port p).missing + 1 }).cpr ∧ t.evu.has (.camNoFrame p) = true ∧
      t.bpt = s.bpt ∧ t.trq = s.trq ∧ t.cbm.reserved = s.cbm.reserved ∧ (∀ k, k ≠ i → t.stream k = s.stream k) ∧
      RecordWent i .missing
        ([0x80, BitVec.ofNat 8 p.val, BitVec.ofNat 8 e.plan.val, e.tag] ++ be 4 e.part.toNat ++ [e.count, 1] ++ be 5 e.fireF.toNat ++
          be 6 e.deadline.toNat)
        (s.stream i).frameCounter false s t

/-! ### CBM -/

/-- A record handed to CBM is queued or lost, not both (R99), and the loss of a record with the closing mark closes its frame's accounting
(R100). That the frame's last data cell is the last queued data cell with the record's frame number is the model's reading (log 14). -/
def Obligations.RecordQueuedOrLost : Prop :=
  ∀ (s : State) (i : StreamIx) (kind : CellKind) (payload : List Byte) (f : BitVec 8) (closing : Bool),
    let t := handRecord i kind payload f closing s
    RecordWent i kind payload f closing s t ∧ (∀ k, k ≠ i → t.stream k = s.stream k) ∧ t.cbm.reserved = s.cbm.reserved ∧
    (closing = true → ((s.stream i).state = .closed ∨ s.freeCount ≤ s.cbm.reserved) →
      (∀ before c after, (s.stream i).queue = before ++ c :: after → c.kind.isData = true → c.frameNo = f →
        (∀ x ∈ after, ¬ (x.kind.isData = true ∧ x.frameNo = f)) →
        t.stream i = { s.stream i with
          queue := before ++ { c with closing := true } :: after, recordsLost := (s.stream i).recordsLost + 1 }) ∧
      ((∀ x ∈ (s.stream i).queue, ¬ (x.kind.isData = true ∧ x.frameNo = f)) →
        t.stream i = { s.stream i with
          framesHeld := (s.stream i).framesHeld - 1, recordsLost := (s.stream i).recordsLost + 1
          openTx := (s.stream i).openTx && decide ((s.stream i).openTxNo ≠ f) }))

/-! ### SCD and the outward lane of FLK -/

/-- The cells that the part sends are of 64 bytes, pass the CRC check, and carry their header and payload where R113 says. -/
def Obligations.CellsAsSent : Prop :=
  ∀ (kind stream : Byte) (seq : BitVec 16) (len : Nat) (frameNo : Byte) (payload : List Byte), payload.length ≤ 56 →
    let cell := formCell kind stream seq len frameNo payload
    cell.length = 64 ∧ crcRight cell ∧
    cell.take 6 = [kind, stream, seq.extractLsb' 8 8, seq.extractLsb' 0 8, BitVec.ofNat 8 len, frameNo] ∧
    cell.drop 8 = payload ++ List.replicate (56 - payload.length) 0

/-- What a slot carries that is not spare (R102, R116, R117, R137, R139), while no swap is pending at the wrap: IDLE with the part's state while the
receiver is not in SYNC, the head of the output queue in a MGMT slot, the head cell of an owner stream in its slot. And no slot carries a
data or record cell while the link is HELD or the receiver is not in SYNC. -/
def Obligations.CellSlotCarries : Prop :=
  (∀ s : State, s.flk.tx = none → ¬ (s.scd.slotPtr = 255 ∧ s.scd.swapPending = true) →
    let next (c : TxCell) : State :=
      { s with scd := { s.scd with slotPtr := s.scd.slotPtr + 1 }, flk := { s.flk with tx := some c } }
    (s.flk.rx ≠ .sync →
      exec .cellSlot s = .next (next
        { owner := .idle
          bytes := formCell 0 0 0 14 0 ([s.flk.rx.code, s.lvc.level.code, flagByte s.flk.held] ++ be 2 s.evu.summary ++
            be 3 s.freeCount ++ be 6 s.bpt.lineTime.toNat) })) ∧
    (∀ c rest, s.flk.rx = .sync → s.scd.active[s.scd.slotPtr] = .mgmt → s.mge.output = c :: rest →
      exec .cellSlot s = .next ((next c.sent).setOutput rest)) ∧
    (∀ i c rest, s.flk.rx = .sync → s.scd.active[s.scd.slotPtr] = .stream i → (s.stream i).state ≠ .closed →
      (s.stream i).queue = c :: rest → s.flk.held = false →
      let closes := (s.stream i).state = .draining ∧ rest = [] ∧ (s.stream i).inProgress = false
      ∃ t, exec .cellSlot s = .next t ∧
        Raised (wrapsAt (s.stream i).cellsSent .cbmWrap ++ if closes then [.cbmStreamClosed] else []) s t ∧
        t.withReportsOf s =
          (next
            { owner := .stream c.index
              bytes := formCell c.kind.code (BitVec.ofNat 8 i.val) (s.stream i).seq c.len c.frameNo
                ((readPayload s.cbm.mem c.index).take c.len) }).setStream i
            { s.stream i with
              queue := rest, seq := (s.stream i).seq + 1, cellsSent := (s.stream i).cellsSent + 1
              openTx := (decide (c.kind = .dataFirst ∨ c.kind = .dataOnly) || (s.stream i).openTx) && !c.closing
              openTxNo := if c.kind = .dataFirst ∨ c.kind = .dataOnly then c.frameNo else (s.stream i).openTxNo
              framesHeld := if c.closing then (s.stream i).framesHeld - 1 else (s.stream i).framesHeld
              state := if closes then .closed else (s.stream i).state })) ∧
  (∀ s : State, s.flk.tx = none → (s.flk.held = true ∨ s.flk.rx ≠ .sync) →
    ∃ t c, exec .cellSlot s = .next t ∧ t.flk.tx = some c ∧ c.owner.cell = [] ∧ t.cbm = s.cbm)

/-- A spare slot (R138): management output first; then, if the link is not HELD, the first spare-eligible stream with a ready cell in the
rotation that begins after the spare pointer, which it moves; else IDLE. A slot in which a stream sends as its owner leaves the spare pointer. A
stream whose queue is empty, as after a FLUSH that queued no record (R108), is not selected. -/
def Obligations.SpareSlotRotates : Prop :=
  (∀ (s : State) (i : StreamIx), s.flk.tx = none → s.flk.rx = .sync → s.scd.active[s.scd.slotPtr] = .stream i →
    (s.stream i).state ≠ .closed → (s.stream i).queue ≠ [] → s.flk.held = false →
    ∃ t, exec .cellSlot s = .next t ∧ t.scd.sparePtr = s.scd.sparePtr) ∧
  (∀ (s : State) (i : StreamIx), s.flk.tx = none → (s.stream i).queue = [] →
    ∃ t, exec .cellSlot s = .next t ∧ t.stream i = s.stream i) ∧
  ∀ s : State, s.flk.tx = none → s.flk.rx = .sync →
    (s.scd.active[s.scd.slotPtr] = .none ∨ (s.scd.active[s.scd.slotPtr] = .mgmt ∧ s.mge.output = []) ∨
      ∃ i, s.scd.active[s.scd.slotPtr] = .stream i ∧
        ((s.stream i).state = .closed ∨ (s.stream i).queue = [] ∨ s.flk.held = true)) →
    let ready (i : StreamIx) : Prop := (s.stream i).spare = true ∧ (s.stream i).state ≠ .closed ∧ (s.stream i).queue ≠ []
    ∃ t, exec .cellSlot s = .next t ∧
      (∀ c rest, s.mge.output = c :: rest → t.flk.tx = some c.sent ∧ t.scd.sparePtr = s.scd.sparePtr ∧ t.cbm = s.cbm) ∧
      (∀ i, s.mge.output = [] → s.flk.held = false → ready i →
        (∀ j, ready j → (i - (s.scd.sparePtr + 1)).val ≤ (j - (s.scd.sparePtr + 1)).val) →
        t.scd.sparePtr = i ∧ ∃ c rest, (s.stream i).queue = c :: rest ∧ (t.stream i).queue = rest ∧
          t.flk.tx.map TxCell.owner = some (.stream c.index) ∧ ∀ j, j ≠ i → t.stream j = s.stream j) ∧
      (s.mge.output = [] → (s.flk.held = true ∨ ∀ i, ¬ ready i) →
        t.flk.tx.map TxCell.owner = some .idle ∧ t.scd.sparePtr = s.scd.sparePtr ∧ t.cbm = s.cbm)

/-- Each selection ends by advancing the slot pointer from i to (i + 1) mod 256, whatever it chose; at the calendar wrap a pending swap
exchanges the calendars (R141). The row CALENDAR_SWAP is the selection at slot 255 whose advance carries the swap out (log 3). -/
def Obligations.SlotPointerAndSwap : Prop :=
  (∀ s : State, s.flk.tx = none → ∃ t, exec .cellSlot s = .next t ∧ t.scd.slotPtr.val = (s.scd.slotPtr.val + 1) % 256 ∧
    (if s.scd.slotPtr.val = 255 ∧ s.scd.swapPending = true then
      t.scd.active = s.scd.shadow ∧ t.scd.shadow = s.scd.active ∧ t.scd.swapPending = false ∧ t.evu.has .ctlCalSwapped = true
    else
      t.scd.active = s.scd.active ∧ t.scd.shadow = s.scd.shadow ∧ t.scd.swapPending = s.scd.swapPending ∧
        t.evu.has .ctlCalSwapped = s.evu.has .ctlCalSwapped)) ∧
  (∀ s : State, s.flk.tx = none → s.scd.slotPtr.val = 255 → s.scd.swapPending = true →
    ∃ t, exec .calendarSwap s = .next t ∧ exec .cellSlot s = .next t ∧ t.flk.tx ≠ none ∧ t.scd.slotPtr.val = 0 ∧
      t.scd.active = s.scd.shadow ∧ t.scd.shadow = s.scd.active ∧ t.scd.swapPending = false ∧ t.evu.has .ctlCalSwapped = true)

/-- The end of a slot (R89, R116, R130, R164, R188): a buffer cell joins the tail of the free list, an event cell's end makes the reported set
the active set, the reset response's end makes a pending soft reset due (the bit resetDue is the model's, log 7), and the hold timer counts down.
At its last count the expiry is due (the bit expiryDue is the model's, log 25): HOLD_EXPIRY takes it, before or after the next slot's selection
(R131, R140), or the next slot's end takes it first. At one slot end the end of an event cell's transmission comes before the expiry: R188 allows
both orders, and this one is the model's choice (log 29). -/
def Obligations.TransmissionEnds : Prop :=
  (∀ (s : State) (c : TxCell), s.flk.tx = some c → s.flk.expiryDue = false →
    ∃ t, exec .transmissionEnd s = .next t ∧ freeCells t.cbm.free = freeCells s.cbm.free ++ c.owner.cell ∧
      t = { s with
        flk := { s.flk with
          tx := none, timer := if s.flk.timer = 1 then 1 else s.flk.timer - 1, expiryDue := decide (s.flk.timer = 1) }
        cbm := { s.cbm with free := t.cbm.free }
        mge := { s.mge with
          resetDue := s.mge.resetDue || (decide (c.owner = .response true) && s.mge.resetPending) }
        evu := if c.owner = .event true then { s.evu with reported := Vector.ofFn s.evu.isActive, eventPending := false } else s.evu }) ∧
  (∀ s : State, s.flk.expiryDue = true →
    (∃ t, exec .holdExpiry s = .next t ∧ Raised [.flkHoldExpired] s t ∧
      t.withReportsOf s = { s with flk := { s.flk with held := false, timer := 0, expiryDue := false } }) ∧
    (∀ c, s.flk.tx = some c →
      ∃ u t, exec .holdExpiry s = .next u ∧ exec .transmissionEnd u = .next t ∧ exec .transmissionEnd s = .next t) ∧
    (s.flk.tx = none → ∃ t, exec .cellSlot s = .next t ∧ t.flk = { s.flk with tx := t.flk.tx })) ∧
  (∀ s : State, s.flk.expiryDue = false → exec .holdExpiry s = .next s)

/-! ### The return lane of FLK -/

/-- The receiver at a delimiter, a loss of light and a bad cell (R124-R128): leaving SYNC ends the hold without an expiry and makes a
pending soft reset due (R164). The bits resetDue and expiryDue are the model's (logs 7 and 25), and so is that each run stands at 0 outside its
state (log 17). -/
def Obligations.ReceiverChanges : Prop :=
  ∀ s : State,
    let leaves (c : Instr) (fs : List Factor) (bad : BitVec 32) : Prop :=
      ∃ u, exec c s = .next { u with mge := { u.mge with resetDue := s.mge.resetDue || s.mge.resetPending } } ∧
        Raised (fs ++ [.flkDown]) s u ∧
        u.withReportsOf s = { s with flk :=
          { s.flk with rx := .search, goodRun := 0, badRun := 0, held := false, timer := 0, expiryDue := false, badCells := bad } }
    (∀ light, exec (.delimiterFound light) s =
      .next (if light = true ∧ s.flk.rx = .search then { s with flk := { s.flk with rx := .verify, goodRun := 0 } } else s)) ∧
    (s.flk.rx = .search → exec .lossOfLight s = .next s) ∧
    (s.flk.rx = .verify → exec .lossOfLight s = .next { s with flk := { s.flk with rx := .search, goodRun := 0 } }) ∧
    (s.flk.rx = .sync → leaves .lossOfLight [] s.flk.badCells) ∧
    ∀ cell, BadCell cell →
      let fs : List Factor := .flkBadCell :: wrapsAt s.flk.badCells .flkWrap
      (s.flk.rx = .search → exec (.badCell cell) s = .next s) ∧
      (s.flk.rx = .verify → ∃ t, exec (.badCell cell) s = .next t ∧ Raised fs s t ∧
        t.withReportsOf s = { s with flk := { s.flk with rx := .search, goodRun := 0, badCells := s.flk.badCells + 1 } }) ∧
      (s.flk.rx = .sync → s.flk.badRun + 1 < 4 → ∃ t, exec (.badCell cell) s = .next t ∧ Raised fs s t ∧
        t.withReportsOf s = { s with flk := { s.flk with badRun := s.flk.badRun + 1, badCells := s.flk.badCells + 1 } }) ∧
      (s.flk.rx = .sync → 4 ≤ s.flk.badRun + 1 → leaves (.badCell cell) fs (s.flk.badCells + 1))

/-- Good cells (R117, R124, R126, R127, R129, R148): nothing in SEARCH, counted in VERIFY up to the sixteenth, which enters SYNC, and acted
on in SYNC by their kind. That the good-cell run is 0 from the entry into SYNC is the model's reading (log 17). A HOLD, and a RESUME while HELD,
taken before an expiry that is due leave none to take (R130; the bit expiryDue is the model's, log 25). -/
def Obligations.GoodCellsTaken : Prop :=
  ∀ (s : State) (k : Byte) (cell : List Byte) (c : Instr), GoodCell k cell →
    (k, c) ∈ [((0 : Byte), Instr.idleCell cell), (9, .mgmtReq cell), (10, .hold cell), (11, .resume cell)] →
    (s.flk.rx = .search → exec c s = .next s) ∧
    (s.flk.rx = .verify → s.flk.goodRun + 1 < 16 →
      exec c s = .next { s with flk := { s.flk with goodRun := s.flk.goodRun + 1 } }) ∧
    (s.flk.rx = .verify → 16 ≤ s.flk.goodRun + 1 → ∃ t, exec c s = .next t ∧
      Raised (.flkUp :: wrapsAt s.flk.resyncs .flkWrap) s t ∧
      t.withReportsOf s = { s with flk := { s.flk with rx := .sync, goodRun := 0, badRun := 0, resyncs := s.flk.resyncs + 1 } }) ∧
    (s.flk.rx = .sync →
      (k = 0 → exec c s = .next { s with flk := { s.flk with badRun := 0 } }) ∧
      (k = 9 → s.mge.requests.length < 8 →
        exec c s = .next { s with
          flk := { s.flk with badRun := 0 }
          mge := { s.mge with requests := s.mge.requests ++ [(cell.drop 8).take 56] } }) ∧
      (k = 9 → 8 ≤ s.mge.requests.length →
        ∃ u, exec c s = .next { u with mge := { u.mge with dropped := s.mge.dropped + 1 } } ∧
          Raised (.ctlReqDropped :: wrapsAt s.mge.dropped .ctlWrap) s u ∧
          u.withReportsOf s = { s with flk := { s.flk with badRun := 0 } }) ∧
      (k = 10 → ∃ t, exec c s = .next t ∧ Raised (wrapsAt s.flk.holds .flkWrap) s t ∧
        t.withReportsOf s = { s with flk :=
          { s.flk with badRun := 0, held := true, timer := s.flk.holdLimit.toNat * 1024, expiryDue := false, holds := s.flk.holds + 1 } }) ∧
      (k = 11 → exec c s = .next { s with flk :=
        { s.flk with
          badRun := 0, held := false, timer := if s.flk.held then 0 else s.flk.timer
          expiryDue := s.flk.expiryDue && !s.flk.held } }))

/-! ### MGE -/

/-- A management row takes the head of the request queue or does nothing (R149); what it takes leaves the queue and is answered at the tail of
the output queue, behind at most one event cell; and a request that fails a check, the status being neither OK nor QUEUED, changes no
other state and carries no data (R152). That the event cell of a take stands before its response is the model's choice (log 9). -/
def Obligations.TakesAnswerOnce : Prop :=
  ∀ (c : Instr) (s : State), isTake c = true → ∃ t, exec c s = .next t ∧
    (t = s ∨ ∃ r rest, s.offers r rest ∧ t.mge.requests = rest ∧
      ∃ (status : Byte) (data : List Byte) (isReset : Bool) (events : List OutCell),
        events.length ≤ 1 ∧ (∀ x ∈ events, x.isResponse = false) ∧
        t.mge.output = s.mge.output ++ events ++ [.response isReset (reply r status data)] ∧
        (status ≠ 0 → data = []) ∧ (status ≠ 0 → status ≠ 1 → t = s.answered rest (reply r status)))

/-- The requests that change nothing (R152, R153, R162): an unknown operation, a READ, which gives every field of the entry as it stands, at its
table width and in ascending field number, an absent one as all ones, or 48 calendar slots, and STATUS. -/
def Obligations.RequestsThatOnlyRead : Prop :=
  ∀ (s : State) (r : Request) (rest : List Request), s.offers r rest →
    let level : Byte :=
      match s.lvc.level with
      | .listen => 0
      | .standby => 1
      | .run => 2
      | .powering => 3
      | .emptying => 4
      | .shutting => 5
    let direction : Byte :=
      match s.bpt.lastDir with
      | .none => 0
      | .forward => 1
      | .reverse => 2
    let receiver : Byte :=
      match s.flk.rx with
      | .search => 0
      | .verify => 1
      | .sync => 2
    ((reqOp r = 0 ∨ 13 < reqOp r) → exec .badOp s = .next (s.answered rest (reply r 3))) ∧
    (reqOp r = 1 →
      let entries := [4, 16, 6, 16, 256, 256, 1, 1, 1, 1, 1, 11]
      (12 ≤ reqTable r → exec .read s = .next (s.answered rest (reply r 4))) ∧
      (reqTable r < 12 → entries.getD (reqTable r) 0 ≤ reqIndex r → exec .read s = .next (s.answered rest (reply r 5))) ∧
      let gives (data : List Byte) : Prop := exec .read s = .next (s.answered rest (reply r 0 data))
      let slots (cal : Vector Slot 256) (n : Fin 256) : List Byte := (List.range 48).map (fun k =>
        match cal[n + Fin.ofNat 256 k] with
        | .stream i => BitVec.ofNat 8 i.val
        | .mgmt => 16
        | .none => 17)
      (reqTable r = 0 → ∀ n : SensorIx, reqIndex r = n.val →
        let x := s.sensor n
        gives ([flagByte x.enabled, BitVec.ofNat 8 x.depth, if x.transition = .rising then 0 else 1] ++ be 3 x.lockout.toNat ++
          [flagByte x.filter.level] ++
          match x.lastReg with
          | some f => (1 : Byte) :: be 5 f.toNat
          | none => [0, 0xFF, 0xFF, 0xFF, 0xFF, 0xFF])) ∧
      (reqTable r = 1 → ∀ n : PlanIx, reqIndex r = n.val →
        let x := s.planEntry n
        gives ([flagByte x.enabled, BitVec.ofNat 8 x.sensor.val, BitVec.ofNat 8 x.port.val] ++ be 4 x.offset.toNat ++
          [BitVec.ofNat 8 x.stream.val] ++ be 2 x.width.toNat ++ [x.tag])) ∧
      (reqTable r = 2 → ∀ p : PortIx, reqIndex r = p.val →
        let x := s.port p
        gives ([if x.polarity = .activeHigh then (0 : Byte) else 1] ++ be 2 x.rearmGap.toNat ++ be 2 x.exposureTimeout.toNat ++
          [BitVec.ofNat 8 x.defaultStream.val, flagByte x.orphanForward, flagByte x.seqCheck, flagByte x.enabled,
            match x.state with
            | .off => 0
            | .idle => 1
            | .inFrame => 2
            | .discarding => 3,
            (s.stage p).count, BitVec.ofNat 8 (s.exposures p).length])) ∧
      (reqTable r = 3 → ∀ i : StreamIx, reqIndex r = i.val →
        let x := s.stream i
        gives ([BitVec.ofNat 8 x.boundPort.val] ++ be 2 x.reservation.toNat ++ [x.maxHeld, flagByte x.spare,
            match x.state with
            | .closed => 0
            | .opened => 1
            | .draining => 2] ++
          be 3 x.queue.length ++ [BitVec.ofNat 8 x.framesHeld] ++ be 2 x.seq.toNat ++
          [x.frameCounter, flagByte x.inProgress] ++ if x.openTx then [(1 : Byte), x.openTxNo] else [0, 0xFF])) ∧
      (reqTable r = 4 → ∀ n : Fin 256, reqIndex r = n.val → gives (slots s.scd.shadow n)) ∧
      (reqTable r = 5 → ∀ n : Fin 256, reqIndex r = n.val → gives (slots s.scd.active n)) ∧
      (reqTable r = 6 → reqIndex r = 0 →
        gives ([BitVec.ofNat 8 s.bpt.tickCode, BitVec.ofNat 8 s.bpt.stepDepth, BitVec.ofNat 8 s.bpt.dirDepth,
            if s.bpt.polarity = .forwardHigh then 0 else 1] ++
          be 4 s.bpt.p.toNat ++ [s.bpt.fraction, flagByte s.bpt.intervalValid] ++ be 3 s.bpt.lastInterval.toNat ++
          [direction] ++ be 6 s.bpt.lineTime.toNat)) ∧
      (reqTable r = 7 → reqIndex r = 0 →
        gives ([BitVec.ofNat 8 s.trq.tickCode] ++ be 4 s.trq.partCounter.toNat ++ [BitVec.ofNat 8 s.trq.queue.length] ++
          match s.trq.queue with
          | e :: _ => be 5 e.due.toNat ++ be 4 e.part.toNat ++ be 5 e.regF.toNat
          | [] => List.replicate 14 0xFF)) ∧
      (reqTable r = 8 → reqIndex r = 0 →
        gives ([BitVec.ofNat 8 s.ccr.tickCode, BitVec.ofNat 8 s.ccr.timing.lowLen, BitVec.ofNat 8 s.ccr.timing.highLen] ++
          be 2 s.ccr.timing.stallLimit.toNat ++ be 2 s.ccr.timing.busFreeWait.toNat ++ [s.ccr.timing.deferLimit])) ∧
      (reqTable r = 9 → reqIndex r = 0 →
        gives [s.lvc.powerSettle, s.lvc.drainLimit, level]) ∧
      (reqTable r = 10 → reqIndex r = 0 →
        gives ([s.flk.holdLimit, receiver, flagByte s.flk.held] ++ be 3 s.flk.timer)) ∧
      (reqTable r = 11 → ∀ g : GroupIx, reqIndex r = g.val →
        gives [s.evu.enables[g], flagByte s.evu.notice[g], s.evu.factors[g],
          flagByte (s.evu.factors[g] &&& s.evu.enables[g] != 0)])) ∧
    (reqOp r = 12 → exec .status s = .next (s.answered rest (reply r 0
      ([level, receiver, flagByte s.flk.held] ++ be 3 s.freeCount ++ be 3 s.cbm.reserved ++ be 2 s.evu.summary ++
        [flagByte s.scd.swapPending, flagByte s.ccr.engine.isSome, BitVec.ofNat 8 s.ccr.queue.length, BitVec.ofNat 8 rest.length,
          BitVec.ofNat 8 s.mge.output.length] ++ be 6 s.bpt.lineTime.toNat))))

/-- READ_COUNTERS (R159, R190): the checks, and each group's counters in order, cleared in the same event where the request asks it. -/
def Obligations.CountersRead : Prop :=
  ∀ (s : State) (r : Request) (rest : List Request), s.offers r rest → reqOp r = 4 →
    let group := reqNat r 2
    let flag := reqNat r 4
    let gives (values : List (BitVec 32)) (cleared : State) : Prop :=
      exec .readCounters s = .next ((if flag = 1 then cleared else s).answered rest (reply r 0 (values.flatMap (fun x => be 4 x.toNat))))
    ((10 < group ∨ group = 8 ∧ 15 < reqNat r 3) → exec .readCounters s = .next (s.answered rest (reply r 5))) ∧
    (group ≤ 10 → ¬ (group = 8 ∧ 15 < reqNat r 3) → 1 < flag → exec .readCounters s = .next (s.answered rest (reply r 6))) ∧
    (flag ≤ 1 →
      (group = 0 → gives [s.bpt.forwardEdges, s.bpt.reverseEdges, s.bpt.stalls]
        { s with bpt := { s.bpt with forwardEdges := 0, reverseEdges := 0, stalls := 0 } }) ∧
      (group = 1 →
        gives [s.trq.partsRegistered, s.trq.lockoutEdges, s.trq.reverseSensorEdges, s.trq.triggersFired, s.trq.triggersFailed]
          { s with trq := { s.trq with
            partsRegistered := 0, lockoutEdges := 0, reverseSensorEdges := 0, triggersFired := 0, triggersFailed := 0 } }) ∧
      (∀ p : PortIx, group = 2 + p.val →
        gives [(s.port p).frames, (s.port p).parityErrors, (s.port p).framingErrors, (s.port p).checksumErrors, (s.port p).orphans,
            (s.port p).missing]
          (s.setPort p
            { s.port p with
              frames := 0, parityErrors := 0, framingErrors := 0, checksumErrors := 0, orphans := 0, missing := 0 })) ∧
      (∀ i : StreamIx, group = 8 → reqNat r 3 = i.val →
        gives [(s.stream i).cellsSent, (s.stream i).framesAdmitted, (s.stream i).framesRejected, (s.stream i).recordsLost]
          (s.setStream i { s.stream i with cellsSent := 0, framesAdmitted := 0, framesRejected := 0, recordsLost := 0 })) ∧
      (group = 9 → gives [s.flk.badCells, s.flk.resyncs, s.flk.holds]
        { s with flk := { s.flk with badCells := 0, resyncs := 0, holds := 0 } }) ∧
      (group = 10 → gives [s.mge.dropped] { s with mge := { s.mge with dropped := 0 } }))

/-- CLEAR_EVENTS (R121, R160, R186, R189): the selected factors are cleared, the group leaves the reported set if it has left the active set,
and no event cell is made. -/
def Obligations.EventsCleared : Prop :=
  ∀ (s : State) (r : Request) (rest : List Request), s.offers r rest → reqOp r = 5 →
    let mask := byteAt r 4
    (10 < reqNat r 2 → exec .clearEvents s = .next (s.answered rest (reply r 5))) ∧
    ∀ g : GroupIx, reqNat r 2 = g.val →
      let defined : Byte := [0x0F, 0x7F, 0xFF, 0xFF, 0xFF, 0xFF, 0xFF, 0xFF, 0x3F, 0x1F, 0x3F].getD g.val 0
      let after := s.evu.factors[g] &&& ~~~mask
      (mask &&& ~~~defined ≠ 0 → exec .clearEvents s = .next (s.answered rest (reply r 6))) ∧
      (mask &&& ~~~defined = 0 → exec .clearEvents s = .next (
        { s with evu := { s.evu with
          factors := s.evu.factors.set g after
          reported := s.evu.reported.set g
            (s.evu.reported[g] && (after &&& s.evu.enables[g] != 0) && s.evu.notice[g]) } }.answered rest (reply r 0)))

/-- WRITE to BELT, TRIGGER and RELAY (R1, R18, R21, R154, R155): the checks in order, the clamped fields, and the prescaler or filter that a
stored code restarts. That a restarted prescaler shows no tick is the model's choice (log 4). -/
def Obligations.TimingTablesWritten : Prop :=
  ∀ (s : State) (r : Request) (rest : List Request), s.offers r rest → reqOp r = 2 →
    let mask := reqMask r
    (reqTable r = 6 →
      let w := [1, 1, 1, 1]
      let good := mask < 16 ∧ carriedAtMost w r 3 1
      (reqIndex r ≠ 0 → exec .writeBelt s = .next (s.answered rest (reply r 5))) ∧
      (reqIndex r = 0 → s.lvc.level ≠ .listen → exec .writeBelt s = .next (s.answered rest (reply r 7))) ∧
      (reqIndex r = 0 → s.lvc.level = .listen → ¬ good → exec .writeBelt s = .next (s.answered rest (reply r 6))) ∧
      (reqIndex r = 0 → s.lvc.level = .listen → good → exec .writeBelt s = .next (
        { s with bpt := { s.bpt with
          tickCode := newField w r 0 s.bpt.tickCode (min 14)
          beltPre := if mask.testBit 0 then ⟨0, false⟩ else s.bpt.beltPre
          stepDepth := newField w r 1 s.bpt.stepDepth (min 5)
          stepFilter := if mask.testBit 1 then { s.bpt.stepFilter with run := 0 } else s.bpt.stepFilter
          dirDepth := newField w r 2 s.bpt.dirDepth (min 5)
          dirFilter := if mask.testBit 2 then { s.bpt.dirFilter with run := 0 } else s.bpt.dirFilter
          polarity := newField w r 3 s.bpt.polarity (fun n => if n = 0 then .forwardHigh else .forwardLow) } }.answered
            rest (reply r 0)))) ∧
    (reqTable r = 7 →
      let allowed := s.lvc.level = .listen ∨ s.lvc.level = .standby
      (reqIndex r ≠ 0 → exec .writeTrigger s = .next (s.answered rest (reply r 5))) ∧
      (reqIndex r = 0 → ¬ allowed → exec .writeTrigger s = .next (s.answered rest (reply r 7))) ∧
      (reqIndex r = 0 → allowed → 2 ≤ mask → exec .writeTrigger s = .next (s.answered rest (reply r 6))) ∧
      (reqIndex r = 0 → allowed → mask < 2 → exec .writeTrigger s = .next (
        { s with
          trq := { s.trq with tickCode := newField [1] r 0 s.trq.tickCode (min 14) }
          bpt := { s.bpt with trigPre := if mask.testBit 0 then ⟨0, false⟩ else s.bpt.trigPre } }.answered rest (reply r 0)))) ∧
    (reqTable r = 8 →
      let w := [1, 1, 1, 2, 2, 1]
      let busy := s.ccr.engine ≠ none ∨ s.ccr.queue ≠ []
      (reqIndex r ≠ 0 → exec .writeRelay s = .next (s.answered rest (reply r 5))) ∧
      (reqIndex r = 0 → busy → exec .writeRelay s = .next (s.answered rest (reply r 2))) ∧
      (reqIndex r = 0 → ¬ busy → 64 ≤ mask → exec .writeRelay s = .next (s.answered rest (reply r 6))) ∧
      (reqIndex r = 0 → ¬ busy → mask < 64 → exec .writeRelay s = .next (
        { s with
          ccr := { s.ccr with
            tickCode := newField w r 0 s.ccr.tickCode (min 14)
            timing :=
              { lowLen := newField w r 1 s.ccr.timing.lowLen (min 63)
                highLen := newField w r 2 s.ccr.timing.highLen (min 63)
                stallLimit := newField w r 3 s.ccr.timing.stallLimit (fun n => BitVec.ofNat 16 (max 1 n))
                busFreeWait := newField w r 4 s.ccr.timing.busFreeWait (fun n => BitVec.ofNat 16 (max 1 n))
                deferLimit := newField w r 5 s.ccr.timing.deferLimit (fun n => BitVec.ofNat 8 (max 1 n)) } }
          bpt := { s.bpt with relayPre := if mask.testBit 0 then ⟨0, false⟩ else s.bpt.relayPre } }.answered rest (reply r 0))))

/-- WRITE to SENSOR and PORT (R23, R61, R154): the checks in order and the fields. A depth code stored clears the filter's run count, and a
trigger polarity stored moves the output to its inactive level. -/
def Obligations.InputTablesWritten : Prop :=
  ∀ (s : State) (r : Request) (rest : List Request), s.offers r rest → reqOp r = 2 →
    let mask := reqMask r
    (reqTable r = 0 →
      let w := [1, 1, 1, 3]
      let good := mask < 16 ∧ carriedAtMost w r 0 1 ∧ carriedAtMost w r 2 1
      (4 ≤ reqIndex r → exec .writeSensor s = .next (s.answered rest (reply r 5))) ∧
      ∀ n : SensorIx, reqIndex r = n.val →
        (¬ good → exec .writeSensor s = .next (s.answered rest (reply r 6))) ∧
        (good → exec .writeSensor s = .next ((s.setSensor n
          { s.sensor n with
            enabled := newField w r 0 (s.sensor n).enabled (fun v => v == 1)
            depth := newField w r 1 (s.sensor n).depth (min 5)
            filter := if mask.testBit 1 then { (s.sensor n).filter with run := 0 } else (s.sensor n).filter
            transition := newField w r 2 (s.sensor n).transition (fun v => if v = 0 then .rising else .falling)
            lockout := newField w r 3 (s.sensor n).lockout (BitVec.ofNat 24) }).answered rest (reply r 0)))) ∧
    (reqTable r = 2 →
      let w := [1, 2, 2, 1, 1, 1]
      let good := mask < 64 ∧ carriedAtMost w r 0 1 ∧ carriedAtMost w r 3 15 ∧ carriedAtMost w r 4 1 ∧ carriedAtMost w r 5 1
      (6 ≤ reqIndex r → exec .writePort s = .next (s.answered rest (reply r 5))) ∧
      ∀ p : PortIx, reqIndex r = p.val →
        let locked := (s.port p).enabled = true ∧ ∃ m, m ≠ 2 ∧ mask.testBit m = true
        let stored : Port :=
          { s.port p with
            polarity := newField w r 0 (s.port p).polarity (fun v => if v = 0 then .activeHigh else .activeLow)
            rearmGap := newField w r 1 (s.port p).rearmGap (BitVec.ofNat 16)
            exposureTimeout := newField w r 2 (s.port p).exposureTimeout (fun v => BitVec.ofNat 16 (max 1 v))
            defaultStream := newField w r 3 (s.port p).defaultStream (Fin.ofNat 16)
            orphanForward := newField w r 4 (s.port p).orphanForward (fun v => v == 1)
            seqCheck := newField w r 5 (s.port p).seqCheck (fun v => v == 1) }
        (locked → exec .writePort s = .next (s.answered rest (reply r 7))) ∧
        (¬ locked → ¬ good → exec .writePort s = .next (s.answered rest (reply r 6))) ∧
        (¬ locked → good → exec .writePort s = .next (
          (if mask.testBit 0 then
            (s.setPort p stored).setStage p { s.stage p with out := stored.polarity == .activeLow }
          else s.setPort p stored).answered rest (reply r 0))))

/-- WRITE to PLAN, STREAM, LEVEL, LINK and the calendars, and to no table (R29, R110, R133, R143, R154, R156): the checks in order and the
fields. -/
def Obligations.OtherTablesWritten : Prop :=
  ∀ (s : State) (r : Request) (rest : List Request), s.offers r rest → reqOp r = 2 →
    let mask := reqMask r
    let answers (t : State) (code : Byte) : Prop := exec .write s = .next (t.answered rest (reply r code))
    (12 ≤ reqTable r → answers s 4) ∧
    (reqTable r = 1 →
      let w := [1, 1, 1, 4, 1, 2, 1]
      let good := mask < 128 ∧ carriedAtMost w r 0 1 ∧ carriedAtMost w r 1 3 ∧ carriedAtMost w r 2 5 ∧ carriedAtMost w r 4 15
      (16 ≤ reqIndex r → answers s 5) ∧
      ∀ i : PlanIx, reqIndex r = i.val →
        (¬ good → answers s 6) ∧
        (good → answers (s.setPlanEntry i
          { enabled := newField w r 0 (s.planEntry i).enabled (fun v => v == 1)
            sensor := newField w r 1 (s.planEntry i).sensor (Fin.ofNat 4)
            port := newField w r 2 (s.planEntry i).port (Fin.ofNat 6)
            offset := newField w r 3 (s.planEntry i).offset (fun v => BitVec.ofNat 32 (max 1 (min 2147483648 v)))
            stream := newField w r 4 (s.planEntry i).stream (Fin.ofNat 16)
            width := newField w r 5 (s.planEntry i).width (fun v => BitVec.ofNat 16 (max 1 v))
            tag := newField w r 6 (s.planEntry i).tag (BitVec.ofNat 8) }) 0)) ∧
    (reqTable r = 3 →
      let w := [1, 2, 1, 1]
      let good := mask < 16 ∧ carriedAtMost w r 0 5 ∧ carriedAtMost w r 3 1
      (16 ≤ reqIndex r → answers s 5) ∧
      ∀ i : StreamIx, reqIndex r = i.val →
        ((s.stream i).state ≠ .closed → answers s 7) ∧
        ((s.stream i).state = .closed → ¬ good → answers s 6) ∧
        ((s.stream i).state = .closed → good → answers (s.setStream i
          { s.stream i with
            boundPort := newField w r 0 (s.stream i).boundPort (Fin.ofNat 6)
            reservation := newField w r 1 (s.stream i).reservation (fun v => BitVec.ofNat 16 (max 1 v))
            maxHeld := newField w r 2 (s.stream i).maxHeld (fun v => BitVec.ofNat 8 (max 1 v))
            spare := newField w r 3 (s.stream i).spare (fun v => v == 1) }) 0)) ∧
    (reqTable r = 4 →
      let good := mask < 2 ∧ carriedAtMost [1] r 0 17
      (s.scd.swapPending = true → answers s 2) ∧
      (s.scd.swapPending = false → ¬ good → answers s 6) ∧
      (s.scd.swapPending = false → good → ∀ n : Fin 256, reqIndex r = n.val →
        answers { s with scd := { s.scd with
          shadow := s.scd.shadow.set n (newField [1] r 0 s.scd.shadow[n]
            (fun v => if h : v < 16 then .stream ⟨v, h⟩ else if v = 16 then .mgmt else .none)) } } 0)) ∧
    (reqTable r = 5 → answers s 8) ∧
    (reqTable r = 9 →
      (reqIndex r ≠ 0 → answers s 5) ∧
      (reqIndex r = 0 → 4 ≤ mask → answers s 6) ∧
      (reqIndex r = 0 → mask < 4 → answers { s with lvc := { s.lvc with
        powerSettle := newField [1, 1] r 0 s.lvc.powerSettle (fun v => BitVec.ofNat 8 (max 1 v))
        drainLimit := newField [1, 1] r 1 s.lvc.drainLimit (fun v => BitVec.ofNat 8 (max 1 v)) } } 0)) ∧
    (reqTable r = 10 →
      (reqIndex r ≠ 0 → answers s 5) ∧
      (reqIndex r = 0 → 2 ≤ mask → answers s 6) ∧
      (reqIndex r = 0 → mask < 2 → answers { s with flk := { s.flk with
        holdLimit := newField [1] r 0 s.flk.holdLimit (BitVec.ofNat 8) } } 0))

/-- EVU's summaries and event cells (R117, R121, R185, R187), and WRITE to EVENT (R157, R185-R187, R189). A factor that brings its group newly into
the active set makes an event cell, if news is there and none is pending. A WRITE: the checks, the enables stored, the group taken off the
reported set if it has left the active set, and the event cell if the write made the group active and none is pending. That this cell stands
before the response of the WRITE is the model's choice (log 9). -/
def Obligations.EventTableWritten : Prop :=
  (∀ e : Evu, e.summary < 2048 ∧ ∀ g : GroupIx, e.summary.testBit g.val = (e.factors[g] &&& e.enables[g] != 0)) ∧
  (∀ (s : State) (f : Factor),
    let e : Evu := { s.evu with factors := s.evu.factors.set f.group (s.evu.factors[f.group] ||| (1#8 <<< f.bit.val)) }
    let active (x : Evu) (g : GroupIx) : Prop := x.factors[g] &&& x.enables[g] ≠ 0 ∧ x.notice[g] = true
    let creates := active e f.group ∧ ¬ active s.evu f.group ∧ (∃ g, active e g ∧ e.reported[g] = false) ∧ s.evu.eventPending = false
    (creates → setFactor f s = { s with evu := { e with eventPending := true } }.setOutput
      (s.mge.output ++ [OutCell.event (be 2 e.summary ++ e.factors.toList ++ be 6 s.bpt.lineTime.toNat)])) ∧
    (¬ creates → setFactor f s = { s with evu := e })) ∧
  ∀ (s : State) (r : Request) (rest : List Request), s.offers r rest → reqOp r = 2 → reqTable r = 11 →
    let w := [1, 1]
    (11 ≤ reqIndex r → exec .writeEvent s = .next (s.answered rest (reply r 5))) ∧
    ∀ g : GroupIx, reqIndex r = g.val →
      let defined : Byte := [0x0F, 0x7F, 0xFF, 0xFF, 0xFF, 0xFF, 0xFF, 0xFF, 0x3F, 0x1F, 0x3F].getD g.val 0
      let good := reqMask r < 4 ∧ carriedAtMost w r 1 1 ∧
        newField w r 0 0#8 (BitVec.ofNat 8) &&& ~~~defined = 0
      let enable := newField w r 0 s.evu.enables[g] (BitVec.ofNat 8)
      let notice := newField w r 1 s.evu.notice[g] (fun v => v == 1)
      let active := (s.evu.factors[g] &&& enable != 0) && notice
      let was := (s.evu.factors[g] &&& s.evu.enables[g] != 0) && s.evu.notice[g]
      let e : Evu :=
        { s.evu with
          enables := s.evu.enables.set g enable, notice := s.evu.notice.set g notice
          reported := s.evu.reported.set g (s.evu.reported[g] && active) }
      let creates := s.evu.eventPending = false ∧ active = true ∧ was = false ∧
        ∃ k : GroupIx, e.isActive k = true ∧ e.reported[k] = false
      (¬ good → exec .writeEvent s = .next (s.answered rest (reply r 6))) ∧
      (good → creates → exec .writeEvent s = .next (
        ({ s with evu := { e with eventPending := true } }.setOutput
          (s.mge.output ++ [OutCell.event (be 2 e.summary ++ e.factors.toList ++ be 6 s.bpt.lineTime.toNat)])).answered rest (reply r 0))) ∧
      (good → ¬ creates → exec .writeEvent s = .next ({ s with evu := e }.answered rest (reply r 0)))

/-- WRITE_CAL and CAL_SWAP (R136, R142, R144): BUSY while a swap is pending, the value checks, the run of slots that wraps from 255 to 0, and
the MGMT slot that a swap needs. -/
def Obligations.CalendarRequests : Prop :=
  ∀ (s : State) (r : Request) (rest : List Request), s.offers r rest → r.length = 56 →
    let count := reqNat r 4
    (reqOp r = 3 →
      let good := 1 ≤ count ∧ count ≤ 48 ∧ ∀ k < count, (byteAt r (6 + k)).toNat ≤ 17
      (s.scd.swapPending = true → exec .writeCal s = .next (s.answered rest (reply r 2))) ∧
      (s.scd.swapPending = false → ¬ good → exec .writeCal s = .next (s.answered rest (reply r 6))) ∧
      (s.scd.swapPending = false → good → ∃ shadow : Vector Slot 256,
        exec .writeCal s = .next ({ s with scd := { s.scd with shadow } }.answered rest (reply r 0)) ∧
        (∀ k < count, ∀ n : Fin 256, n.val = (reqNat r 3 + k) % 256 →
          let v := (byteAt r (6 + k)).toNat
          shadow[n] = if h : v < 16 then .stream ⟨v, h⟩ else if v = 16 then .mgmt else .none) ∧
        (∀ n : Fin 256, (∀ k < count, n.val ≠ (reqNat r 3 + k) % 256) → shadow[n] = s.scd.shadow[n]))) ∧
    (reqOp r = 8 →
      (s.scd.swapPending = true → exec .calSwap s = .next (s.answered rest (reply r 2))) ∧
      (s.scd.swapPending = false → (∀ n : Fin 256, s.scd.shadow[n] ≠ .mgmt) →
        exec .calSwap s = .next (s.answered rest (reply r 6))) ∧
      (s.scd.swapPending = false → (∃ n : Fin 256, s.scd.shadow[n] = .mgmt) →
        exec .calSwap s = .next ({ s with scd := { s.scd with swapPending := true } }.answered rest (reply r 0))))

/-- OPEN and CLOSE (R105, R106, R158), and the checks they share with FLUSH; an action above 2 may be answered by any of the three rows
(log 6). That an event cell that CLOSE makes stands before its response is the model's choice (log 9). -/
def Obligations.StreamsOpenAndClose : Prop :=
  ∀ (s : State) (r : Request) (rest : List Request), s.offers r rest → reqOp r = 6 →
    (∀ a c, (a, c) ∈ [(0, Instr.openStream), (1, .closeStream), (2, .flushStream)] →
      (16 ≤ reqNat r 2 → (reqNat r 3 = a ∨ 3 ≤ reqNat r 3) → exec c s = .next (s.answered rest (reply r 5))) ∧
      (reqNat r 2 < 16 → 3 ≤ reqNat r 3 → exec c s = .next (s.answered rest (reply r 6)))) ∧
    ∀ i : StreamIx, reqNat r 2 = i.val →
      (reqNat r 3 = 0 →
        ((s.stream i).state ≠ .closed → exec .openStream s = .next (s.answered rest (reply r 7))) ∧
        ((s.stream i).state = .closed → exec .openStream s = .next ((s.setStream i
          { s.stream i with state := .opened, seq := 0, frameCounter := 0, openTx := false }).answered rest (reply r 0)))) ∧
      (reqNat r 3 = 1 →
        let empty := (s.stream i).queue = [] ∧ (s.stream i).inProgress = false
        ((s.stream i).state = .closed → exec .closeStream s = .next (s.answered rest (reply r 7))) ∧
        ((s.stream i).state = .draining → exec .closeStream s = .next (s.answered rest (reply r 0))) ∧
        ((s.stream i).state = .opened → ¬ empty →
          exec .closeStream s = .next ((s.setStream i { s.stream i with state := .draining }).answered rest (reply r 0))) ∧
        ((s.stream i).state = .opened → empty → ∃ u : State, exec .closeStream s = .next (u.placed (reply r 0)) ∧
          Raised [.cbmStreamClosed] (s.popped rest) u ∧
          u.withReportsOf (s.popped rest) = (s.popped rest).setStream i { s.stream i with state := .closed }))

/-- FLUSH of an OPEN or DRAINING stream (R58, R82, R99, R107): the frame in progress ends without a record, its cells and the queue's return, the
reservation is released, the open frame is closed with a FLUSHED record if there is room, and a DRAINING stream left empty closes. FLUSH of a
CLOSED stream is answered STATE. RECORD_LOST is set only by the loss of the FLUSHED record, STREAM_CLOSED only where the stream closes. `holder` is
the port and context of the frame in progress. That an event cell stands before the response is the model's choice (log 9). -/
def Obligations.FlushedStream : Prop :=
  ∀ (s : State) (r : Request) (rest : List Request) (i : StreamIx) (holder : Option (PortIx × FrameCtx)), s.offers r rest →
    reqOp r = 6 → reqNat r 2 = i.val → reqNat r 3 = 2 →
    ((s.stream i).state = .closed → exec .flushStream s = .next (s.answered rest (reply r 7))) ∧
    ((s.stream i).state ≠ .closed →
    ((s.stream i).inProgress = true ∧
        (∃ p f, holder = some (p, f) ∧ (s.port p).frame = some f ∧ f.stream = i ∧
          ∀ q g, q ≠ p → (s.port q).frame = some g → g.stream ≠ i) ∨
      (s.stream i).inProgress = false ∧ holder = none) →
    let held : List Nat := ((holder.bind (fun x => x.2.assembly)).map Assembly.index).toList
    let back := freeCells s.cbm.free ++ (s.stream i).queue.map QCell.index ++ held
    let left := s.cbm.reserved - ((holder.map (fun x => x.2.remaining)).getD 0)
    let lost := ((s.stream i).queue.filter (fun c => !c.kind.isData)).length
    let opens := (s.stream i).openTx = true
    let base : Stream :=
      { s.stream i with
        queue := [], inProgress := false, framesHeld := 0, openTx := false
        recordsLost := (s.stream i).recordsLost + BitVec.ofNat 32 lost
        state := if (s.stream i).state = .draining then .closed else (s.stream i).state }
    ∃ u : State, exec .flushStream s = .next (u.placed (reply r 0)) ∧ u.mge.requests = rest ∧ u.cbm.reserved = left ∧
      (∀ j, j ≠ i → u.stream j = s.stream j) ∧
      (∀ p, u.port p = if holder.map Prod.fst = some p then { s.port p with frame := none, state := .discarding } else s.port p) ∧
      u.bpt = s.bpt ∧ u.trq = s.trq ∧ u.xcr = s.xcr ∧ u.flk = s.flk ∧ u.scd = s.scd ∧ u.ccr = s.ccr ∧ u.lvc = s.lvc ∧
      u.evu.has .cbmFlushDone = true ∧
      (∀ f : Factor, f ≠ .cbmFlushDone → u.evu.has f = (s.evu.has f ||
        decide (f = .cbmRecordLost ∧ opens ∧ back.length ≤ left) ||
        decide (f = .cbmStreamClosed ∧ (s.stream i).state = .draining ∧ (¬ opens ∨ back.length ≤ left)) ||
        decide (f = .cbmWrap ∧ 4294967296 ≤ (s.stream i).recordsLost.toNat + lost + if opens ∧ back.length ≤ left then 1 else 0))) ∧
      (¬ opens → freeCells u.cbm.free = back ∧ u.cbm.mem = s.cbm.mem ∧ u.stream i = base) ∧
      (opens → back.length ≤ left →
        freeCells u.cbm.free = back ∧ u.cbm.mem = s.cbm.mem ∧ u.stream i = { base with recordsLost := base.recordsLost + 1 } ∧
        u.evu.has .cbmRecordLost = true) ∧
      (∀ k free, opens → left < back.length → back = k :: free →
        freeCells u.cbm.free = free ∧
        u.cbm.mem = writePayload s.cbm.mem k
          ([0x02, BitVec.ofNat 8 (s.stream i).boundPort.val] ++ List.replicate 7 0xFF ++ [0, 0, (s.stream i).openTxNo] ++
            List.replicate 11 0xFF ++ be 6 s.bpt.lineTime.toNat ++ be 6 s.bpt.lineTime.toNat ++ List.replicate 14 0) ∧
        u.stream i = { base with
          queue := [{ index := k, kind := .capture, len := 49, frameNo := (s.stream i).openTxNo, closing := true }]
          framesHeld := 1, openTx := true, state := (s.stream i).state }))

/-- PORT_CMD (R42, R57, R59, R60, R74, R158): the checks; ENABLE; and DISABLE, which aborts a frame in progress and then closes each exposure of the
list with a missing record of cause 6, PORT_OFF, oldest first. An action above 1 may be answered by either row (log 6). That an event cell that
DISABLE makes stands before its response is the model's choice (log 9). -/
def Obligations.PortsEnabledAndDisabled : Prop :=
  ∀ (s : State) (r : Request) (rest : List Request), s.offers r rest → reqOp r = 7 →
    (∀ a c, (a, c) ∈ [(0, Instr.enablePort), (1, .disablePort)] →
      (6 ≤ reqNat r 2 → (reqNat r 3 = a ∨ 2 ≤ reqNat r 3) → exec c s = .next (s.answered rest (reply r 5))) ∧
      (reqNat r 2 < 6 → 2 ≤ reqNat r 3 → exec c s = .next (s.answered rest (reply r 6)))) ∧
    ∀ p : PortIx, reqNat r 2 = p.val →
      (reqNat r 3 = 0 →
        ((s.port p).enabled = true → exec .enablePort s = .next (s.answered rest (reply r 0))) ∧
        ((s.port p).enabled = false → exec .enablePort s = .next (
          ((s.setPort p
            { s.port p with
              enabled := true
              state :=
                if (s.lvc.level = .standby ∨ s.lvc.level = .run ∨ s.lvc.level = .emptying ∨ s.lvc.level = .shutting) ∧
                  (s.port p).state = .off then .idle else (s.port p).state }).setStage p { s.stage p with count := 0 }).answered rest (reply r 0)))) ∧
      (reqNat r 3 = 1 →
        ((s.port p).enabled = false → exec .disablePort s = .next (s.answered rest (reply r 0))) ∧
        ((s.port p).enabled = true → ((s.port p).frame.isSome = true ↔ (s.port p).state = .inFrame) →
          ∃ u : State, exec .disablePort s = .next (u.placed (reply r 0)) ∧ u.mge.requests = rest ∧
            u.exposures p = [] ∧ (∀ q, q ≠ p → u.exposures q = s.exposures q) ∧
            u.stage p = { s.stage p with pulse := 0, gap := 0, out := (s.port p).polarity == .activeLow } ∧
            (∀ q, q ≠ p → u.stage q = s.stage q) ∧
            u.port p = { s.port p with
              enabled := false, state := .off, frame := none
              missing := (s.port p).missing + BitVec.ofNat 32 (s.exposures p).length } ∧
            (∀ q, q ≠ p → u.port q = s.port q) ∧ u.bpt = s.bpt ∧ u.lvc = s.lvc ∧ u.ccr = s.ccr ∧
            (∀ x, (s.port p).state ≠ .inFrame → s.exposures p = [x] →
              RecordWent x.stream .missing (exposureMissing p x 6 s.bpt.lineTime) (s.stream x.stream).frameCounter false s u) ∧
            (let v := handMissing (listMissing p (s.exposures p) 6 s.bpt.lineTime) (frameAborted p s);
              u.cbm = v.cbm ∧ ∀ f : Factor, f ≠ .camWrap p → u.evu.has f = v.evu.has f)))

/-- A FRAME_START at a port that has not ended its frame (R52): a framing error, and then the word acts as at an IDLE port. A discard just ends. A
frame in progress is aborted (R57, R78, R81, R98, R119): its partial cell and its ABORTED capture record join the queue, and the reservation returns.
Where the record is lost and nothing of a DRAINING stream is queued, the stream becomes CLOSED (R100, R106). -/
def Obligations.FrameStartAborts : Prop :=
  ∀ (s : State) (p : PortIx) (parity : Bool) (v : BitVec 16), parityGood parity 1 v = true →
    let framing : List Factor := .camFraming p :: wrapsAt (s.port p).framingErrors (.camWrap p)
    let begun : Port := { s.port p with state := .idle, framingErrors := (s.port p).framingErrors + 1 }
    ((s.port p).state = .discarding →
      ∃ u t, exec (.frameStart p parity v) u = .next t ∧ exec (.frameStart p parity v) s = .next t ∧
        Raised framing s u ∧ u.withReportsOf s = s.setPort p begun) ∧
    (∀ (f : FrameCtx) (k : Nat) (rest : List Nat), (s.port p).state = .inFrame → (s.port p).frame = some f →
      (s.stream f.stream).state ≠ .closed → s.cbm.reserved - f.remaining < s.freeCount → freeCells s.cbm.free = k :: rest →
      let i := f.stream
      ∃ u t, exec (.frameStart p parity v) u = .next t ∧ exec (.frameStart p parity v) s = .next t ∧
        Raised framing s u ∧ freeCells u.cbm.free = rest ∧
        u.withReportsOf s =
          ((((s.setFree u.cbm.free).setMem (writePayload s.cbm.mem k (abortedBytes p f s.bpt.lineTime))).setReserved
            (s.cbm.reserved - f.remaining)).setStream i
            { s.stream i with
              queue := (s.stream i).queue ++ f.lastCell ++
                [{ index := k, kind := .capture, len := 49, frameNo := f.frameNo, closing := true }]
              inProgress := false }).setPort p { begun with frame := none }) ∧
    (∀ f : FrameCtx, (s.port p).state = .inFrame → (s.port p).frame = some f → (s.stream f.stream).state = .draining →
      (s.stream f.stream).queue = [] → f.assembly = none → s.freeCount ≤ s.cbm.reserved - f.remaining →
      let i := f.stream
      ∃ u t, exec (.frameStart p parity v) u = .next t ∧ exec (.frameStart p parity v) s = .next t ∧
        Raised (framing ++ [.cbmRecordLost, .cbmStreamClosed] ++ wrapsAt (s.stream i).recordsLost .cbmWrap) s u ∧
        u.withReportsOf s =
          ((s.setReserved (s.cbm.reserved - f.remaining)).setStream i
            { s.stream i with
              state := .closed, inProgress := false, framesHeld := (s.stream i).framesHeld - 1
              recordsLost := (s.stream i).recordsLost + 1
              openTx := (s.stream i).openTx && decide ((s.stream i).openTxNo ≠ f.frameNo) }).setPort p { begun with frame := none })

/-! ### LVC, BPT and CCR on request -/

/-- SET_LEVEL (R41, R158, R182, R192, R193): BUSY in a transition, the target checked, a target equal to the level reported at once, and the
transitions from each settled level; leaving RUN closes every queued trigger with a missing record of cause 7, LEVEL_DOWN, from head to tail. That
the disabled ports of a broadcast not yet come to receive ABORTED is the model's reading (`RelayShut`, log 20), and that an event cell stands
before the response its choice (log 9). -/
def Obligations.SetLevelRequest : Prop :=
  ∀ (s : State) (r : Request) (rest : List Request), s.offers r rest → reqOp r = 9 →
    let target := reqNat r 2
    let codes : List (Nat × Level) := [(0, .listen), (1, .standby), (2, .run)]
    let reaches (x : Level) : Prop := ∃ u : State, exec .setLevel s = .next (u.placed (reply r 0)) ∧
      Raised [.ctlLevelReached] (s.popped rest) u ∧
      u.withReportsOf (s.popped rest) =
        { s.popped rest with lvc :=
          if x = s.lvc.level then s.lvc else { s.lvc with level := x, target := none, settle := none, drain := none } }
    (s.lvc.level ∈ [.powering, .emptying, .shutting] → exec .setLevel s = .next (s.answered rest (reply r 2))) ∧
    (s.lvc.level ∈ [.listen, .standby, .run] → 3 ≤ target → exec .setLevel s = .next (s.answered rest (reply r 6))) ∧
    ((target, s.lvc.level) ∈ codes → reaches s.lvc.level) ∧
    (∀ x, s.lvc.level = .listen → (target, x) ∈ codes → x ≠ .listen →
      exec .setLevel s = .next ({ s with lvc := { s.lvc with
        level := .powering, target := some x, power := true
        settle := some (s.bpt.lineTime + BitVec.ofNat 48 (s.lvc.powerSettle.toNat * 100000)) } }.answered rest (reply r 0))) ∧
    (s.lvc.level = .standby → target = 2 → reaches .run) ∧
    (s.lvc.level = .standby → target = 0 → ∃ u : State, exec .setLevel s = .next (u.placed (reply r 0)) ∧ RelayShut s u ∧
      u = { s.popped rest with
        lvc := { s.lvc with level := .shutting, target := some .listen, settle := none, drain := none }, ccr := u.ccr }) ∧
    (∀ x, s.lvc.level = .run → (target, x) ∈ codes → x ≠ .run →
      ∃ u : State, exec .setLevel s = .next (u.placed (reply r 0)) ∧ u.mge.requests = rest ∧
        u.lvc = { s.lvc with
          level := .emptying, target := some x
          drain := some (s.bpt.lineTime + BitVec.ofNat 48 (s.lvc.drainLimit.toNat * 100000)) } ∧
        u.trq = { s.trq with queue := [], triggersFailed := s.trq.triggersFailed + BitVec.ofNat 32 s.trq.queue.length } ∧
        (∀ p, u.port p = { s.port p with
          missing := (s.port p).missing + BitVec.ofNat 32 (s.trq.queue.filter (fun e => e.port == p)).length }) ∧
        u.xcr = s.xcr ∧ u.bpt = s.bpt ∧ u.flk = s.flk ∧ u.scd = s.scd ∧ u.ccr = s.ccr ∧
        (∀ e, s.trq.queue = [e] →
          let i := if (s.stream e.stream).boundPort = e.port then e.stream else (s.port e.port).defaultStream
          RecordWent i .missing
            ([0, BitVec.ofNat 8 e.port.val, BitVec.ofNat 8 e.plan.val, e.tag] ++ be 4 e.part.toNat ++ [0xFF, 7] ++ be 5 e.due.toNat ++
              be 6 s.bpt.lineTime.toNat) (s.stream i).frameCounter false s u) ∧
        u.cbm = (handMissing (s.trq.queue.map (fun e =>
          (if (s.stream e.stream).boundPort = e.port then e.stream else (s.port e.port).defaultStream,
            triggerMissing e 7 s.bpt.lineTime))) s).cbm)

/-- BELT_PRESET (R17, R26), RELAY (R161, R167) and SOFT_RESET (R163). The queue of triggers is empty wherever a preset is taken
(`TriggerLaw`). That the event cell of a preset stands before its response is the model's choice (log 9). -/
def Obligations.PresetRelayAndSoftReset : Prop :=
  ∀ (s : State) (r : Request) (rest : List Request), s.offers r rest →
    (reqOp r = 10 →
      (s.lvc.level ≠ .listen → s.lvc.level ≠ .standby → exec .beltPreset s = .next (s.answered rest (reply r 7))) ∧
      ((s.lvc.level = .listen ∨ s.lvc.level = .standby) → TriggerLaw s →
        ∃ u : State, exec .beltPreset s = .next (u.placed (reply r 0)) ∧ Raised [.bptPreset] (s.popped rest) u ∧
          u.withReportsOf (s.popped rest) = { s.popped rest with
            bpt := { s.bpt with
              p := BitVec.ofNat 32 (ofBe ((r.drop 6).take 4)), fraction := 0, intervalValid := false, lastDir := .none
              interval := 16777215 }
            trq := { s.trq with sensors := s.trq.sensors.map (fun x => { x with lastReg := none }) } })) ∧
    (reqOp r = 11 →
      let accepted := s.lvc.level = .standby ∨ s.lvc.level = .run ∨ s.lvc.level = .emptying
      let good := reqNat r 3 ≤ 127 ∧ reqNat r 4 ≤ 16 ∧ reqNat r 5 ≤ 16 ∧ reqNat r 6 ≤ 1 ∧ (reqNat r 2 = 6 → reqNat r 5 = 0)
      (7 ≤ reqNat r 2 → exec .relay s = .next (s.answered rest (reply r 5))) ∧
      (reqNat r 2 < 7 → ¬ accepted → exec .relay s = .next (s.answered rest (reply r 7))) ∧
      (reqNat r 2 < 7 → accepted → 4 ≤ s.ccr.queue.length → exec .relay s = .next (s.answered rest (reply r 2))) ∧
      (reqNat r 2 < 7 → accepted → s.ccr.queue.length < 4 → ¬ good → exec .relay s = .next (s.answered rest (reply r 6))) ∧
      (∀ port : RelayPort, ((∃ p : PortIx, port = .one p ∧ reqNat r 2 = p.val) ∨ port = .all ∧ reqNat r 2 = 6) →
        accepted → s.ccr.queue.length < 4 → good →
        let request : RelayReq :=
          { tag := byteAt r 0, port, addr := BitVec.ofNat 7 (reqNat r 3), bytes := (r.drop 7).take (reqNat r 4)
            readCount := reqNat r 5, deferred := reqNat r 6 == 1, aborted := false }
        exec .relay s = .next ({ s with ccr := { s.ccr with queue := s.ccr.queue ++ [request] } }.answered rest (reply r 1)))) ∧
    (reqOp r = 13 → exec .softReset s = .next ({ s with mge := { s.mge with
        requests := rest, resetPending := true, output := s.mge.output ++ [OutCell.response true (reply r 0)] } } : State))

/-! ### CCR -/

/-- The engine's take (R168, R170, R181) and the delivery of a result (R123, R151, R180). -/
def Obligations.RelayTakenAndReported : Prop :=
  (∀ (s : State) (r : RelayReq) (rest : List RelayReq), s.ccr.engine = none → s.ccr.queue = r :: rest →
    let start (p : PortIx) : RelayPhase := if r.deferred && !s.quiet p then .deferring else .lineCheck
    ∃ x : Txn, exec .relayEngineTake s = .next { s with ccr := { s.ccr with queue := rest, engine := some x } } ∧
      x.req = r ∧ x.timing = s.ccr.timing ∧ x.abortRest = false ∧
      (r.aborted = true → x.phase = .report ∧ x.resultData = if r.port = .all then List.replicate 6 7 else [7, 0, 0]) ∧
      (∀ p, r.aborted = false → r.port = .one p → x.port = p ∧ x.phase = start p ∧ x.freeTicks = 0 ∧
        x.deadline = s.bpt.lineTime + BitVec.ofNat 48 (s.ccr.timing.deferLimit.toNat * 100000)) ∧
      (∀ p, r.aborted = false → r.port = .all → (s.port p).enabled = true → (∀ q, q < p → (s.port q).enabled = false) →
        x.port = p ∧ x.phase = start p ∧ x.freeTicks = 0 ∧ x.outcomes = List.replicate p.val .notAttempted ∧
        x.deadline = s.bpt.lineTime + BitVec.ofNat 48 (s.ccr.timing.deferLimit.toNat * 100000)) ∧
      (r.aborted = false → r.port = .all → (∀ q, (s.port q).enabled = false) →
        x.phase = .report ∧ x.resultData = List.replicate 6 8)) ∧
  (∀ (s : State) (x : Txn), s.ccr.engine = some x → x.phase = .report → s.responses < 15 →
    ∃ data : List Byte, exec .relayResult s = .next
        ((s.setOutput (s.mge.output ++ [.response false ([x.req.tag, 0, 14] ++ data)])).setEngine none) ∧
      (x.req.port = .all → data = x.outcomes.map RelayResult.code) ∧
      ∀ p, x.req.port = .one p →
        (x.result = .done → data = [0, 0, BitVec.ofNat 8 x.rxBytes.length] ++ x.rxBytes) ∧
        ∀ y ∈ [(RelayResult.addrNack, [1, 0, 0]), (.stallTimeout .start, [3, 1, 0]), (.stallTimeout .address, [3, 2, 0]),
            (.stallTimeout .write, [3, 3, 0]), (.stallTimeout .restart, [3, 4, 0]), (.stallTimeout .read, [3, 5, 0]),
            (.stallTimeout .stop, [3, 6, 0]), (.lineBusy, [4, 0, 0]), (.lineFault, [5, 0, 0]), (.deferTimeout, [6, 0, 0]),
            (.aborted, [7, 0, 0])] ++ (List.range 16).map (fun n => (RelayResult.dataNack n, [2, BitVec.ofNat 8 n, 0])),
          x.result = y.1 → data = y.2)

/-- The opening of a transaction, tick by tick (R170-R172, R178): deferral, line check, START, and the clock held low. STALL_TIMEOUT and
DEFER_TIMEOUT are the two timeouts taken by themselves (log 3). That the ports of a broadcast not yet come to at SHUTTING receive ABORTED, disabled
or not, is the model's reading (`TxnEnds`, log 20), and so are that a tick drives or releases before it samples (log 15) and that a clock held right
after an acknowledge bit is held in the phase then begun (log 27). -/
def Obligations.RelayOpensLine : Prop :=
  ∀ (s : State) (x : Txn), s.ccr.engine = some x →
    (x.phase = .deferring → ∀ clk dat,
      (s.quiet x.port = true → ∃ y : Txn, exec (.relayTick clk dat) s = .next (s.setEngine (some y)) ∧
        y.phase = .lineCheck ∧ y.freeTicks = 0 ∧ y.req = x.req ∧ y.port = x.port) ∧
      (s.quiet x.port = false → reached s.bpt.lineTime x.deadline = true → ∀ c ∈ [Instr.relayTick clk dat, .deferTimeout],
        ∃ t, exec c s = .next t ∧ TxnEnds x .deferTimeout s t) ∧
      (s.quiet x.port = false → reached s.bpt.lineTime x.deadline = false → exec (.relayTick clk dat) s = .next s)) ∧
    (x.phase = .lineCheck →
      (x.freeTicks + 1 < x.timing.busFreeWait.toNat →
        exec (.relayTick true true) s = .next (s.setEngine (some { x with freeTicks := x.freeTicks + 1 }))) ∧
      (x.timing.busFreeWait.toNat ≤ x.freeTicks + 1 → ∃ y : Txn, exec (.relayTick true true) s = .next (s.setEngine (some y)) ∧
        y.phase = .start ∧ y.highTicks = 0 ∧ y.holdCount = 0 ∧ y.req = x.req ∧ y.port = x.port) ∧
      (∀ clk dat, ¬ (clk = true ∧ dat = true) → ∃ t, exec (.relayTick clk dat) s = .next t ∧ TxnEnds x .lineBusy s t)) ∧
    (x.phase = .start → ∀ dat, ∃ y : Txn,
      exec (.relayTick true dat) s = .next ((s.setWires x.port { clkLow := false, datLow := true }).setEngine (some y)) ∧
      y.req = x.req ∧ y.port = x.port ∧
      (x.highTicks + 1 < x.timing.highLen + 1 → y = { x with highTicks := x.highTicks + 1, holdCount := 0 }) ∧
      (x.timing.highLen + 1 ≤ x.highTicks + 1 → y.phase = .address ∧ y.bitIx = 0 ∧ y.lowTicks = 0 ∧ y.highTicks = 0)) ∧
    (∀ ph : StallPhase, x.phase.stall = some ph → (x.phase = .start ∨ x.timing.lowLen < x.lowTicks) → ∀ dat,
      (x.holdCount + 1 < x.timing.stallLimit.toNat → ∃ w : Wires, w.clkLow = false ∧
        exec (.relayTick false dat) s = .next ((s.setWires x.port w).setEngine (some { x with holdCount := x.holdCount + 1 }))) ∧
      (x.timing.stallLimit.toNat ≤ x.holdCount + 1 → ∀ c ∈ [Instr.relayTick false dat, .stallTimeout],
        ∃ t, exec c s = .next t ∧
          TxnEnds x (if ph = .stop ∧ x.result ≠ .done then x.result else .stallTimeout ph) s t))

/-- A bit of ADDRESS, WRITE or READ whose clock the camera does not hold (R169, R173, R174, R176, R179): it lasts (LowLen + 1) + (HighLen + 1)
ticks, with the data wire driven as the bit asks, and what the data wire `dat` shows at its end leads on. That a tick drives before it samples is
the model's reading (log 15), and so is that READ, WRITE or STOP is entered at the acknowledge sample of the address byte (log 27). -/
def Obligations.RelayBit : Prop :=
  ∀ (s : State) (x : Txn) (dat : Bool), s.ccr.engine = some x → x.phase ∈ [.address, .write, .read] → x.lowTicks = 0 →
    x.highTicks = 0 → x.holdCount = 0 → x.bitIx ≤ 8 →
    let reads : Bool := x.second || (decide (x.req.port ≠ .all) && x.req.bytes.isEmpty && decide (0 < x.req.readCount))
    let byte : Byte :=
      if x.phase = .address then (if x.req.port = .all then 0 else x.req.addr ++ BitVec.ofBool reads) else x.req.bytes.getD x.byteIx 0
    let one : Bool := byte.getLsbD (7 - x.bitIx)
    let last : Bool := x.byteIx + 1 == x.req.readCount
    let datLow : Bool := if x.phase = .read then x.bitIx == 8 && !last else decide (x.bitIx < 8) && !one
    ∃ y : Txn,
      runs (List.replicate (x.timing.lowLen + 1 + (x.timing.highLen + 1)) (.relayTick true dat)) s =
        .next ((s.setWires x.port { clkLow := false, datLow }).setEngine (some y)) ∧
      y.req = x.req ∧ y.port = x.port ∧ y.timing = x.timing ∧ y.lowTicks = 0 ∧ y.highTicks = 0 ∧
      (x.bitIx < 8 → x.phase ≠ .read →
        if one = true ∧ dat = false then y.phase = .stop ∧ y.result = .lineFault
        else y.phase = x.phase ∧ y.bitIx = x.bitIx + 1 ∧ y.byteIx = x.byteIx ∧ y.second = x.second) ∧
      (x.bitIx = 8 → x.phase = .address →
        if dat = true then y.phase = .stop ∧ y.result = .addrNack
        else if reads = true then y.phase = .read ∧ y.byteIx = 0 ∧ y.bitIx = 0 ∧ y.rxBytes = []
        else if x.req.bytes = [] then y.phase = .stop ∧ y.result = .done
        else y.phase = .write ∧ y.byteIx = 0 ∧ y.bitIx = 0) ∧
      (x.bitIx = 8 → x.phase = .write →
        if dat = true then y.phase = .stop ∧ y.result = .dataNack x.byteIx
        else if x.byteIx + 1 < x.req.bytes.length then y.phase = .write ∧ y.byteIx = x.byteIx + 1 ∧ y.bitIx = 0
        else if 0 < x.req.readCount then y.phase = .restart
        else y.phase = .stop ∧ y.result = .done) ∧
      (x.bitIx < 8 → x.phase = .read →
        y.phase = .read ∧ y.bitIx = x.bitIx + 1 ∧ y.byteIx = x.byteIx ∧ y.rxBits = x.rxBits ++ [dat] ∧ y.rxBytes = x.rxBytes) ∧
      (x.bitIx = 8 → x.phase = .read →
        y.rxBytes = x.rxBytes ++ [byteOfBits x.rxBits] ∧
        if last = true then y.phase = .stop ∧ y.result = .done else y.phase = .read ∧ y.byteIx = x.byteIx + 1 ∧ y.bitIx = 0)

/-- RESTART and STOP whose clock the camera does not hold (R175, R177, R179): the ticks that they take, the fault check of RESTART, and the
released line with the recorded result at the end of STOP. That a tick drives before it samples, and so at which tick the wires stand as given, is the
model's reading (log 15), and so is ABORTED for the disabled ports of a broadcast not yet come to (`TxnEnds`, log 20). -/
def Obligations.RelayRestartsAndStops : Prop :=
  ∀ (s : State) (x : Txn) (dat : Bool), s.ccr.engine = some x → x.lowTicks = 0 → x.highTicks = 0 → x.holdCount = 0 →
    let low := x.timing.lowLen + 1
    let high := x.timing.highLen + 1
    (x.phase = .restart → x.holdStep = false → dat = true → ∃ y : Txn,
      runs (List.replicate (low + high + high) (.relayTick true dat)) s =
        .next ((s.setWires x.port { clkLow := false, datLow := true }).setEngine (some y)) ∧
      y.phase = .address ∧ y.second = true ∧ y.bitIx = 0 ∧ y.lowTicks = 0 ∧ y.highTicks = 0 ∧ y.req = x.req ∧ y.port = x.port) ∧
    (x.phase = .restart → x.holdStep = false → dat = false → ∃ y : Txn,
      runs (List.replicate (low + high) (.relayTick true dat)) s =
        .next ((s.setWires x.port { clkLow := false, datLow := false }).setEngine (some y)) ∧
      y.phase = .stop ∧ y.result = .lineFault ∧ y.lowTicks = 0 ∧ y.highTicks = 0 ∧ y.req = x.req ∧ y.port = x.port) ∧
    (x.phase = .stop → ∃ u t,
      runs (List.replicate (low + x.timing.highLen) (.relayTick true dat)) s = .next u ∧
      u.wiresOf x.port = { clkLow := decide (x.timing.highLen = 0), datLow := true } ∧
      runs (List.replicate (low + high) (.relayTick true dat)) s = .next t ∧ TxnEnds x x.result s t)

/-! ### LVC -/

/-- The ends of the transitions (R48, R57, R75, R192, R194-R196): power settled; the drain complete, or forced at its limit, where each port's frame
is aborted and each exposure of its list closed with a missing record of cause 7, LEVEL_DOWN; and SHUTTING ended once no control line is in use,
where a frame in progress is aborted. The ports take their part in any order, an operand (log 8). That the disabled ports of a broadcast not yet
come to receive ABORTED is the model's reading (`RelayShut`, log 20). -/
def Obligations.TransitionsEnd : Prop :=
  (∀ (s : State) (x : Level) (d : LineTime), s.lvc.level = .powering → s.lvc.target = some x → s.lvc.settle = some d →
    reached s.bpt.lineTime d = true →
    ∃ t, exec .settleExpiry s = .next t ∧ Raised [.ctlLevelReached] s t ∧
      t.withReportsOf s = { s with cpr := t.cpr, lvc := { s.lvc with level := x, target := none, settle := none } } ∧
      ∀ p, t.port p = if (s.port p).enabled = true ∧ (s.port p).state = .off then { s.port p with state := .idle } else s.port p) ∧
  (∀ s : State, s.lvc.level = .emptying → (∀ p, s.exposures p = [] ∧ (s.port p).state ≠ .inFrame) →
    (s.lvc.target = some .standby → ∃ t, exec .drainComplete s = .next t ∧ Raised [.ctlLevelReached] s t ∧
      t.withReportsOf s = { s with lvc := { s.lvc with level := .standby, target := none, settle := none, drain := none } }) ∧
    (s.lvc.target = some .listen → ∃ t, exec .drainComplete s = .next t ∧ RelayShut s t ∧
      t = { s with
        lvc := { s.lvc with level := .shutting, target := some .listen, settle := none, drain := none }, ccr := t.ccr })) ∧
  (∀ (s : State) (order : List PortIx) (d : LineTime), s.lvc.level = .emptying → s.lvc.drain = some d →
    reached s.bpt.lineTime d = true → (∃ p, s.exposures p ≠ [] ∨ (s.port p).state = .inFrame) → FramesMatch s →
    ∃ t, exec (.drainExpiry order) s = .next t ∧ t.bpt = s.bpt ∧ t.trq = s.trq ∧ t.flk = s.flk ∧ t.scd = s.scd ∧
      t.evu.has .ctlLevelForced = true ∧
      (∀ p, t.exposures p = [] ∧
        t.port p = { s.port p with
          state := if (s.port p).state = .inFrame then .discarding else (s.port p).state
          frame := none, missing := (s.port p).missing + BitVec.ofNat 32 (s.exposures p).length }) ∧
      (s.lvc.target = some .standby → t.evu.has .ctlLevelReached = true ∧ t.ccr = s.ccr ∧
        t.lvc = { s.lvc with level := .standby, target := none, settle := none, drain := none }) ∧
      (s.lvc.target = some .listen → RelayShut s t ∧
        t.lvc = { s.lvc with level := .shutting, target := some .listen, settle := none, drain := none }) ∧
      (order.Perm (List.finRange 6) →
        let v := order.foldl
          (fun u p => handMissing (listMissing p (s.exposures p) 7 s.bpt.lineTime) (frameAborted p u)) s
        t.cbm = v.cbm ∧
        ∀ f : Factor, (∀ p, f ≠ .camWrap p) → t.evu.has f =
          (v.evu.has f || decide (f = .ctlLevelForced) || decide (f = .ctlLevelReached ∧ s.lvc.target ≠ some .listen)))) ∧
  (∀ (s : State) (order : List PortIx), s.lvc.level = .shutting →
    (∀ x, s.ccr.engine = some x → x.phase = .report) → FramesMatch s →
    ∃ t, exec (.shuttingEnd order) s = .next t ∧ t.xcr = s.xcr ∧ t.ccr = s.ccr ∧ t.flk = s.flk ∧ t.scd = s.scd ∧
      t.lvc = { s.lvc with level := .listen, target := none, settle := none, drain := none, power := false } ∧
      t.bpt = { s.bpt with intervalValid := false, lastDir := .none, interval := 16777215 } ∧
      t.trq = { s.trq with stages := t.trq.stages } ∧
      (∀ p, t.stage p = { s.stage p with pulse := 0, gap := 0, out := (s.port p).polarity == .activeLow }) ∧
      (∀ p, t.port p = { s.port p with state := .off, frame := none }) ∧ t.evu.has .ctlLevelReached = true ∧
      ((∀ p, (s.port p).state ≠ .inFrame) → t.cbm = s.cbm ∧ Raised [.ctlLevelReached] s t) ∧
      (order.Perm (List.finRange 6) →
        let v := order.foldl (fun u p => frameAborted p u) s
        t.cbm = v.cbm ∧ ∀ f : Factor, t.evu.has f = (v.evu.has f || decide (f = .ctlLevelReached))))

/-! ### The laws of the part, kept by every step -/

/-- Each buffer cell stays in exactly one of its four places (R88), with a frame context just at the ports that are IN_FRAME (R50). -/
def Obligations.BufferCellsInOnePlace : Prop :=
  ∀ s t : State, BufferLaw s → step s = .next t → BufferLaw t

/-- The reserved total stays the sum of the remaining reservations and never exceeds the free count (R90). -/
def Obligations.ReservedWithinFree : Prop :=
  ∀ s t : State, ReservedLaw s → step s = .next t → ReservedLaw t

/-- A frame stays on a stream bound to its port, the frame-in-progress flags stay true of the ports, and a CLOSED stream stays empty (R95, R103,
R106). -/
def Obligations.StreamsKept : Prop :=
  ∀ s t : State, StreamLaw s → step s = .next t → StreamLaw t

/-- A port is live only while it is enabled and the level allows it, and the level's target, timers and power agree with it (R47, R192). -/
def Obligations.PortsAndLevelsKept : Prop :=
  ∀ s t : State, PortLaw s → step s = .next t → PortLaw t

/-- The active calendar always holds a MGMT slot, and so does a shadow calendar that waits for a swap (R144). -/
def Obligations.CalendarKept : Prop :=
  ∀ s t : State, CalendarLaw s → step s = .next t → CalendarLaw t

/-- The part drives at most one control line: that of the transaction on the line (R168, R169). -/
def Obligations.OneLineDriven : Prop :=
  ∀ s t : State, RelayLaw s → step s = .next t →
    RelayLaw t ∧ ∀ p q, t.wiresOf p ≠ .released → t.wiresOf q ≠ .released → p = q

/-- The queues, lists, event cell, link timers and the DRAM's canonical form stay within their laws (R31, R33, R41, R65, R88, R126-R130, R144,
R148, R150, R167, R186, R187). The form of the DRAM is the model's (log 11), and so is the clause of LinkLaw about the bit expiryDue: an expiry is
due only at a remaining count of 1 (log 25). -/
def Obligations.QueuesWithinBounds : Prop :=
  ∀ s t : State, step s = .next t →
    (TriggerLaw s → TriggerLaw t) ∧ (ExposureLaw s → ExposureLaw t) ∧ (QueueLaw s → QueueLaw t) ∧ (EventLaw s → EventLaw t) ∧
    (LinkLaw s → LinkLaw t) ∧ (BufferLaw s → MemoryLaw s → MemoryLaw t)

/-- Every law holds at reset. -/
def Obligations.LawsHoldAtReset : Prop :=
  BufferLaw State.reset ∧ ReservedLaw State.reset ∧ StreamLaw State.reset ∧ PortLaw State.reset ∧ CalendarLaw State.reset ∧
  RelayLaw State.reset ∧ TriggerLaw State.reset ∧ ExposureLaw State.reset ∧ QueueLaw State.reset ∧ EventLaw State.reset ∧
  LinkLaw State.reset ∧ MemoryLaw State.reset
end

