-- ==== Sys2Proof/Laws/State.lean ====
section
/-! SUPPORT. What each named write of State changes and what it leaves: one lemma per field per write. -/

namespace Sys2Proof.Machine

/-! ### setPort -/

@[simp] theorem State.setPort_bpt (s : State) (p : PortIx) (x : Port) : (s.setPort p x).bpt = s.bpt := rfl
@[simp] theorem State.setPort_trq (s : State) (p : PortIx) (x : Port) : (s.setPort p x).trq = s.trq := rfl
@[simp] theorem State.setPort_xcr (s : State) (p : PortIx) (x : Port) : (s.setPort p x).xcr = s.xcr := rfl
@[simp] theorem State.setPort_cbm (s : State) (p : PortIx) (x : Port) : (s.setPort p x).cbm = s.cbm := rfl
@[simp] theorem State.setPort_flk (s : State) (p : PortIx) (x : Port) : (s.setPort p x).flk = s.flk := rfl
@[simp] theorem State.setPort_scd (s : State) (p : PortIx) (x : Port) : (s.setPort p x).scd = s.scd := rfl
@[simp] theorem State.setPort_mge (s : State) (p : PortIx) (x : Port) : (s.setPort p x).mge = s.mge := rfl
@[simp] theorem State.setPort_ccr (s : State) (p : PortIx) (x : Port) : (s.setPort p x).ccr = s.ccr := rfl
@[simp] theorem State.setPort_evu (s : State) (p : PortIx) (x : Port) : (s.setPort p x).evu = s.evu := rfl
@[simp] theorem State.setPort_lvc (s : State) (p : PortIx) (x : Port) : (s.setPort p x).lvc = s.lvc := rfl
@[simp] theorem State.setPort_pending (s : State) (p : PortIx) (x : Port) : (s.setPort p x).pending = s.pending := rfl
@[simp] theorem State.setPort_cpr (s : State) (p : PortIx) (x : Port) : (s.setPort p x).cpr = s.cpr.set p x := rfl
@[simp] theorem State.setPort_exposures (s : State) (p : PortIx) (x : Port) (q : PortIx) : (s.setPort p x).exposures q = s.exposures q := rfl
@[simp] theorem State.setPort_stage (s : State) (p : PortIx) (x : Port) (q : PortIx) : (s.setPort p x).stage q = s.stage q := rfl
@[simp] theorem State.setPort_sensor (s : State) (p : PortIx) (x : Port) (k : SensorIx) : (s.setPort p x).sensor k = s.sensor k := rfl
@[simp] theorem State.setPort_planEntry (s : State) (p : PortIx) (x : Port) (k : PlanIx) : (s.setPort p x).planEntry k = s.planEntry k := rfl
@[simp] theorem State.setPort_stream (s : State) (p : PortIx) (x : Port) (k : StreamIx) : (s.setPort p x).stream k = s.stream k := rfl
@[simp] theorem State.setPort_wiresOf (s : State) (p : PortIx) (x : Port) (q : PortIx) : (s.setPort p x).wiresOf q = s.wiresOf q := rfl
@[simp] theorem State.setPort_finePos (s : State) (p : PortIx) (x : Port) : (s.setPort p x).finePos = s.finePos := rfl
@[simp] theorem State.setPort_lineTime (s : State) (p : PortIx) (x : Port) : (s.setPort p x).lineTime = s.lineTime := rfl
@[simp] theorem State.setPort_freeCount (s : State) (p : PortIx) (x : Port) : (s.setPort p x).freeCount = s.freeCount := rfl
@[simp] theorem State.setPort_tracking (s : State) (p : PortIx) (x : Port) : (s.setPort p x).tracking = s.tracking := rfl
@[simp] theorem State.setPort_responses (s : State) (p : PortIx) (x : Port) : (s.setPort p x).responses = s.responses := rfl
@[simp] theorem State.setPort_port_self (s : State) (p : PortIx) (x : Port) : (s.setPort p x).port p = x := by
  simp [State.port, State.setPort]
@[simp] theorem State.setPort_port_ne (s : State) (p : PortIx) (x : Port) (q : PortIx) (h : q ≠ p) : (s.setPort p x).port q = s.port q := by
  simp [State.port, State.setPort, Ne.symm (Fin.val_ne_of_ne h)]
theorem State.setPort_port (s : State) (p : PortIx) (x : Port) (q : PortIx) : (s.setPort p x).port q = if q = p then x else s.port q := by
  split
  · subst_vars; simp
  · rename_i h; simp [h]

/-! ### setExposures -/

@[simp] theorem State.setExposures_bpt (s : State) (p : PortIx) (x : List Exposure) : (s.setExposures p x).bpt = s.bpt := rfl
@[simp] theorem State.setExposures_trq (s : State) (p : PortIx) (x : List Exposure) : (s.setExposures p x).trq = s.trq := rfl
@[simp] theorem State.setExposures_cpr (s : State) (p : PortIx) (x : List Exposure) : (s.setExposures p x).cpr = s.cpr := rfl
@[simp] theorem State.setExposures_cbm (s : State) (p : PortIx) (x : List Exposure) : (s.setExposures p x).cbm = s.cbm := rfl
@[simp] theorem State.setExposures_flk (s : State) (p : PortIx) (x : List Exposure) : (s.setExposures p x).flk = s.flk := rfl
@[simp] theorem State.setExposures_scd (s : State) (p : PortIx) (x : List Exposure) : (s.setExposures p x).scd = s.scd := rfl
@[simp] theorem State.setExposures_mge (s : State) (p : PortIx) (x : List Exposure) : (s.setExposures p x).mge = s.mge := rfl
@[simp] theorem State.setExposures_ccr (s : State) (p : PortIx) (x : List Exposure) : (s.setExposures p x).ccr = s.ccr := rfl
@[simp] theorem State.setExposures_evu (s : State) (p : PortIx) (x : List Exposure) : (s.setExposures p x).evu = s.evu := rfl
@[simp] theorem State.setExposures_lvc (s : State) (p : PortIx) (x : List Exposure) : (s.setExposures p x).lvc = s.lvc := rfl
@[simp] theorem State.setExposures_pending (s : State) (p : PortIx) (x : List Exposure) : (s.setExposures p x).pending = s.pending := rfl
@[simp] theorem State.setExposures_xcr_lists (s : State) (p : PortIx) (x : List Exposure) : (s.setExposures p x).xcr.lists = s.xcr.lists.set p x := rfl
@[simp] theorem State.setExposures_port (s : State) (p : PortIx) (x : List Exposure) (q : PortIx) : (s.setExposures p x).port q = s.port q := rfl
@[simp] theorem State.setExposures_stage (s : State) (p : PortIx) (x : List Exposure) (q : PortIx) : (s.setExposures p x).stage q = s.stage q := rfl
@[simp] theorem State.setExposures_sensor (s : State) (p : PortIx) (x : List Exposure) (k : SensorIx) : (s.setExposures p x).sensor k = s.sensor k := rfl
@[simp] theorem State.setExposures_planEntry (s : State) (p : PortIx) (x : List Exposure) (k : PlanIx) : (s.setExposures p x).planEntry k = s.planEntry k := rfl
@[simp] theorem State.setExposures_stream (s : State) (p : PortIx) (x : List Exposure) (k : StreamIx) : (s.setExposures p x).stream k = s.stream k := rfl
@[simp] theorem State.setExposures_wiresOf (s : State) (p : PortIx) (x : List Exposure) (q : PortIx) : (s.setExposures p x).wiresOf q = s.wiresOf q := rfl
@[simp] theorem State.setExposures_finePos (s : State) (p : PortIx) (x : List Exposure) : (s.setExposures p x).finePos = s.finePos := rfl
@[simp] theorem State.setExposures_lineTime (s : State) (p : PortIx) (x : List Exposure) : (s.setExposures p x).lineTime = s.lineTime := rfl
@[simp] theorem State.setExposures_freeCount (s : State) (p : PortIx) (x : List Exposure) : (s.setExposures p x).freeCount = s.freeCount := rfl
@[simp] theorem State.setExposures_tracking (s : State) (p : PortIx) (x : List Exposure) : (s.setExposures p x).tracking = s.tracking := rfl
@[simp] theorem State.setExposures_responses (s : State) (p : PortIx) (x : List Exposure) : (s.setExposures p x).responses = s.responses := rfl
@[simp] theorem State.setExposures_exposures_self (s : State) (p : PortIx) (x : List Exposure) : (s.setExposures p x).exposures p = x := by
  simp [State.exposures, State.setExposures]
@[simp] theorem State.setExposures_exposures_ne (s : State) (p : PortIx) (x : List Exposure) (q : PortIx) (h : q ≠ p) : (s.setExposures p x).exposures q = s.exposures q := by
  simp [State.exposures, State.setExposures, Ne.symm (Fin.val_ne_of_ne h)]
theorem State.setExposures_exposures (s : State) (p : PortIx) (x : List Exposure) (q : PortIx) : (s.setExposures p x).exposures q = if q = p then x else s.exposures q := by
  split
  · subst_vars; simp
  · rename_i h; simp [h]

/-! ### setStage -/

@[simp] theorem State.setStage_bpt (s : State) (p : PortIx) (x : Stage) : (s.setStage p x).bpt = s.bpt := rfl
@[simp] theorem State.setStage_cpr (s : State) (p : PortIx) (x : Stage) : (s.setStage p x).cpr = s.cpr := rfl
@[simp] theorem State.setStage_xcr (s : State) (p : PortIx) (x : Stage) : (s.setStage p x).xcr = s.xcr := rfl
@[simp] theorem State.setStage_cbm (s : State) (p : PortIx) (x : Stage) : (s.setStage p x).cbm = s.cbm := rfl
@[simp] theorem State.setStage_flk (s : State) (p : PortIx) (x : Stage) : (s.setStage p x).flk = s.flk := rfl
@[simp] theorem State.setStage_scd (s : State) (p : PortIx) (x : Stage) : (s.setStage p x).scd = s.scd := rfl
@[simp] theorem State.setStage_mge (s : State) (p : PortIx) (x : Stage) : (s.setStage p x).mge = s.mge := rfl
@[simp] theorem State.setStage_ccr (s : State) (p : PortIx) (x : Stage) : (s.setStage p x).ccr = s.ccr := rfl
@[simp] theorem State.setStage_evu (s : State) (p : PortIx) (x : Stage) : (s.setStage p x).evu = s.evu := rfl
@[simp] theorem State.setStage_lvc (s : State) (p : PortIx) (x : Stage) : (s.setStage p x).lvc = s.lvc := rfl
@[simp] theorem State.setStage_pending (s : State) (p : PortIx) (x : Stage) : (s.setStage p x).pending = s.pending := rfl
@[simp] theorem State.setStage_trq_tickCode (s : State) (p : PortIx) (x : Stage) : (s.setStage p x).trq.tickCode = s.trq.tickCode := rfl
@[simp] theorem State.setStage_trq_sensors (s : State) (p : PortIx) (x : Stage) : (s.setStage p x).trq.sensors = s.trq.sensors := rfl
@[simp] theorem State.setStage_trq_plan (s : State) (p : PortIx) (x : Stage) : (s.setStage p x).trq.plan = s.trq.plan := rfl
@[simp] theorem State.setStage_trq_partCounter (s : State) (p : PortIx) (x : Stage) : (s.setStage p x).trq.partCounter = s.trq.partCounter := rfl
@[simp] theorem State.setStage_trq_queue (s : State) (p : PortIx) (x : Stage) : (s.setStage p x).trq.queue = s.trq.queue := rfl
@[simp] theorem State.setStage_trq_stages (s : State) (p : PortIx) (x : Stage) : (s.setStage p x).trq.stages = s.trq.stages.set p x := rfl
@[simp] theorem State.setStage_trq_partsRegistered (s : State) (p : PortIx) (x : Stage) : (s.setStage p x).trq.partsRegistered = s.trq.partsRegistered := rfl
@[simp] theorem State.setStage_trq_lockoutEdges (s : State) (p : PortIx) (x : Stage) : (s.setStage p x).trq.lockoutEdges = s.trq.lockoutEdges := rfl
@[simp] theorem State.setStage_trq_reverseSensorEdges (s : State) (p : PortIx) (x : Stage) : (s.setStage p x).trq.reverseSensorEdges = s.trq.reverseSensorEdges := rfl
@[simp] theorem State.setStage_trq_triggersFired (s : State) (p : PortIx) (x : Stage) : (s.setStage p x).trq.triggersFired = s.trq.triggersFired := rfl
@[simp] theorem State.setStage_trq_triggersFailed (s : State) (p : PortIx) (x : Stage) : (s.setStage p x).trq.triggersFailed = s.trq.triggersFailed := rfl
@[simp] theorem State.setStage_port (s : State) (p : PortIx) (x : Stage) (q : PortIx) : (s.setStage p x).port q = s.port q := rfl
@[simp] theorem State.setStage_exposures (s : State) (p : PortIx) (x : Stage) (q : PortIx) : (s.setStage p x).exposures q = s.exposures q := rfl
@[simp] theorem State.setStage_sensor (s : State) (p : PortIx) (x : Stage) (k : SensorIx) : (s.setStage p x).sensor k = s.sensor k := rfl
@[simp] theorem State.setStage_planEntry (s : State) (p : PortIx) (x : Stage) (k : PlanIx) : (s.setStage p x).planEntry k = s.planEntry k := rfl
@[simp] theorem State.setStage_stream (s : State) (p : PortIx) (x : Stage) (k : StreamIx) : (s.setStage p x).stream k = s.stream k := rfl
@[simp] theorem State.setStage_wiresOf (s : State) (p : PortIx) (x : Stage) (q : PortIx) : (s.setStage p x).wiresOf q = s.wiresOf q := rfl
@[simp] theorem State.setStage_finePos (s : State) (p : PortIx) (x : Stage) : (s.setStage p x).finePos = s.finePos := rfl
@[simp] theorem State.setStage_lineTime (s : State) (p : PortIx) (x : Stage) : (s.setStage p x).lineTime = s.lineTime := rfl
@[simp] theorem State.setStage_freeCount (s : State) (p : PortIx) (x : Stage) : (s.setStage p x).freeCount = s.freeCount := rfl
@[simp] theorem State.setStage_tracking (s : State) (p : PortIx) (x : Stage) : (s.setStage p x).tracking = s.tracking := rfl
@[simp] theorem State.setStage_responses (s : State) (p : PortIx) (x : Stage) : (s.setStage p x).responses = s.responses := rfl
@[simp] theorem State.setStage_stage_self (s : State) (p : PortIx) (x : Stage) : (s.setStage p x).stage p = x := by
  simp [State.stage, State.setStage]
@[simp] theorem State.setStage_stage_ne (s : State) (p : PortIx) (x : Stage) (q : PortIx) (h : q ≠ p) : (s.setStage p x).stage q = s.stage q := by
  simp [State.stage, State.setStage, Ne.symm (Fin.val_ne_of_ne h)]
theorem State.setStage_stage (s : State) (p : PortIx) (x : Stage) (q : PortIx) : (s.setStage p x).stage q = if q = p then x else s.stage q := by
  split
  · subst_vars; simp
  · rename_i h; simp [h]

/-! ### setSensor -/

@[simp] theorem State.setSensor_bpt (s : State) (n : SensorIx) (x : Sensor) : (s.setSensor n x).bpt = s.bpt := rfl
@[simp] theorem State.setSensor_cpr (s : State) (n : SensorIx) (x : Sensor) : (s.setSensor n x).cpr = s.cpr := rfl
@[simp] theorem State.setSensor_xcr (s : State) (n : SensorIx) (x : Sensor) : (s.setSensor n x).xcr = s.xcr := rfl
@[simp] theorem State.setSensor_cbm (s : State) (n : SensorIx) (x : Sensor) : (s.setSensor n x).cbm = s.cbm := rfl
@[simp] theorem State.setSensor_flk (s : State) (n : SensorIx) (x : Sensor) : (s.setSensor n x).flk = s.flk := rfl
@[simp] theorem State.setSensor_scd (s : State) (n : SensorIx) (x : Sensor) : (s.setSensor n x).scd = s.scd := rfl
@[simp] theorem State.setSensor_mge (s : State) (n : SensorIx) (x : Sensor) : (s.setSensor n x).mge = s.mge := rfl
@[simp] theorem State.setSensor_ccr (s : State) (n : SensorIx) (x : Sensor) : (s.setSensor n x).ccr = s.ccr := rfl
@[simp] theorem State.setSensor_evu (s : State) (n : SensorIx) (x : Sensor) : (s.setSensor n x).evu = s.evu := rfl
@[simp] theorem State.setSensor_lvc (s : State) (n : SensorIx) (x : Sensor) : (s.setSensor n x).lvc = s.lvc := rfl
@[simp] theorem State.setSensor_pending (s : State) (n : SensorIx) (x : Sensor) : (s.setSensor n x).pending = s.pending := rfl
@[simp] theorem State.setSensor_trq_tickCode (s : State) (n : SensorIx) (x : Sensor) : (s.setSensor n x).trq.tickCode = s.trq.tickCode := rfl
@[simp] theorem State.setSensor_trq_sensors (s : State) (n : SensorIx) (x : Sensor) : (s.setSensor n x).trq.sensors = s.trq.sensors.set n x := rfl
@[simp] theorem State.setSensor_trq_plan (s : State) (n : SensorIx) (x : Sensor) : (s.setSensor n x).trq.plan = s.trq.plan := rfl
@[simp] theorem State.setSensor_trq_partCounter (s : State) (n : SensorIx) (x : Sensor) : (s.setSensor n x).trq.partCounter = s.trq.partCounter := rfl
@[simp] theorem State.setSensor_trq_queue (s : State) (n : SensorIx) (x : Sensor) : (s.setSensor n x).trq.queue = s.trq.queue := rfl
@[simp] theorem State.setSensor_trq_stages (s : State) (n : SensorIx) (x : Sensor) : (s.setSensor n x).trq.stages = s.trq.stages := rfl
@[simp] theorem State.setSensor_trq_partsRegistered (s : State) (n : SensorIx) (x : Sensor) : (s.setSensor n x).trq.partsRegistered = s.trq.partsRegistered := rfl
@[simp] theorem State.setSensor_trq_lockoutEdges (s : State) (n : SensorIx) (x : Sensor) : (s.setSensor n x).trq.lockoutEdges = s.trq.lockoutEdges := rfl
@[simp] theorem State.setSensor_trq_reverseSensorEdges (s : State) (n : SensorIx) (x : Sensor) : (s.setSensor n x).trq.reverseSensorEdges = s.trq.reverseSensorEdges := rfl
@[simp] theorem State.setSensor_trq_triggersFired (s : State) (n : SensorIx) (x : Sensor) : (s.setSensor n x).trq.triggersFired = s.trq.triggersFired := rfl
@[simp] theorem State.setSensor_trq_triggersFailed (s : State) (n : SensorIx) (x : Sensor) : (s.setSensor n x).trq.triggersFailed = s.trq.triggersFailed := rfl
@[simp] theorem State.setSensor_port (s : State) (n : SensorIx) (x : Sensor) (q : PortIx) : (s.setSensor n x).port q = s.port q := rfl
@[simp] theorem State.setSensor_exposures (s : State) (n : SensorIx) (x : Sensor) (q : PortIx) : (s.setSensor n x).exposures q = s.exposures q := rfl
@[simp] theorem State.setSensor_stage (s : State) (n : SensorIx) (x : Sensor) (q : PortIx) : (s.setSensor n x).stage q = s.stage q := rfl
@[simp] theorem State.setSensor_planEntry (s : State) (n : SensorIx) (x : Sensor) (k : PlanIx) : (s.setSensor n x).planEntry k = s.planEntry k := rfl
@[simp] theorem State.setSensor_stream (s : State) (n : SensorIx) (x : Sensor) (k : StreamIx) : (s.setSensor n x).stream k = s.stream k := rfl
@[simp] theorem State.setSensor_wiresOf (s : State) (n : SensorIx) (x : Sensor) (q : PortIx) : (s.setSensor n x).wiresOf q = s.wiresOf q := rfl
@[simp] theorem State.setSensor_finePos (s : State) (n : SensorIx) (x : Sensor) : (s.setSensor n x).finePos = s.finePos := rfl
@[simp] theorem State.setSensor_lineTime (s : State) (n : SensorIx) (x : Sensor) : (s.setSensor n x).lineTime = s.lineTime := rfl
@[simp] theorem State.setSensor_freeCount (s : State) (n : SensorIx) (x : Sensor) : (s.setSensor n x).freeCount = s.freeCount := rfl
@[simp] theorem State.setSensor_tracking (s : State) (n : SensorIx) (x : Sensor) : (s.setSensor n x).tracking = s.tracking := rfl
@[simp] theorem State.setSensor_responses (s : State) (n : SensorIx) (x : Sensor) : (s.setSensor n x).responses = s.responses := rfl
@[simp] theorem State.setSensor_sensor_self (s : State) (n : SensorIx) (x : Sensor) : (s.setSensor n x).sensor n = x := by
  simp [State.sensor, State.setSensor]
@[simp] theorem State.setSensor_sensor_ne (s : State) (n : SensorIx) (x : Sensor) (k : SensorIx) (h : k ≠ n) : (s.setSensor n x).sensor k = s.sensor k := by
  simp [State.sensor, State.setSensor, Ne.symm (Fin.val_ne_of_ne h)]
theorem State.setSensor_sensor (s : State) (n : SensorIx) (x : Sensor) (k : SensorIx) : (s.setSensor n x).sensor k = if k = n then x else s.sensor k := by
  split
  · subst_vars; simp
  · rename_i h; simp [h]

/-! ### setPlanEntry -/

@[simp] theorem State.setPlanEntry_bpt (s : State) (i : PlanIx) (x : PlanEntry) : (s.setPlanEntry i x).bpt = s.bpt := rfl
@[simp] theorem State.setPlanEntry_cpr (s : State) (i : PlanIx) (x : PlanEntry) : (s.setPlanEntry i x).cpr = s.cpr := rfl
@[simp] theorem State.setPlanEntry_xcr (s : State) (i : PlanIx) (x : PlanEntry) : (s.setPlanEntry i x).xcr = s.xcr := rfl
@[simp] theorem State.setPlanEntry_cbm (s : State) (i : PlanIx) (x : PlanEntry) : (s.setPlanEntry i x).cbm = s.cbm := rfl
@[simp] theorem State.setPlanEntry_flk (s : State) (i : PlanIx) (x : PlanEntry) : (s.setPlanEntry i x).flk = s.flk := rfl
@[simp] theorem State.setPlanEntry_scd (s : State) (i : PlanIx) (x : PlanEntry) : (s.setPlanEntry i x).scd = s.scd := rfl
@[simp] theorem State.setPlanEntry_mge (s : State) (i : PlanIx) (x : PlanEntry) : (s.setPlanEntry i x).mge = s.mge := rfl
@[simp] theorem State.setPlanEntry_ccr (s : State) (i : PlanIx) (x : PlanEntry) : (s.setPlanEntry i x).ccr = s.ccr := rfl
@[simp] theorem State.setPlanEntry_evu (s : State) (i : PlanIx) (x : PlanEntry) : (s.setPlanEntry i x).evu = s.evu := rfl
@[simp] theorem State.setPlanEntry_lvc (s : State) (i : PlanIx) (x : PlanEntry) : (s.setPlanEntry i x).lvc = s.lvc := rfl
@[simp] theorem State.setPlanEntry_pending (s : State) (i : PlanIx) (x : PlanEntry) : (s.setPlanEntry i x).pending = s.pending := rfl
@[simp] theorem State.setPlanEntry_trq_tickCode (s : State) (i : PlanIx) (x : PlanEntry) : (s.setPlanEntry i x).trq.tickCode = s.trq.tickCode := rfl
@[simp] theorem State.setPlanEntry_trq_sensors (s : State) (i : PlanIx) (x : PlanEntry) : (s.setPlanEntry i x).trq.sensors = s.trq.sensors := rfl
@[simp] theorem State.setPlanEntry_trq_plan (s : State) (i : PlanIx) (x : PlanEntry) : (s.setPlanEntry i x).trq.plan = s.trq.plan.set i x := rfl
@[simp] theorem State.setPlanEntry_trq_partCounter (s : State) (i : PlanIx) (x : PlanEntry) : (s.setPlanEntry i x).trq.partCounter = s.trq.partCounter := rfl
@[simp] theorem State.setPlanEntry_trq_queue (s : State) (i : PlanIx) (x : PlanEntry) : (s.setPlanEntry i x).trq.queue = s.trq.queue := rfl
@[simp] theorem State.setPlanEntry_trq_stages (s : State) (i : PlanIx) (x : PlanEntry) : (s.setPlanEntry i x).trq.stages = s.trq.stages := rfl
@[simp] theorem State.setPlanEntry_trq_partsRegistered (s : State) (i : PlanIx) (x : PlanEntry) : (s.setPlanEntry i x).trq.partsRegistered = s.trq.partsRegistered := rfl
@[simp] theorem State.setPlanEntry_trq_lockoutEdges (s : State) (i : PlanIx) (x : PlanEntry) : (s.setPlanEntry i x).trq.lockoutEdges = s.trq.lockoutEdges := rfl
@[simp] theorem State.setPlanEntry_trq_reverseSensorEdges (s : State) (i : PlanIx) (x : PlanEntry) : (s.setPlanEntry i x).trq.reverseSensorEdges = s.trq.reverseSensorEdges := rfl
@[simp] theorem State.setPlanEntry_trq_triggersFired (s : State) (i : PlanIx) (x : PlanEntry) : (s.setPlanEntry i x).trq.triggersFired = s.trq.triggersFired := rfl
@[simp] theorem State.setPlanEntry_trq_triggersFailed (s : State) (i : PlanIx) (x : PlanEntry) : (s.setPlanEntry i x).trq.triggersFailed = s.trq.triggersFailed := rfl
@[simp] theorem State.setPlanEntry_port (s : State) (i : PlanIx) (x : PlanEntry) (q : PortIx) : (s.setPlanEntry i x).port q = s.port q := rfl
@[simp] theorem State.setPlanEntry_exposures (s : State) (i : PlanIx) (x : PlanEntry) (q : PortIx) : (s.setPlanEntry i x).exposures q = s.exposures q := rfl
@[simp] theorem State.setPlanEntry_stage (s : State) (i : PlanIx) (x : PlanEntry) (q : PortIx) : (s.setPlanEntry i x).stage q = s.stage q := rfl
@[simp] theorem State.setPlanEntry_sensor (s : State) (i : PlanIx) (x : PlanEntry) (k : SensorIx) : (s.setPlanEntry i x).sensor k = s.sensor k := rfl
@[simp] theorem State.setPlanEntry_stream (s : State) (i : PlanIx) (x : PlanEntry) (k : StreamIx) : (s.setPlanEntry i x).stream k = s.stream k := rfl
@[simp] theorem State.setPlanEntry_wiresOf (s : State) (i : PlanIx) (x : PlanEntry) (q : PortIx) : (s.setPlanEntry i x).wiresOf q = s.wiresOf q := rfl
@[simp] theorem State.setPlanEntry_finePos (s : State) (i : PlanIx) (x : PlanEntry) : (s.setPlanEntry i x).finePos = s.finePos := rfl
@[simp] theorem State.setPlanEntry_lineTime (s : State) (i : PlanIx) (x : PlanEntry) : (s.setPlanEntry i x).lineTime = s.lineTime := rfl
@[simp] theorem State.setPlanEntry_freeCount (s : State) (i : PlanIx) (x : PlanEntry) : (s.setPlanEntry i x).freeCount = s.freeCount := rfl
@[simp] theorem State.setPlanEntry_tracking (s : State) (i : PlanIx) (x : PlanEntry) : (s.setPlanEntry i x).tracking = s.tracking := rfl
@[simp] theorem State.setPlanEntry_responses (s : State) (i : PlanIx) (x : PlanEntry) : (s.setPlanEntry i x).responses = s.responses := rfl
@[simp] theorem State.setPlanEntry_planEntry_self (s : State) (i : PlanIx) (x : PlanEntry) : (s.setPlanEntry i x).planEntry i = x := by
  simp [State.planEntry, State.setPlanEntry]
@[simp] theorem State.setPlanEntry_planEntry_ne (s : State) (i : PlanIx) (x : PlanEntry) (k : PlanIx) (h : k ≠ i) : (s.setPlanEntry i x).planEntry k = s.planEntry k := by
  simp [State.planEntry, State.setPlanEntry, Ne.symm (Fin.val_ne_of_ne h)]
theorem State.setPlanEntry_planEntry (s : State) (i : PlanIx) (x : PlanEntry) (k : PlanIx) : (s.setPlanEntry i x).planEntry k = if k = i then x else s.planEntry k := by
  split
  · subst_vars; simp
  · rename_i h; simp [h]

/-! ### setTrigQueue -/

@[simp] theorem State.setTrigQueue_bpt (s : State) (es : List TrigEntry) : (s.setTrigQueue es).bpt = s.bpt := rfl
@[simp] theorem State.setTrigQueue_cpr (s : State) (es : List TrigEntry) : (s.setTrigQueue es).cpr = s.cpr := rfl
@[simp] theorem State.setTrigQueue_xcr (s : State) (es : List TrigEntry) : (s.setTrigQueue es).xcr = s.xcr := rfl
@[simp] theorem State.setTrigQueue_cbm (s : State) (es : List TrigEntry) : (s.setTrigQueue es).cbm = s.cbm := rfl
@[simp] theorem State.setTrigQueue_flk (s : State) (es : List TrigEntry) : (s.setTrigQueue es).flk = s.flk := rfl
@[simp] theorem State.setTrigQueue_scd (s : State) (es : List TrigEntry) : (s.setTrigQueue es).scd = s.scd := rfl
@[simp] theorem State.setTrigQueue_mge (s : State) (es : List TrigEntry) : (s.setTrigQueue es).mge = s.mge := rfl
@[simp] theorem State.setTrigQueue_ccr (s : State) (es : List TrigEntry) : (s.setTrigQueue es).ccr = s.ccr := rfl
@[simp] theorem State.setTrigQueue_evu (s : State) (es : List TrigEntry) : (s.setTrigQueue es).evu = s.evu := rfl
@[simp] theorem State.setTrigQueue_lvc (s : State) (es : List TrigEntry) : (s.setTrigQueue es).lvc = s.lvc := rfl
@[simp] theorem State.setTrigQueue_pending (s : State) (es : List TrigEntry) : (s.setTrigQueue es).pending = s.pending := rfl
@[simp] theorem State.setTrigQueue_trq_tickCode (s : State) (es : List TrigEntry) : (s.setTrigQueue es).trq.tickCode = s.trq.tickCode := rfl
@[simp] theorem State.setTrigQueue_trq_sensors (s : State) (es : List TrigEntry) : (s.setTrigQueue es).trq.sensors = s.trq.sensors := rfl
@[simp] theorem State.setTrigQueue_trq_plan (s : State) (es : List TrigEntry) : (s.setTrigQueue es).trq.plan = s.trq.plan := rfl
@[simp] theorem State.setTrigQueue_trq_partCounter (s : State) (es : List TrigEntry) : (s.setTrigQueue es).trq.partCounter = s.trq.partCounter := rfl
@[simp] theorem State.setTrigQueue_trq_queue (s : State) (es : List TrigEntry) : (s.setTrigQueue es).trq.queue = es := rfl
@[simp] theorem State.setTrigQueue_trq_stages (s : State) (es : List TrigEntry) : (s.setTrigQueue es).trq.stages = s.trq.stages := rfl
@[simp] theorem State.setTrigQueue_trq_partsRegistered (s : State) (es : List TrigEntry) : (s.setTrigQueue es).trq.partsRegistered = s.trq.partsRegistered := rfl
@[simp] theorem State.setTrigQueue_trq_lockoutEdges (s : State) (es : List TrigEntry) : (s.setTrigQueue es).trq.lockoutEdges = s.trq.lockoutEdges := rfl
@[simp] theorem State.setTrigQueue_trq_reverseSensorEdges (s : State) (es : List TrigEntry) : (s.setTrigQueue es).trq.reverseSensorEdges = s.trq.reverseSensorEdges := rfl
@[simp] theorem State.setTrigQueue_trq_triggersFired (s : State) (es : List TrigEntry) : (s.setTrigQueue es).trq.triggersFired = s.trq.triggersFired := rfl
@[simp] theorem State.setTrigQueue_trq_triggersFailed (s : State) (es : List TrigEntry) : (s.setTrigQueue es).trq.triggersFailed = s.trq.triggersFailed := rfl
@[simp] theorem State.setTrigQueue_port (s : State) (es : List TrigEntry) (q : PortIx) : (s.setTrigQueue es).port q = s.port q := rfl
@[simp] theorem State.setTrigQueue_exposures (s : State) (es : List TrigEntry) (q : PortIx) : (s.setTrigQueue es).exposures q = s.exposures q := rfl
@[simp] theorem State.setTrigQueue_stage (s : State) (es : List TrigEntry) (q : PortIx) : (s.setTrigQueue es).stage q = s.stage q := rfl
@[simp] theorem State.setTrigQueue_sensor (s : State) (es : List TrigEntry) (k : SensorIx) : (s.setTrigQueue es).sensor k = s.sensor k := rfl
@[simp] theorem State.setTrigQueue_planEntry (s : State) (es : List TrigEntry) (k : PlanIx) : (s.setTrigQueue es).planEntry k = s.planEntry k := rfl
@[simp] theorem State.setTrigQueue_stream (s : State) (es : List TrigEntry) (k : StreamIx) : (s.setTrigQueue es).stream k = s.stream k := rfl
@[simp] theorem State.setTrigQueue_wiresOf (s : State) (es : List TrigEntry) (q : PortIx) : (s.setTrigQueue es).wiresOf q = s.wiresOf q := rfl
@[simp] theorem State.setTrigQueue_finePos (s : State) (es : List TrigEntry) : (s.setTrigQueue es).finePos = s.finePos := rfl
@[simp] theorem State.setTrigQueue_lineTime (s : State) (es : List TrigEntry) : (s.setTrigQueue es).lineTime = s.lineTime := rfl
@[simp] theorem State.setTrigQueue_freeCount (s : State) (es : List TrigEntry) : (s.setTrigQueue es).freeCount = s.freeCount := rfl
@[simp] theorem State.setTrigQueue_tracking (s : State) (es : List TrigEntry) : (s.setTrigQueue es).tracking = s.tracking := rfl
@[simp] theorem State.setTrigQueue_responses (s : State) (es : List TrigEntry) : (s.setTrigQueue es).responses = s.responses := rfl

/-! ### setStream -/

@[simp] theorem State.setStream_bpt (s : State) (i : StreamIx) (x : Stream) : (s.setStream i x).bpt = s.bpt := rfl
@[simp] theorem State.setStream_trq (s : State) (i : StreamIx) (x : Stream) : (s.setStream i x).trq = s.trq := rfl
@[simp] theorem State.setStream_cpr (s : State) (i : StreamIx) (x : Stream) : (s.setStream i x).cpr = s.cpr := rfl
@[simp] theorem State.setStream_xcr (s : State) (i : StreamIx) (x : Stream) : (s.setStream i x).xcr = s.xcr := rfl
@[simp] theorem State.setStream_flk (s : State) (i : StreamIx) (x : Stream) : (s.setStream i x).flk = s.flk := rfl
@[simp] theorem State.setStream_scd (s : State) (i : StreamIx) (x : Stream) : (s.setStream i x).scd = s.scd := rfl
@[simp] theorem State.setStream_mge (s : State) (i : StreamIx) (x : Stream) : (s.setStream i x).mge = s.mge := rfl
@[simp] theorem State.setStream_ccr (s : State) (i : StreamIx) (x : Stream) : (s.setStream i x).ccr = s.ccr := rfl
@[simp] theorem State.setStream_evu (s : State) (i : StreamIx) (x : Stream) : (s.setStream i x).evu = s.evu := rfl
@[simp] theorem State.setStream_lvc (s : State) (i : StreamIx) (x : Stream) : (s.setStream i x).lvc = s.lvc := rfl
@[simp] theorem State.setStream_pending (s : State) (i : StreamIx) (x : Stream) : (s.setStream i x).pending = s.pending := rfl
@[simp] theorem State.setStream_cbm_mem (s : State) (i : StreamIx) (x : Stream) : (s.setStream i x).cbm.mem = s.cbm.mem := rfl
@[simp] theorem State.setStream_cbm_free (s : State) (i : StreamIx) (x : Stream) : (s.setStream i x).cbm.free = s.cbm.free := rfl
@[simp] theorem State.setStream_cbm_reserved (s : State) (i : StreamIx) (x : Stream) : (s.setStream i x).cbm.reserved = s.cbm.reserved := rfl
@[simp] theorem State.setStream_cbm_streams (s : State) (i : StreamIx) (x : Stream) : (s.setStream i x).cbm.streams = s.cbm.streams.set i x := rfl
@[simp] theorem State.setStream_port (s : State) (i : StreamIx) (x : Stream) (q : PortIx) : (s.setStream i x).port q = s.port q := rfl
@[simp] theorem State.setStream_exposures (s : State) (i : StreamIx) (x : Stream) (q : PortIx) : (s.setStream i x).exposures q = s.exposures q := rfl
@[simp] theorem State.setStream_stage (s : State) (i : StreamIx) (x : Stream) (q : PortIx) : (s.setStream i x).stage q = s.stage q := rfl
@[simp] theorem State.setStream_sensor (s : State) (i : StreamIx) (x : Stream) (k : SensorIx) : (s.setStream i x).sensor k = s.sensor k := rfl
@[simp] theorem State.setStream_planEntry (s : State) (i : StreamIx) (x : Stream) (k : PlanIx) : (s.setStream i x).planEntry k = s.planEntry k := rfl
@[simp] theorem State.setStream_wiresOf (s : State) (i : StreamIx) (x : Stream) (q : PortIx) : (s.setStream i x).wiresOf q = s.wiresOf q := rfl
@[simp] theorem State.setStream_finePos (s : State) (i : StreamIx) (x : Stream) : (s.setStream i x).finePos = s.finePos := rfl
@[simp] theorem State.setStream_lineTime (s : State) (i : StreamIx) (x : Stream) : (s.setStream i x).lineTime = s.lineTime := rfl
@[simp] theorem State.setStream_freeCount (s : State) (i : StreamIx) (x : Stream) : (s.setStream i x).freeCount = s.freeCount := rfl
@[simp] theorem State.setStream_tracking (s : State) (i : StreamIx) (x : Stream) : (s.setStream i x).tracking = s.tracking := rfl
@[simp] theorem State.setStream_responses (s : State) (i : StreamIx) (x : Stream) : (s.setStream i x).responses = s.responses := rfl
@[simp] theorem State.setStream_stream_self (s : State) (i : StreamIx) (x : Stream) : (s.setStream i x).stream i = x := by
  simp [State.stream, State.setStream]
@[simp] theorem State.setStream_stream_ne (s : State) (i : StreamIx) (x : Stream) (k : StreamIx) (h : k ≠ i) : (s.setStream i x).stream k = s.stream k := by
  simp [State.stream, State.setStream, Ne.symm (Fin.val_ne_of_ne h)]
theorem State.setStream_stream (s : State) (i : StreamIx) (x : Stream) (k : StreamIx) : (s.setStream i x).stream k = if k = i then x else s.stream k := by
  split
  · subst_vars; simp
  · rename_i h; simp [h]

/-! ### setFree -/

@[simp] theorem State.setFree_bpt (s : State) (r : List Run) : (s.setFree r).bpt = s.bpt := rfl
@[simp] theorem State.setFree_trq (s : State) (r : List Run) : (s.setFree r).trq = s.trq := rfl
@[simp] theorem State.setFree_cpr (s : State) (r : List Run) : (s.setFree r).cpr = s.cpr := rfl
@[simp] theorem State.setFree_xcr (s : State) (r : List Run) : (s.setFree r).xcr = s.xcr := rfl
@[simp] theorem State.setFree_flk (s : State) (r : List Run) : (s.setFree r).flk = s.flk := rfl
@[simp] theorem State.setFree_scd (s : State) (r : List Run) : (s.setFree r).scd = s.scd := rfl
@[simp] theorem State.setFree_mge (s : State) (r : List Run) : (s.setFree r).mge = s.mge := rfl
@[simp] theorem State.setFree_ccr (s : State) (r : List Run) : (s.setFree r).ccr = s.ccr := rfl
@[simp] theorem State.setFree_evu (s : State) (r : List Run) : (s.setFree r).evu = s.evu := rfl
@[simp] theorem State.setFree_lvc (s : State) (r : List Run) : (s.setFree r).lvc = s.lvc := rfl
@[simp] theorem State.setFree_pending (s : State) (r : List Run) : (s.setFree r).pending = s.pending := rfl
@[simp] theorem State.setFree_cbm_mem (s : State) (r : List Run) : (s.setFree r).cbm.mem = s.cbm.mem := rfl
@[simp] theorem State.setFree_cbm_free (s : State) (r : List Run) : (s.setFree r).cbm.free = r := rfl
@[simp] theorem State.setFree_cbm_reserved (s : State) (r : List Run) : (s.setFree r).cbm.reserved = s.cbm.reserved := rfl
@[simp] theorem State.setFree_cbm_streams (s : State) (r : List Run) : (s.setFree r).cbm.streams = s.cbm.streams := rfl
@[simp] theorem State.setFree_port (s : State) (r : List Run) (q : PortIx) : (s.setFree r).port q = s.port q := rfl
@[simp] theorem State.setFree_exposures (s : State) (r : List Run) (q : PortIx) : (s.setFree r).exposures q = s.exposures q := rfl
@[simp] theorem State.setFree_stage (s : State) (r : List Run) (q : PortIx) : (s.setFree r).stage q = s.stage q := rfl
@[simp] theorem State.setFree_sensor (s : State) (r : List Run) (k : SensorIx) : (s.setFree r).sensor k = s.sensor k := rfl
@[simp] theorem State.setFree_planEntry (s : State) (r : List Run) (k : PlanIx) : (s.setFree r).planEntry k = s.planEntry k := rfl
@[simp] theorem State.setFree_stream (s : State) (r : List Run) (k : StreamIx) : (s.setFree r).stream k = s.stream k := rfl
@[simp] theorem State.setFree_wiresOf (s : State) (r : List Run) (q : PortIx) : (s.setFree r).wiresOf q = s.wiresOf q := rfl
@[simp] theorem State.setFree_finePos (s : State) (r : List Run) : (s.setFree r).finePos = s.finePos := rfl
@[simp] theorem State.setFree_lineTime (s : State) (r : List Run) : (s.setFree r).lineTime = s.lineTime := rfl
@[simp] theorem State.setFree_tracking (s : State) (r : List Run) : (s.setFree r).tracking = s.tracking := rfl
@[simp] theorem State.setFree_responses (s : State) (r : List Run) : (s.setFree r).responses = s.responses := rfl
@[simp] theorem State.setFree_freeCount (s : State) (r : List Run) : (s.setFree r).freeCount = freeCountOf r := rfl

/-! ### setReserved -/

@[simp] theorem State.setReserved_bpt (s : State) (n : Nat) : (s.setReserved n).bpt = s.bpt := rfl
@[simp] theorem State.setReserved_trq (s : State) (n : Nat) : (s.setReserved n).trq = s.trq := rfl
@[simp] theorem State.setReserved_cpr (s : State) (n : Nat) : (s.setReserved n).cpr = s.cpr := rfl
@[simp] theorem State.setReserved_xcr (s : State) (n : Nat) : (s.setReserved n).xcr = s.xcr := rfl
@[simp] theorem State.setReserved_flk (s : State) (n : Nat) : (s.setReserved n).flk = s.flk := rfl
@[simp] theorem State.setReserved_scd (s : State) (n : Nat) : (s.setReserved n).scd = s.scd := rfl
@[simp] theorem State.setReserved_mge (s : State) (n : Nat) : (s.setReserved n).mge = s.mge := rfl
@[simp] theorem State.setReserved_ccr (s : State) (n : Nat) : (s.setReserved n).ccr = s.ccr := rfl
@[simp] theorem State.setReserved_evu (s : State) (n : Nat) : (s.setReserved n).evu = s.evu := rfl
@[simp] theorem State.setReserved_lvc (s : State) (n : Nat) : (s.setReserved n).lvc = s.lvc := rfl
@[simp] theorem State.setReserved_pending (s : State) (n : Nat) : (s.setReserved n).pending = s.pending := rfl
@[simp] theorem State.setReserved_cbm_mem (s : State) (n : Nat) : (s.setReserved n).cbm.mem = s.cbm.mem := rfl
@[simp] theorem State.setReserved_cbm_free (s : State) (n : Nat) : (s.setReserved n).cbm.free = s.cbm.free := rfl
@[simp] theorem State.setReserved_cbm_reserved (s : State) (n : Nat) : (s.setReserved n).cbm.reserved = n := rfl
@[simp] theorem State.setReserved_cbm_streams (s : State) (n : Nat) : (s.setReserved n).cbm.streams = s.cbm.streams := rfl
@[simp] theorem State.setReserved_port (s : State) (n : Nat) (q : PortIx) : (s.setReserved n).port q = s.port q := rfl
@[simp] theorem State.setReserved_exposures (s : State) (n : Nat) (q : PortIx) : (s.setReserved n).exposures q = s.exposures q := rfl
@[simp] theorem State.setReserved_stage (s : State) (n : Nat) (q : PortIx) : (s.setReserved n).stage q = s.stage q := rfl
@[simp] theorem State.setReserved_sensor (s : State) (n : Nat) (k : SensorIx) : (s.setReserved n).sensor k = s.sensor k := rfl
@[simp] theorem State.setReserved_planEntry (s : State) (n : Nat) (k : PlanIx) : (s.setReserved n).planEntry k = s.planEntry k := rfl
@[simp] theorem State.setReserved_stream (s : State) (n : Nat) (k : StreamIx) : (s.setReserved n).stream k = s.stream k := rfl
@[simp] theorem State.setReserved_wiresOf (s : State) (n : Nat) (q : PortIx) : (s.setReserved n).wiresOf q = s.wiresOf q := rfl
@[simp] theorem State.setReserved_finePos (s : State) (n : Nat) : (s.setReserved n).finePos = s.finePos := rfl
@[simp] theorem State.setReserved_lineTime (s : State) (n : Nat) : (s.setReserved n).lineTime = s.lineTime := rfl
@[simp] theorem State.setReserved_freeCount (s : State) (n : Nat) : (s.setReserved n).freeCount = s.freeCount := rfl
@[simp] theorem State.setReserved_tracking (s : State) (n : Nat) : (s.setReserved n).tracking = s.tracking := rfl
@[simp] theorem State.setReserved_responses (s : State) (n : Nat) : (s.setReserved n).responses = s.responses := rfl

/-! ### setMem -/

@[simp] theorem State.setMem_bpt (s : State) (m : List Host.Cell) : (s.setMem m).bpt = s.bpt := rfl
@[simp] theorem State.setMem_trq (s : State) (m : List Host.Cell) : (s.setMem m).trq = s.trq := rfl
@[simp] theorem State.setMem_cpr (s : State) (m : List Host.Cell) : (s.setMem m).cpr = s.cpr := rfl
@[simp] theorem State.setMem_xcr (s : State) (m : List Host.Cell) : (s.setMem m).xcr = s.xcr := rfl
@[simp] theorem State.setMem_flk (s : State) (m : List Host.Cell) : (s.setMem m).flk = s.flk := rfl
@[simp] theorem State.setMem_scd (s : State) (m : List Host.Cell) : (s.setMem m).scd = s.scd := rfl
@[simp] theorem State.setMem_mge (s : State) (m : List Host.Cell) : (s.setMem m).mge = s.mge := rfl
@[simp] theorem State.setMem_ccr (s : State) (m : List Host.Cell) : (s.setMem m).ccr = s.ccr := rfl
@[simp] theorem State.setMem_evu (s : State) (m : List Host.Cell) : (s.setMem m).evu = s.evu := rfl
@[simp] theorem State.setMem_lvc (s : State) (m : List Host.Cell) : (s.setMem m).lvc = s.lvc := rfl
@[simp] theorem State.setMem_pending (s : State) (m : List Host.Cell) : (s.setMem m).pending = s.pending := rfl
@[simp] theorem State.setMem_cbm_mem (s : State) (m : List Host.Cell) : (s.setMem m).cbm.mem = m := rfl
@[simp] theorem State.setMem_cbm_free (s : State) (m : List Host.Cell) : (s.setMem m).cbm.free = s.cbm.free := rfl
@[simp] theorem State.setMem_cbm_reserved (s : State) (m : List Host.Cell) : (s.setMem m).cbm.reserved = s.cbm.reserved := rfl
@[simp] theorem State.setMem_cbm_streams (s : State) (m : List Host.Cell) : (s.setMem m).cbm.streams = s.cbm.streams := rfl
@[simp] theorem State.setMem_port (s : State) (m : List Host.Cell) (q : PortIx) : (s.setMem m).port q = s.port q := rfl
@[simp] theorem State.setMem_exposures (s : State) (m : List Host.Cell) (q : PortIx) : (s.setMem m).exposures q = s.exposures q := rfl
@[simp] theorem State.setMem_stage (s : State) (m : List Host.Cell) (q : PortIx) : (s.setMem m).stage q = s.stage q := rfl
@[simp] theorem State.setMem_sensor (s : State) (m : List Host.Cell) (k : SensorIx) : (s.setMem m).sensor k = s.sensor k := rfl
@[simp] theorem State.setMem_planEntry (s : State) (m : List Host.Cell) (k : PlanIx) : (s.setMem m).planEntry k = s.planEntry k := rfl
@[simp] theorem State.setMem_stream (s : State) (m : List Host.Cell) (k : StreamIx) : (s.setMem m).stream k = s.stream k := rfl
@[simp] theorem State.setMem_wiresOf (s : State) (m : List Host.Cell) (q : PortIx) : (s.setMem m).wiresOf q = s.wiresOf q := rfl
@[simp] theorem State.setMem_finePos (s : State) (m : List Host.Cell) : (s.setMem m).finePos = s.finePos := rfl
@[simp] theorem State.setMem_lineTime (s : State) (m : List Host.Cell) : (s.setMem m).lineTime = s.lineTime := rfl
@[simp] theorem State.setMem_freeCount (s : State) (m : List Host.Cell) : (s.setMem m).freeCount = s.freeCount := rfl
@[simp] theorem State.setMem_tracking (s : State) (m : List Host.Cell) : (s.setMem m).tracking = s.tracking := rfl
@[simp] theorem State.setMem_responses (s : State) (m : List Host.Cell) : (s.setMem m).responses = s.responses := rfl

/-! ### setOutput -/

@[simp] theorem State.setOutput_bpt (s : State) (cs : List OutCell) : (s.setOutput cs).bpt = s.bpt := rfl
@[simp] theorem State.setOutput_trq (s : State) (cs : List OutCell) : (s.setOutput cs).trq = s.trq := rfl
@[simp] theorem State.setOutput_cpr (s : State) (cs : List OutCell) : (s.setOutput cs).cpr = s.cpr := rfl
@[simp] theorem State.setOutput_xcr (s : State) (cs : List OutCell) : (s.setOutput cs).xcr = s.xcr := rfl
@[simp] theorem State.setOutput_cbm (s : State) (cs : List OutCell) : (s.setOutput cs).cbm = s.cbm := rfl
@[simp] theorem State.setOutput_flk (s : State) (cs : List OutCell) : (s.setOutput cs).flk = s.flk := rfl
@[simp] theorem State.setOutput_scd (s : State) (cs : List OutCell) : (s.setOutput cs).scd = s.scd := rfl
@[simp] theorem State.setOutput_ccr (s : State) (cs : List OutCell) : (s.setOutput cs).ccr = s.ccr := rfl
@[simp] theorem State.setOutput_evu (s : State) (cs : List OutCell) : (s.setOutput cs).evu = s.evu := rfl
@[simp] theorem State.setOutput_lvc (s : State) (cs : List OutCell) : (s.setOutput cs).lvc = s.lvc := rfl
@[simp] theorem State.setOutput_pending (s : State) (cs : List OutCell) : (s.setOutput cs).pending = s.pending := rfl
@[simp] theorem State.setOutput_mge_requests (s : State) (cs : List OutCell) : (s.setOutput cs).mge.requests = s.mge.requests := rfl
@[simp] theorem State.setOutput_mge_output (s : State) (cs : List OutCell) : (s.setOutput cs).mge.output = cs := rfl
@[simp] theorem State.setOutput_mge_resetPending (s : State) (cs : List OutCell) : (s.setOutput cs).mge.resetPending = s.mge.resetPending := rfl
@[simp] theorem State.setOutput_mge_resetDue (s : State) (cs : List OutCell) : (s.setOutput cs).mge.resetDue = s.mge.resetDue := rfl
@[simp] theorem State.setOutput_mge_dropped (s : State) (cs : List OutCell) : (s.setOutput cs).mge.dropped = s.mge.dropped := rfl
@[simp] theorem State.setOutput_port (s : State) (cs : List OutCell) (q : PortIx) : (s.setOutput cs).port q = s.port q := rfl
@[simp] theorem State.setOutput_exposures (s : State) (cs : List OutCell) (q : PortIx) : (s.setOutput cs).exposures q = s.exposures q := rfl
@[simp] theorem State.setOutput_stage (s : State) (cs : List OutCell) (q : PortIx) : (s.setOutput cs).stage q = s.stage q := rfl
@[simp] theorem State.setOutput_sensor (s : State) (cs : List OutCell) (k : SensorIx) : (s.setOutput cs).sensor k = s.sensor k := rfl
@[simp] theorem State.setOutput_planEntry (s : State) (cs : List OutCell) (k : PlanIx) : (s.setOutput cs).planEntry k = s.planEntry k := rfl
@[simp] theorem State.setOutput_stream (s : State) (cs : List OutCell) (k : StreamIx) : (s.setOutput cs).stream k = s.stream k := rfl
@[simp] theorem State.setOutput_wiresOf (s : State) (cs : List OutCell) (q : PortIx) : (s.setOutput cs).wiresOf q = s.wiresOf q := rfl
@[simp] theorem State.setOutput_finePos (s : State) (cs : List OutCell) : (s.setOutput cs).finePos = s.finePos := rfl
@[simp] theorem State.setOutput_lineTime (s : State) (cs : List OutCell) : (s.setOutput cs).lineTime = s.lineTime := rfl
@[simp] theorem State.setOutput_freeCount (s : State) (cs : List OutCell) : (s.setOutput cs).freeCount = s.freeCount := rfl
@[simp] theorem State.setOutput_tracking (s : State) (cs : List OutCell) : (s.setOutput cs).tracking = s.tracking := rfl

/-! ### setEngine -/

@[simp] theorem State.setEngine_bpt (s : State) (e : Option Txn) : (s.setEngine e).bpt = s.bpt := rfl
@[simp] theorem State.setEngine_trq (s : State) (e : Option Txn) : (s.setEngine e).trq = s.trq := rfl
@[simp] theorem State.setEngine_cpr (s : State) (e : Option Txn) : (s.setEngine e).cpr = s.cpr := rfl
@[simp] theorem State.setEngine_xcr (s : State) (e : Option Txn) : (s.setEngine e).xcr = s.xcr := rfl
@[simp] theorem State.setEngine_cbm (s : State) (e : Option Txn) : (s.setEngine e).cbm = s.cbm := rfl
@[simp] theorem State.setEngine_flk (s : State) (e : Option Txn) : (s.setEngine e).flk = s.flk := rfl
@[simp] theorem State.setEngine_scd (s : State) (e : Option Txn) : (s.setEngine e).scd = s.scd := rfl
@[simp] theorem State.setEngine_mge (s : State) (e : Option Txn) : (s.setEngine e).mge = s.mge := rfl
@[simp] theorem State.setEngine_evu (s : State) (e : Option Txn) : (s.setEngine e).evu = s.evu := rfl
@[simp] theorem State.setEngine_lvc (s : State) (e : Option Txn) : (s.setEngine e).lvc = s.lvc := rfl
@[simp] theorem State.setEngine_pending (s : State) (e : Option Txn) : (s.setEngine e).pending = s.pending := rfl
@[simp] theorem State.setEngine_ccr_tickCode (s : State) (e : Option Txn) : (s.setEngine e).ccr.tickCode = s.ccr.tickCode := rfl
@[simp] theorem State.setEngine_ccr_timing (s : State) (e : Option Txn) : (s.setEngine e).ccr.timing = s.ccr.timing := rfl
@[simp] theorem State.setEngine_ccr_queue (s : State) (e : Option Txn) : (s.setEngine e).ccr.queue = s.ccr.queue := rfl
@[simp] theorem State.setEngine_ccr_engine (s : State) (e : Option Txn) : (s.setEngine e).ccr.engine = e := rfl
@[simp] theorem State.setEngine_ccr_wires (s : State) (e : Option Txn) : (s.setEngine e).ccr.wires = s.ccr.wires := rfl
@[simp] theorem State.setEngine_port (s : State) (e : Option Txn) (q : PortIx) : (s.setEngine e).port q = s.port q := rfl
@[simp] theorem State.setEngine_exposures (s : State) (e : Option Txn) (q : PortIx) : (s.setEngine e).exposures q = s.exposures q := rfl
@[simp] theorem State.setEngine_stage (s : State) (e : Option Txn) (q : PortIx) : (s.setEngine e).stage q = s.stage q := rfl
@[simp] theorem State.setEngine_sensor (s : State) (e : Option Txn) (k : SensorIx) : (s.setEngine e).sensor k = s.sensor k := rfl
@[simp] theorem State.setEngine_planEntry (s : State) (e : Option Txn) (k : PlanIx) : (s.setEngine e).planEntry k = s.planEntry k := rfl
@[simp] theorem State.setEngine_stream (s : State) (e : Option Txn) (k : StreamIx) : (s.setEngine e).stream k = s.stream k := rfl
@[simp] theorem State.setEngine_wiresOf (s : State) (e : Option Txn) (q : PortIx) : (s.setEngine e).wiresOf q = s.wiresOf q := rfl
@[simp] theorem State.setEngine_finePos (s : State) (e : Option Txn) : (s.setEngine e).finePos = s.finePos := rfl
@[simp] theorem State.setEngine_lineTime (s : State) (e : Option Txn) : (s.setEngine e).lineTime = s.lineTime := rfl
@[simp] theorem State.setEngine_freeCount (s : State) (e : Option Txn) : (s.setEngine e).freeCount = s.freeCount := rfl
@[simp] theorem State.setEngine_tracking (s : State) (e : Option Txn) : (s.setEngine e).tracking = s.tracking := rfl
@[simp] theorem State.setEngine_responses (s : State) (e : Option Txn) : (s.setEngine e).responses = s.responses := rfl

/-! ### setWires -/

@[simp] theorem State.setWires_bpt (s : State) (p : PortIx) (w : Wires) : (s.setWires p w).bpt = s.bpt := rfl
@[simp] theorem State.setWires_trq (s : State) (p : PortIx) (w : Wires) : (s.setWires p w).trq = s.trq := rfl
@[simp] theorem State.setWires_cpr (s : State) (p : PortIx) (w : Wires) : (s.setWires p w).cpr = s.cpr := rfl
@[simp] theorem State.setWires_xcr (s : State) (p : PortIx) (w : Wires) : (s.setWires p w).xcr = s.xcr := rfl
@[simp] theorem State.setWires_cbm (s : State) (p : PortIx) (w : Wires) : (s.setWires p w).cbm = s.cbm := rfl
@[simp] theorem State.setWires_flk (s : State) (p : PortIx) (w : Wires) : (s.setWires p w).flk = s.flk := rfl
@[simp] theorem State.setWires_scd (s : State) (p : PortIx) (w : Wires) : (s.setWires p w).scd = s.scd := rfl
@[simp] theorem State.setWires_mge (s : State) (p : PortIx) (w : Wires) : (s.setWires p w).mge = s.mge := rfl
@[simp] theorem State.setWires_evu (s : State) (p : PortIx) (w : Wires) : (s.setWires p w).evu = s.evu := rfl
@[simp] theorem State.setWires_lvc (s : State) (p : PortIx) (w : Wires) : (s.setWires p w).lvc = s.lvc := rfl
@[simp] theorem State.setWires_pending (s : State) (p : PortIx) (w : Wires) : (s.setWires p w).pending = s.pending := rfl
@[simp] theorem State.setWires_ccr_tickCode (s : State) (p : PortIx) (w : Wires) : (s.setWires p w).ccr.tickCode = s.ccr.tickCode := rfl
@[simp] theorem State.setWires_ccr_timing (s : State) (p : PortIx) (w : Wires) : (s.setWires p w).ccr.timing = s.ccr.timing := rfl
@[simp] theorem State.setWires_ccr_queue (s : State) (p : PortIx) (w : Wires) : (s.setWires p w).ccr.queue = s.ccr.queue := rfl
@[simp] theorem State.setWires_ccr_engine (s : State) (p : PortIx) (w : Wires) : (s.setWires p w).ccr.engine = s.ccr.engine := rfl
@[simp] theorem State.setWires_ccr_wires (s : State) (p : PortIx) (w : Wires) : (s.setWires p w).ccr.wires = s.ccr.wires.set p w := rfl
@[simp] theorem State.setWires_port (s : State) (p : PortIx) (w : Wires) (q : PortIx) : (s.setWires p w).port q = s.port q := rfl
@[simp] theorem State.setWires_exposures (s : State) (p : PortIx) (w : Wires) (q : PortIx) : (s.setWires p w).exposures q = s.exposures q := rfl
@[simp] theorem State.setWires_stage (s : State) (p : PortIx) (w : Wires) (q : PortIx) : (s.setWires p w).stage q = s.stage q := rfl
@[simp] theorem State.setWires_sensor (s : State) (p : PortIx) (w : Wires) (k : SensorIx) : (s.setWires p w).sensor k = s.sensor k := rfl
@[simp] theorem State.setWires_planEntry (s : State) (p : PortIx) (w : Wires) (k : PlanIx) : (s.setWires p w).planEntry k = s.planEntry k := rfl
@[simp] theorem State.setWires_stream (s : State) (p : PortIx) (w : Wires) (k : StreamIx) : (s.setWires p w).stream k = s.stream k := rfl
@[simp] theorem State.setWires_finePos (s : State) (p : PortIx) (w : Wires) : (s.setWires p w).finePos = s.finePos := rfl
@[simp] theorem State.setWires_lineTime (s : State) (p : PortIx) (w : Wires) : (s.setWires p w).lineTime = s.lineTime := rfl
@[simp] theorem State.setWires_freeCount (s : State) (p : PortIx) (w : Wires) : (s.setWires p w).freeCount = s.freeCount := rfl
@[simp] theorem State.setWires_tracking (s : State) (p : PortIx) (w : Wires) : (s.setWires p w).tracking = s.tracking := rfl
@[simp] theorem State.setWires_responses (s : State) (p : PortIx) (w : Wires) : (s.setWires p w).responses = s.responses := rfl
@[simp] theorem State.setWires_wiresOf_self (s : State) (p : PortIx) (w : Wires) : (s.setWires p w).wiresOf p = w := by
  simp [State.wiresOf, State.setWires]
@[simp] theorem State.setWires_wiresOf_ne (s : State) (p : PortIx) (w : Wires) (q : PortIx) (h : q ≠ p) : (s.setWires p w).wiresOf q = s.wiresOf q := by
  simp [State.wiresOf, State.setWires, Ne.symm (Fin.val_ne_of_ne h)]
theorem State.setWires_wiresOf (s : State) (p : PortIx) (w : Wires) (q : PortIx) : (s.setWires p w).wiresOf q = if q = p then w else s.wiresOf q := by
  split
  · subst_vars; simp
  · rename_i h; simp [h]

end Sys2Proof.Machine
end

