-- ==== Sys2Proof/Laws/Flags.lean ====
section
/-! SUPPORT. Setting a factor and incrementing a counter: what they raise (`Raised`) and what they leave alone. -/

namespace Sys2Proof.Machine

/-! ### Raised -/

theorem Raised.refl (s : State) : Raised [] s s where
  factors := by simp
  enables := rfl
  notice := rfl
  reported := rfl
  cell := .inl ⟨rfl, rfl⟩
  requests := rfl
  resetPending := rfl
  resetDue := rfl
  dropped := rfl

theorem Raised.trans {fs gs : List Factor} {s t u : State} (h : Raised fs s t) (k : Raised gs t u) : Raised (fs ++ gs) s u where
  factors f := by simp [k.factors, h.factors, Bool.or_assoc]
  enables := k.enables.trans h.enables
  notice := k.notice.trans h.notice
  reported := k.reported.trans h.reported
  cell := by
    obtain ⟨a, b⟩ | ⟨a, b, pl, c⟩ := h.cell <;> obtain ⟨a', b'⟩ | ⟨a', b', pl', c'⟩ := k.cell
    · exact .inl ⟨a'.trans a, b'.trans b⟩
    · exact .inr ⟨b ▸ a', b', pl', a ▸ c'⟩
    · exact .inr ⟨a, b'.trans b, pl, a'.trans c⟩
    · simp [b] at a'
  requests := k.requests.trans h.requests
  resetPending := k.resetPending.trans h.resetPending
  resetDue := k.resetDue.trans h.resetDue
  dropped := k.dropped.trans h.dropped

/-- A change of the other blocks in between raises nothing. -/
theorem Raised.congr {fs : List Factor} {s t s' t' : State} (h : Raised fs s t) (hs : s'.evu = s.evu) (hs' : s'.mge = s.mge)
    (ht : t'.evu = t.evu) (ht' : t'.mge = t.mge) : Raised fs s' t' where
  factors := by rw [hs, ht]; exact h.factors
  enables := by rw [hs, ht]; exact h.enables
  notice := by rw [hs, ht]; exact h.notice
  reported := by rw [hs, ht]; exact h.reported
  cell := by rw [hs, ht, hs', ht']; exact h.cell
  requests := by rw [hs', ht']; exact h.requests
  resetPending := by rw [hs', ht']; exact h.resetPending
  resetDue := by rw [hs', ht']; exact h.resetDue
  dropped := by rw [hs', ht']; exact h.dropped

theorem Raised.perm {fs gs : List Factor} {s t : State} (h : Raised fs s t) (hm : ∀ f, f ∈ fs ↔ f ∈ gs) : Raised gs s t :=
  { h with factors := fun f => by rw [h.factors f]; simp [hm f] }

/-! ### Setting a factor -/

theorem Evu.has_mark (e : Evu) (f g : Factor) : (e.mark f).has g = (e.has g || decide (g = f)) := by
  obtain ⟨gi, gb⟩ := g
  obtain ⟨fi, fb⟩ := f
  by_cases h : gi = fi
  · subst h
    by_cases hb : gb = fb
    · subst hb; simp [Evu.has, Evu.mark]
    · have : (1#8 <<< fb.val).getLsbD gb.val = false := by
        have key : ∀ a b : Fin 8, a ≠ b → (1#8 <<< b.val).getLsbD a.val = false := by decide
        exact key gb fb hb
      simp only [Evu.has, Evu.mark, Fin.getElem_fin, Vector.getElem_set_self, BitVec.getLsbD_or, this]
      simp [hb]
  · simp [Evu.has, Evu.mark, Ne.symm (Fin.val_ne_of_ne h), h]

/-- Setting a factor marks it and may create an event cell. -/
theorem setFactor_eq (f : Factor) (s : State) :
    setFactor f s = { s with evu := s.evu.mark f } ∨
      (s.evu.eventPending = false ∧ setFactor f s = createEvent { s with evu := s.evu.mark f }) := by
  unfold setFactor judgeEvent
  dsimp only
  split
  · split
    · rename_i h
      simp only [Bool.and_eq_true, Bool.not_eq_true'] at h
      exact .inr ⟨h.2, rfl⟩
    · exact .inl rfl
  · exact .inl rfl

theorem setFactor_raised (f : Factor) (s : State) : Raised [f] s (setFactor f s) := by
  rcases setFactor_eq f s with h | ⟨hp, h⟩ <;> rw [h]
  · exact { factors := fun g => by simp [Evu.has_mark], enables := rfl, notice := rfl, reported := rfl, cell := .inl ⟨rfl, rfl⟩,
            requests := rfl, resetPending := rfl, resetDue := rfl, dropped := rfl }
  · exact { factors := fun g => by
              have : (createEvent { s with evu := s.evu.mark f }).evu.has g = (s.evu.mark f).has g := rfl
              rw [this]; simp [Evu.has_mark]
            enables := rfl, notice := rfl, reported := rfl, cell := .inr ⟨hp, rfl, _, rfl⟩,
            requests := rfl, resetPending := rfl, resetDue := rfl, dropped := rfl }

theorem setFactor_withReports (f : Factor) (s : State) : (setFactor f s).withReportsOf s = s := by
  rcases setFactor_eq f s with h | ⟨_, h⟩ <;> rw [h] <;> rfl

@[simp] theorem setFactor_bpt (f : Factor) (s : State) : (setFactor f s).bpt = s.bpt := by
  rcases setFactor_eq f s with h | ⟨_, h⟩ <;> rw [h] <;> rfl
@[simp] theorem setFactor_trq (f : Factor) (s : State) : (setFactor f s).trq = s.trq := by
  rcases setFactor_eq f s with h | ⟨_, h⟩ <;> rw [h] <;> rfl
@[simp] theorem setFactor_cpr (f : Factor) (s : State) : (setFactor f s).cpr = s.cpr := by
  rcases setFactor_eq f s with h | ⟨_, h⟩ <;> rw [h] <;> rfl
@[simp] theorem setFactor_xcr (f : Factor) (s : State) : (setFactor f s).xcr = s.xcr := by
  rcases setFactor_eq f s with h | ⟨_, h⟩ <;> rw [h] <;> rfl
@[simp] theorem setFactor_cbm (f : Factor) (s : State) : (setFactor f s).cbm = s.cbm := by
  rcases setFactor_eq f s with h | ⟨_, h⟩ <;> rw [h] <;> rfl
@[simp] theorem setFactor_flk (f : Factor) (s : State) : (setFactor f s).flk = s.flk := by
  rcases setFactor_eq f s with h | ⟨_, h⟩ <;> rw [h] <;> rfl
@[simp] theorem setFactor_scd (f : Factor) (s : State) : (setFactor f s).scd = s.scd := by
  rcases setFactor_eq f s with h | ⟨_, h⟩ <;> rw [h] <;> rfl
@[simp] theorem setFactor_ccr (f : Factor) (s : State) : (setFactor f s).ccr = s.ccr := by
  rcases setFactor_eq f s with h | ⟨_, h⟩ <;> rw [h] <;> rfl
@[simp] theorem setFactor_lvc (f : Factor) (s : State) : (setFactor f s).lvc = s.lvc := by
  rcases setFactor_eq f s with h | ⟨_, h⟩ <;> rw [h] <;> rfl
@[simp] theorem setFactor_pending (f : Factor) (s : State) : (setFactor f s).pending = s.pending := by
  rcases setFactor_eq f s with h | ⟨_, h⟩ <;> rw [h] <;> rfl
@[simp] theorem setFactor_mge_requests (f : Factor) (s : State) : (setFactor f s).mge.requests = s.mge.requests := by
  rcases setFactor_eq f s with h | ⟨_, h⟩ <;> rw [h] <;> rfl
@[simp] theorem setFactor_mge_resetPending (f : Factor) (s : State) : (setFactor f s).mge.resetPending = s.mge.resetPending := by
  rcases setFactor_eq f s with h | ⟨_, h⟩ <;> rw [h] <;> rfl
@[simp] theorem setFactor_mge_resetDue (f : Factor) (s : State) : (setFactor f s).mge.resetDue = s.mge.resetDue := by
  rcases setFactor_eq f s with h | ⟨_, h⟩ <;> rw [h] <;> rfl
@[simp] theorem setFactor_mge_dropped (f : Factor) (s : State) : (setFactor f s).mge.dropped = s.mge.dropped := by
  rcases setFactor_eq f s with h | ⟨_, h⟩ <;> rw [h] <;> rfl
@[simp] theorem setFactor_evu_enables (f : Factor) (s : State) : (setFactor f s).evu.enables = s.evu.enables := by
  rcases setFactor_eq f s with h | ⟨_, h⟩ <;> rw [h] <;> rfl
@[simp] theorem setFactor_evu_notice (f : Factor) (s : State) : (setFactor f s).evu.notice = s.evu.notice := by
  rcases setFactor_eq f s with h | ⟨_, h⟩ <;> rw [h] <;> rfl
@[simp] theorem setFactor_evu_reported (f : Factor) (s : State) : (setFactor f s).evu.reported = s.evu.reported := by
  rcases setFactor_eq f s with h | ⟨_, h⟩ <;> rw [h] <;> rfl
@[simp] theorem setFactor_port (f : Factor) (s : State) (q : PortIx) : (setFactor f s).port q = s.port q := by
  rcases setFactor_eq f s with h | ⟨_, h⟩ <;> rw [h] <;> rfl
@[simp] theorem setFactor_exposures (f : Factor) (s : State) (q : PortIx) : (setFactor f s).exposures q = s.exposures q := by
  rcases setFactor_eq f s with h | ⟨_, h⟩ <;> rw [h] <;> rfl
@[simp] theorem setFactor_stage (f : Factor) (s : State) (q : PortIx) : (setFactor f s).stage q = s.stage q := by
  rcases setFactor_eq f s with h | ⟨_, h⟩ <;> rw [h] <;> rfl
@[simp] theorem setFactor_sensor (f : Factor) (s : State) (k : SensorIx) : (setFactor f s).sensor k = s.sensor k := by
  rcases setFactor_eq f s with h | ⟨_, h⟩ <;> rw [h] <;> rfl
@[simp] theorem setFactor_planEntry (f : Factor) (s : State) (k : PlanIx) : (setFactor f s).planEntry k = s.planEntry k := by
  rcases setFactor_eq f s with h | ⟨_, h⟩ <;> rw [h] <;> rfl
@[simp] theorem setFactor_stream (f : Factor) (s : State) (k : StreamIx) : (setFactor f s).stream k = s.stream k := by
  rcases setFactor_eq f s with h | ⟨_, h⟩ <;> rw [h] <;> rfl
@[simp] theorem setFactor_wiresOf (f : Factor) (s : State) (q : PortIx) : (setFactor f s).wiresOf q = s.wiresOf q := by
  rcases setFactor_eq f s with h | ⟨_, h⟩ <;> rw [h] <;> rfl
@[simp] theorem setFactor_finePos (f : Factor) (s : State) : (setFactor f s).finePos  = s.finePos  := by
  rcases setFactor_eq f s with h | ⟨_, h⟩ <;> rw [h] <;> rfl
@[simp] theorem setFactor_lineTime (f : Factor) (s : State) : (setFactor f s).lineTime  = s.lineTime  := by
  rcases setFactor_eq f s with h | ⟨_, h⟩ <;> rw [h] <;> rfl
@[simp] theorem setFactor_freeCount (f : Factor) (s : State) : (setFactor f s).freeCount  = s.freeCount  := by
  rcases setFactor_eq f s with h | ⟨_, h⟩ <;> rw [h] <;> rfl
@[simp] theorem setFactor_tracking (f : Factor) (s : State) : (setFactor f s).tracking  = s.tracking  := by
  rcases setFactor_eq f s with h | ⟨_, h⟩ <;> rw [h] <;> rfl
@[simp] theorem setFactor_responses (f : Factor) (s : State) : (setFactor f s).responses = s.responses := by
  rcases setFactor_eq f s with h | ⟨_, h⟩ <;> rw [h]
  · rfl
  · simp [State.responses, createEvent, OutCell.isResponse]

/-! ### The wrap of a counter -/

theorem wrapFactor_raised (old : BitVec 32) (f : Factor) (s : State) : Raised (wrapsAt old f) s (wrapFactor old f s) := by
  unfold wrapFactor wrapsAt
  split
  · exact setFactor_raised f s
  · exact Raised.refl s

@[simp] theorem wrapFactor_bpt (old : BitVec 32) (f : Factor) (s : State) : (wrapFactor old f s).bpt = s.bpt := by
  unfold wrapFactor; split <;> simp
@[simp] theorem wrapFactor_trq (old : BitVec 32) (f : Factor) (s : State) : (wrapFactor old f s).trq = s.trq := by
  unfold wrapFactor; split <;> simp
@[simp] theorem wrapFactor_cpr (old : BitVec 32) (f : Factor) (s : State) : (wrapFactor old f s).cpr = s.cpr := by
  unfold wrapFactor; split <;> simp
@[simp] theorem wrapFactor_xcr (old : BitVec 32) (f : Factor) (s : State) : (wrapFactor old f s).xcr = s.xcr := by
  unfold wrapFactor; split <;> simp
@[simp] theorem wrapFactor_cbm (old : BitVec 32) (f : Factor) (s : State) : (wrapFactor old f s).cbm = s.cbm := by
  unfold wrapFactor; split <;> simp
@[simp] theorem wrapFactor_flk (old : BitVec 32) (f : Factor) (s : State) : (wrapFactor old f s).flk = s.flk := by
  unfold wrapFactor; split <;> simp
@[simp] theorem wrapFactor_scd (old : BitVec 32) (f : Factor) (s : State) : (wrapFactor old f s).scd = s.scd := by
  unfold wrapFactor; split <;> simp
@[simp] theorem wrapFactor_ccr (old : BitVec 32) (f : Factor) (s : State) : (wrapFactor old f s).ccr = s.ccr := by
  unfold wrapFactor; split <;> simp
@[simp] theorem wrapFactor_lvc (old : BitVec 32) (f : Factor) (s : State) : (wrapFactor old f s).lvc = s.lvc := by
  unfold wrapFactor; split <;> simp
@[simp] theorem wrapFactor_pending (old : BitVec 32) (f : Factor) (s : State) : (wrapFactor old f s).pending = s.pending := by
  unfold wrapFactor; split <;> simp
@[simp] theorem wrapFactor_mge_requests (old : BitVec 32) (f : Factor) (s : State) : (wrapFactor old f s).mge.requests = s.mge.requests := by
  unfold wrapFactor; split <;> simp
@[simp] theorem wrapFactor_mge_resetPending (old : BitVec 32) (f : Factor) (s : State) : (wrapFactor old f s).mge.resetPending = s.mge.resetPending := by
  unfold wrapFactor; split <;> simp
@[simp] theorem wrapFactor_mge_resetDue (old : BitVec 32) (f : Factor) (s : State) : (wrapFactor old f s).mge.resetDue = s.mge.resetDue := by
  unfold wrapFactor; split <;> simp
@[simp] theorem wrapFactor_mge_dropped (old : BitVec 32) (f : Factor) (s : State) : (wrapFactor old f s).mge.dropped = s.mge.dropped := by
  unfold wrapFactor; split <;> simp
@[simp] theorem wrapFactor_evu_enables (old : BitVec 32) (f : Factor) (s : State) : (wrapFactor old f s).evu.enables = s.evu.enables := by
  unfold wrapFactor; split <;> simp
@[simp] theorem wrapFactor_evu_notice (old : BitVec 32) (f : Factor) (s : State) : (wrapFactor old f s).evu.notice = s.evu.notice := by
  unfold wrapFactor; split <;> simp
@[simp] theorem wrapFactor_evu_reported (old : BitVec 32) (f : Factor) (s : State) : (wrapFactor old f s).evu.reported = s.evu.reported := by
  unfold wrapFactor; split <;> simp
@[simp] theorem wrapFactor_port (old : BitVec 32) (f : Factor) (s : State) (q : PortIx) : (wrapFactor old f s).port q = s.port q := by
  unfold wrapFactor; split <;> simp
@[simp] theorem wrapFactor_exposures (old : BitVec 32) (f : Factor) (s : State) (q : PortIx) : (wrapFactor old f s).exposures q = s.exposures q := by
  unfold wrapFactor; split <;> simp
@[simp] theorem wrapFactor_stage (old : BitVec 32) (f : Factor) (s : State) (q : PortIx) : (wrapFactor old f s).stage q = s.stage q := by
  unfold wrapFactor; split <;> simp
@[simp] theorem wrapFactor_sensor (old : BitVec 32) (f : Factor) (s : State) (k : SensorIx) : (wrapFactor old f s).sensor k = s.sensor k := by
  unfold wrapFactor; split <;> simp
@[simp] theorem wrapFactor_planEntry (old : BitVec 32) (f : Factor) (s : State) (k : PlanIx) : (wrapFactor old f s).planEntry k = s.planEntry k := by
  unfold wrapFactor; split <;> simp
@[simp] theorem wrapFactor_stream (old : BitVec 32) (f : Factor) (s : State) (k : StreamIx) : (wrapFactor old f s).stream k = s.stream k := by
  unfold wrapFactor; split <;> simp
@[simp] theorem wrapFactor_wiresOf (old : BitVec 32) (f : Factor) (s : State) (q : PortIx) : (wrapFactor old f s).wiresOf q = s.wiresOf q := by
  unfold wrapFactor; split <;> simp
@[simp] theorem wrapFactor_finePos (old : BitVec 32) (f : Factor) (s : State) : (wrapFactor old f s).finePos  = s.finePos  := by
  unfold wrapFactor; split <;> simp
@[simp] theorem wrapFactor_lineTime (old : BitVec 32) (f : Factor) (s : State) : (wrapFactor old f s).lineTime  = s.lineTime  := by
  unfold wrapFactor; split <;> simp
@[simp] theorem wrapFactor_freeCount (old : BitVec 32) (f : Factor) (s : State) : (wrapFactor old f s).freeCount  = s.freeCount  := by
  unfold wrapFactor; split <;> simp
@[simp] theorem wrapFactor_tracking (old : BitVec 32) (f : Factor) (s : State) : (wrapFactor old f s).tracking  = s.tracking  := by
  unfold wrapFactor; split <;> simp
@[simp] theorem wrapFactor_responses (old : BitVec 32) (f : Factor) (s : State) : (wrapFactor old f s).responses  = s.responses  := by
  unfold wrapFactor; split <;> simp

/-! ### Counters -/

theorem countBpt_raised (old : BitVec 32) (upd : Bpt → BitVec 32 → Bpt) (s : State) : Raised (wrapsAt old .bptWrap) s (countBpt old upd s) := by
  have h := wrapFactor_raised old .bptWrap { s with bpt := upd s.bpt (old + 1) }
  exact h.congr rfl rfl rfl rfl
@[simp] theorem countBpt_bpt (old : BitVec 32) (upd : Bpt → BitVec 32 → Bpt) (s : State) : (countBpt old upd s).bpt = upd s.bpt (old + 1) := by
  simp [countBpt]
@[simp] theorem countBpt_trq (old : BitVec 32) (upd : Bpt → BitVec 32 → Bpt) (s : State) : (countBpt old upd s).trq = s.trq := by
  simp [countBpt]
@[simp] theorem countBpt_cpr (old : BitVec 32) (upd : Bpt → BitVec 32 → Bpt) (s : State) : (countBpt old upd s).cpr = s.cpr := by
  simp [countBpt]
@[simp] theorem countBpt_xcr (old : BitVec 32) (upd : Bpt → BitVec 32 → Bpt) (s : State) : (countBpt old upd s).xcr = s.xcr := by
  simp [countBpt]
@[simp] theorem countBpt_cbm (old : BitVec 32) (upd : Bpt → BitVec 32 → Bpt) (s : State) : (countBpt old upd s).cbm = s.cbm := by
  simp [countBpt]
@[simp] theorem countBpt_flk (old : BitVec 32) (upd : Bpt → BitVec 32 → Bpt) (s : State) : (countBpt old upd s).flk = s.flk := by
  simp [countBpt]
@[simp] theorem countBpt_scd (old : BitVec 32) (upd : Bpt → BitVec 32 → Bpt) (s : State) : (countBpt old upd s).scd = s.scd := by
  simp [countBpt]
@[simp] theorem countBpt_ccr (old : BitVec 32) (upd : Bpt → BitVec 32 → Bpt) (s : State) : (countBpt old upd s).ccr = s.ccr := by
  simp [countBpt]
@[simp] theorem countBpt_lvc (old : BitVec 32) (upd : Bpt → BitVec 32 → Bpt) (s : State) : (countBpt old upd s).lvc = s.lvc := by
  simp [countBpt]
@[simp] theorem countBpt_pending (old : BitVec 32) (upd : Bpt → BitVec 32 → Bpt) (s : State) : (countBpt old upd s).pending = s.pending := by
  simp [countBpt]
@[simp] theorem countBpt_mge_requests (old : BitVec 32) (upd : Bpt → BitVec 32 → Bpt) (s : State) : (countBpt old upd s).mge.requests = s.mge.requests := by
  simp [countBpt]
@[simp] theorem countBpt_mge_resetPending (old : BitVec 32) (upd : Bpt → BitVec 32 → Bpt) (s : State) : (countBpt old upd s).mge.resetPending = s.mge.resetPending := by
  simp [countBpt]
@[simp] theorem countBpt_mge_resetDue (old : BitVec 32) (upd : Bpt → BitVec 32 → Bpt) (s : State) : (countBpt old upd s).mge.resetDue = s.mge.resetDue := by
  simp [countBpt]
@[simp] theorem countBpt_mge_dropped (old : BitVec 32) (upd : Bpt → BitVec 32 → Bpt) (s : State) : (countBpt old upd s).mge.dropped = s.mge.dropped := by
  simp [countBpt]
@[simp] theorem countBpt_evu_enables (old : BitVec 32) (upd : Bpt → BitVec 32 → Bpt) (s : State) : (countBpt old upd s).evu.enables = s.evu.enables := by
  simp [countBpt]
@[simp] theorem countBpt_evu_notice (old : BitVec 32) (upd : Bpt → BitVec 32 → Bpt) (s : State) : (countBpt old upd s).evu.notice = s.evu.notice := by
  simp [countBpt]
@[simp] theorem countBpt_evu_reported (old : BitVec 32) (upd : Bpt → BitVec 32 → Bpt) (s : State) : (countBpt old upd s).evu.reported = s.evu.reported := by
  simp [countBpt]
@[simp] theorem countBpt_port (old : BitVec 32) (upd : Bpt → BitVec 32 → Bpt) (s : State) (q : PortIx) : (countBpt old upd s).port q = s.port q :=
  (wrapFactor_port _ _ _ _).trans rfl
@[simp] theorem countBpt_exposures (old : BitVec 32) (upd : Bpt → BitVec 32 → Bpt) (s : State) (q : PortIx) : (countBpt old upd s).exposures q = s.exposures q :=
  (wrapFactor_exposures _ _ _ _).trans rfl
@[simp] theorem countBpt_stage (old : BitVec 32) (upd : Bpt → BitVec 32 → Bpt) (s : State) (q : PortIx) : (countBpt old upd s).stage q = s.stage q :=
  (wrapFactor_stage _ _ _ _).trans rfl
@[simp] theorem countBpt_sensor (old : BitVec 32) (upd : Bpt → BitVec 32 → Bpt) (s : State) (k : SensorIx) : (countBpt old upd s).sensor k = s.sensor k :=
  (wrapFactor_sensor _ _ _ _).trans rfl
@[simp] theorem countBpt_planEntry (old : BitVec 32) (upd : Bpt → BitVec 32 → Bpt) (s : State) (k : PlanIx) : (countBpt old upd s).planEntry k = s.planEntry k :=
  (wrapFactor_planEntry _ _ _ _).trans rfl
@[simp] theorem countBpt_stream (old : BitVec 32) (upd : Bpt → BitVec 32 → Bpt) (s : State) (k : StreamIx) : (countBpt old upd s).stream k = s.stream k :=
  (wrapFactor_stream _ _ _ _).trans rfl
@[simp] theorem countBpt_wiresOf (old : BitVec 32) (upd : Bpt → BitVec 32 → Bpt) (s : State) (q : PortIx) : (countBpt old upd s).wiresOf q = s.wiresOf q :=
  (wrapFactor_wiresOf _ _ _ _).trans rfl
@[simp] theorem countBpt_freeCount (old : BitVec 32) (upd : Bpt → BitVec 32 → Bpt) (s : State) : (countBpt old upd s).freeCount  = s.freeCount  :=
  (wrapFactor_freeCount _ _ _).trans rfl
@[simp] theorem countBpt_tracking (old : BitVec 32) (upd : Bpt → BitVec 32 → Bpt) (s : State) : (countBpt old upd s).tracking  = s.tracking  :=
  (wrapFactor_tracking _ _ _).trans rfl
@[simp] theorem countBpt_responses (old : BitVec 32) (upd : Bpt → BitVec 32 → Bpt) (s : State) : (countBpt old upd s).responses  = s.responses  :=
  (wrapFactor_responses _ _ _).trans rfl
theorem countTrq_raised (old : BitVec 32) (upd : Trq → BitVec 32 → Trq) (s : State) : Raised (wrapsAt old .trqWrap) s (countTrq old upd s) := by
  have h := wrapFactor_raised old .trqWrap { s with trq := upd s.trq (old + 1) }
  exact h.congr rfl rfl rfl rfl
@[simp] theorem countTrq_bpt (old : BitVec 32) (upd : Trq → BitVec 32 → Trq) (s : State) : (countTrq old upd s).bpt = s.bpt := by
  simp [countTrq]
@[simp] theorem countTrq_trq (old : BitVec 32) (upd : Trq → BitVec 32 → Trq) (s : State) : (countTrq old upd s).trq = upd s.trq (old + 1) := by
  simp [countTrq]
@[simp] theorem countTrq_cpr (old : BitVec 32) (upd : Trq → BitVec 32 → Trq) (s : State) : (countTrq old upd s).cpr = s.cpr := by
  simp [countTrq]
@[simp] theorem countTrq_xcr (old : BitVec 32) (upd : Trq → BitVec 32 → Trq) (s : State) : (countTrq old upd s).xcr = s.xcr := by
  simp [countTrq]
@[simp] theorem countTrq_cbm (old : BitVec 32) (upd : Trq → BitVec 32 → Trq) (s : State) : (countTrq old upd s).cbm = s.cbm := by
  simp [countTrq]
@[simp] theorem countTrq_flk (old : BitVec 32) (upd : Trq → BitVec 32 → Trq) (s : State) : (countTrq old upd s).flk = s.flk := by
  simp [countTrq]
@[simp] theorem countTrq_scd (old : BitVec 32) (upd : Trq → BitVec 32 → Trq) (s : State) : (countTrq old upd s).scd = s.scd := by
  simp [countTrq]
@[simp] theorem countTrq_ccr (old : BitVec 32) (upd : Trq → BitVec 32 → Trq) (s : State) : (countTrq old upd s).ccr = s.ccr := by
  simp [countTrq]
@[simp] theorem countTrq_lvc (old : BitVec 32) (upd : Trq → BitVec 32 → Trq) (s : State) : (countTrq old upd s).lvc = s.lvc := by
  simp [countTrq]
@[simp] theorem countTrq_pending (old : BitVec 32) (upd : Trq → BitVec 32 → Trq) (s : State) : (countTrq old upd s).pending = s.pending := by
  simp [countTrq]
@[simp] theorem countTrq_mge_requests (old : BitVec 32) (upd : Trq → BitVec 32 → Trq) (s : State) : (countTrq old upd s).mge.requests = s.mge.requests := by
  simp [countTrq]
@[simp] theorem countTrq_mge_resetPending (old : BitVec 32) (upd : Trq → BitVec 32 → Trq) (s : State) : (countTrq old upd s).mge.resetPending = s.mge.resetPending := by
  simp [countTrq]
@[simp] theorem countTrq_mge_resetDue (old : BitVec 32) (upd : Trq → BitVec 32 → Trq) (s : State) : (countTrq old upd s).mge.resetDue = s.mge.resetDue := by
  simp [countTrq]
@[simp] theorem countTrq_mge_dropped (old : BitVec 32) (upd : Trq → BitVec 32 → Trq) (s : State) : (countTrq old upd s).mge.dropped = s.mge.dropped := by
  simp [countTrq]
@[simp] theorem countTrq_evu_enables (old : BitVec 32) (upd : Trq → BitVec 32 → Trq) (s : State) : (countTrq old upd s).evu.enables = s.evu.enables := by
  simp [countTrq]
@[simp] theorem countTrq_evu_notice (old : BitVec 32) (upd : Trq → BitVec 32 → Trq) (s : State) : (countTrq old upd s).evu.notice = s.evu.notice := by
  simp [countTrq]
@[simp] theorem countTrq_evu_reported (old : BitVec 32) (upd : Trq → BitVec 32 → Trq) (s : State) : (countTrq old upd s).evu.reported = s.evu.reported := by
  simp [countTrq]
@[simp] theorem countTrq_port (old : BitVec 32) (upd : Trq → BitVec 32 → Trq) (s : State) (q : PortIx) : (countTrq old upd s).port q = s.port q :=
  (wrapFactor_port _ _ _ _).trans rfl
@[simp] theorem countTrq_exposures (old : BitVec 32) (upd : Trq → BitVec 32 → Trq) (s : State) (q : PortIx) : (countTrq old upd s).exposures q = s.exposures q :=
  (wrapFactor_exposures _ _ _ _).trans rfl
@[simp] theorem countTrq_stream (old : BitVec 32) (upd : Trq → BitVec 32 → Trq) (s : State) (k : StreamIx) : (countTrq old upd s).stream k = s.stream k :=
  (wrapFactor_stream _ _ _ _).trans rfl
@[simp] theorem countTrq_wiresOf (old : BitVec 32) (upd : Trq → BitVec 32 → Trq) (s : State) (q : PortIx) : (countTrq old upd s).wiresOf q = s.wiresOf q :=
  (wrapFactor_wiresOf _ _ _ _).trans rfl
@[simp] theorem countTrq_finePos (old : BitVec 32) (upd : Trq → BitVec 32 → Trq) (s : State) : (countTrq old upd s).finePos  = s.finePos  :=
  (wrapFactor_finePos _ _ _).trans rfl
@[simp] theorem countTrq_lineTime (old : BitVec 32) (upd : Trq → BitVec 32 → Trq) (s : State) : (countTrq old upd s).lineTime  = s.lineTime  :=
  (wrapFactor_lineTime _ _ _).trans rfl
@[simp] theorem countTrq_freeCount (old : BitVec 32) (upd : Trq → BitVec 32 → Trq) (s : State) : (countTrq old upd s).freeCount  = s.freeCount  :=
  (wrapFactor_freeCount _ _ _).trans rfl
@[simp] theorem countTrq_tracking (old : BitVec 32) (upd : Trq → BitVec 32 → Trq) (s : State) : (countTrq old upd s).tracking  = s.tracking  :=
  (wrapFactor_tracking _ _ _).trans rfl
@[simp] theorem countTrq_responses (old : BitVec 32) (upd : Trq → BitVec 32 → Trq) (s : State) : (countTrq old upd s).responses  = s.responses  :=
  (wrapFactor_responses _ _ _).trans rfl
theorem countFlk_raised (old : BitVec 32) (upd : Flk → BitVec 32 → Flk) (s : State) : Raised (wrapsAt old .flkWrap) s (countFlk old upd s) := by
  have h := wrapFactor_raised old .flkWrap { s with flk := upd s.flk (old + 1) }
  exact h.congr rfl rfl rfl rfl
@[simp] theorem countFlk_bpt (old : BitVec 32) (upd : Flk → BitVec 32 → Flk) (s : State) : (countFlk old upd s).bpt = s.bpt := by
  simp [countFlk]
@[simp] theorem countFlk_trq (old : BitVec 32) (upd : Flk → BitVec 32 → Flk) (s : State) : (countFlk old upd s).trq = s.trq := by
  simp [countFlk]
@[simp] theorem countFlk_cpr (old : BitVec 32) (upd : Flk → BitVec 32 → Flk) (s : State) : (countFlk old upd s).cpr = s.cpr := by
  simp [countFlk]
@[simp] theorem countFlk_xcr (old : BitVec 32) (upd : Flk → BitVec 32 → Flk) (s : State) : (countFlk old upd s).xcr = s.xcr := by
  simp [countFlk]
@[simp] theorem countFlk_cbm (old : BitVec 32) (upd : Flk → BitVec 32 → Flk) (s : State) : (countFlk old upd s).cbm = s.cbm := by
  simp [countFlk]
@[simp] theorem countFlk_flk (old : BitVec 32) (upd : Flk → BitVec 32 → Flk) (s : State) : (countFlk old upd s).flk = upd s.flk (old + 1) := by
  simp [countFlk]
@[simp] theorem countFlk_scd (old : BitVec 32) (upd : Flk → BitVec 32 → Flk) (s : State) : (countFlk old upd s).scd = s.scd := by
  simp [countFlk]
@[simp] theorem countFlk_ccr (old : BitVec 32) (upd : Flk → BitVec 32 → Flk) (s : State) : (countFlk old upd s).ccr = s.ccr := by
  simp [countFlk]
@[simp] theorem countFlk_lvc (old : BitVec 32) (upd : Flk → BitVec 32 → Flk) (s : State) : (countFlk old upd s).lvc = s.lvc := by
  simp [countFlk]
@[simp] theorem countFlk_pending (old : BitVec 32) (upd : Flk → BitVec 32 → Flk) (s : State) : (countFlk old upd s).pending = s.pending := by
  simp [countFlk]
@[simp] theorem countFlk_mge_requests (old : BitVec 32) (upd : Flk → BitVec 32 → Flk) (s : State) : (countFlk old upd s).mge.requests = s.mge.requests := by
  simp [countFlk]
@[simp] theorem countFlk_mge_resetPending (old : BitVec 32) (upd : Flk → BitVec 32 → Flk) (s : State) : (countFlk old upd s).mge.resetPending = s.mge.resetPending := by
  simp [countFlk]
@[simp] theorem countFlk_mge_resetDue (old : BitVec 32) (upd : Flk → BitVec 32 → Flk) (s : State) : (countFlk old upd s).mge.resetDue = s.mge.resetDue := by
  simp [countFlk]
@[simp] theorem countFlk_mge_dropped (old : BitVec 32) (upd : Flk → BitVec 32 → Flk) (s : State) : (countFlk old upd s).mge.dropped = s.mge.dropped := by
  simp [countFlk]
@[simp] theorem countFlk_evu_enables (old : BitVec 32) (upd : Flk → BitVec 32 → Flk) (s : State) : (countFlk old upd s).evu.enables = s.evu.enables := by
  simp [countFlk]
@[simp] theorem countFlk_evu_notice (old : BitVec 32) (upd : Flk → BitVec 32 → Flk) (s : State) : (countFlk old upd s).evu.notice = s.evu.notice := by
  simp [countFlk]
@[simp] theorem countFlk_evu_reported (old : BitVec 32) (upd : Flk → BitVec 32 → Flk) (s : State) : (countFlk old upd s).evu.reported = s.evu.reported := by
  simp [countFlk]
@[simp] theorem countFlk_port (old : BitVec 32) (upd : Flk → BitVec 32 → Flk) (s : State) (q : PortIx) : (countFlk old upd s).port q = s.port q :=
  (wrapFactor_port _ _ _ _).trans rfl
@[simp] theorem countFlk_exposures (old : BitVec 32) (upd : Flk → BitVec 32 → Flk) (s : State) (q : PortIx) : (countFlk old upd s).exposures q = s.exposures q :=
  (wrapFactor_exposures _ _ _ _).trans rfl
@[simp] theorem countFlk_stage (old : BitVec 32) (upd : Flk → BitVec 32 → Flk) (s : State) (q : PortIx) : (countFlk old upd s).stage q = s.stage q :=
  (wrapFactor_stage _ _ _ _).trans rfl
@[simp] theorem countFlk_sensor (old : BitVec 32) (upd : Flk → BitVec 32 → Flk) (s : State) (k : SensorIx) : (countFlk old upd s).sensor k = s.sensor k :=
  (wrapFactor_sensor _ _ _ _).trans rfl
@[simp] theorem countFlk_planEntry (old : BitVec 32) (upd : Flk → BitVec 32 → Flk) (s : State) (k : PlanIx) : (countFlk old upd s).planEntry k = s.planEntry k :=
  (wrapFactor_planEntry _ _ _ _).trans rfl
@[simp] theorem countFlk_stream (old : BitVec 32) (upd : Flk → BitVec 32 → Flk) (s : State) (k : StreamIx) : (countFlk old upd s).stream k = s.stream k :=
  (wrapFactor_stream _ _ _ _).trans rfl
@[simp] theorem countFlk_wiresOf (old : BitVec 32) (upd : Flk → BitVec 32 → Flk) (s : State) (q : PortIx) : (countFlk old upd s).wiresOf q = s.wiresOf q :=
  (wrapFactor_wiresOf _ _ _ _).trans rfl
@[simp] theorem countFlk_finePos (old : BitVec 32) (upd : Flk → BitVec 32 → Flk) (s : State) : (countFlk old upd s).finePos  = s.finePos  :=
  (wrapFactor_finePos _ _ _).trans rfl
@[simp] theorem countFlk_lineTime (old : BitVec 32) (upd : Flk → BitVec 32 → Flk) (s : State) : (countFlk old upd s).lineTime  = s.lineTime  :=
  (wrapFactor_lineTime _ _ _).trans rfl
@[simp] theorem countFlk_freeCount (old : BitVec 32) (upd : Flk → BitVec 32 → Flk) (s : State) : (countFlk old upd s).freeCount  = s.freeCount  :=
  (wrapFactor_freeCount _ _ _).trans rfl
@[simp] theorem countFlk_tracking (old : BitVec 32) (upd : Flk → BitVec 32 → Flk) (s : State) : (countFlk old upd s).tracking  = s.tracking  :=
  (wrapFactor_tracking _ _ _).trans rfl
@[simp] theorem countFlk_responses (old : BitVec 32) (upd : Flk → BitVec 32 → Flk) (s : State) : (countFlk old upd s).responses  = s.responses  :=
  (wrapFactor_responses _ _ _).trans rfl
theorem countPort_raised (p : PortIx) (get : Port → BitVec 32) (upd : Port → BitVec 32 → Port) (s : State) : Raised (wrapsAt (get (s.port p)) (.camWrap p)) s (countPort p get upd s) := by
  have h := wrapFactor_raised (get (s.port p)) (.camWrap p) (s.setPort p (upd (s.port p) (get (s.port p) + 1)))
  exact h.congr rfl rfl rfl rfl
@[simp] theorem countPort_bpt (p : PortIx) (get : Port → BitVec 32) (upd : Port → BitVec 32 → Port) (s : State) : (countPort p get upd s).bpt = s.bpt := by
  simp [countPort]
@[simp] theorem countPort_trq (p : PortIx) (get : Port → BitVec 32) (upd : Port → BitVec 32 → Port) (s : State) : (countPort p get upd s).trq = s.trq := by
  simp [countPort]
@[simp] theorem countPort_cpr (p : PortIx) (get : Port → BitVec 32) (upd : Port → BitVec 32 → Port) (s : State) : (countPort p get upd s).cpr = s.cpr.set p (upd (s.port p) (get (s.port p) + 1)) := by
  simp [countPort]
@[simp] theorem countPort_xcr (p : PortIx) (get : Port → BitVec 32) (upd : Port → BitVec 32 → Port) (s : State) : (countPort p get upd s).xcr = s.xcr := by
  simp [countPort]
@[simp] theorem countPort_cbm (p : PortIx) (get : Port → BitVec 32) (upd : Port → BitVec 32 → Port) (s : State) : (countPort p get upd s).cbm = s.cbm := by
  simp [countPort]
@[simp] theorem countPort_flk (p : PortIx) (get : Port → BitVec 32) (upd : Port → BitVec 32 → Port) (s : State) : (countPort p get upd s).flk = s.flk := by
  simp [countPort]
@[simp] theorem countPort_scd (p : PortIx) (get : Port → BitVec 32) (upd : Port → BitVec 32 → Port) (s : State) : (countPort p get upd s).scd = s.scd := by
  simp [countPort]
@[simp] theorem countPort_ccr (p : PortIx) (get : Port → BitVec 32) (upd : Port → BitVec 32 → Port) (s : State) : (countPort p get upd s).ccr = s.ccr := by
  simp [countPort]
@[simp] theorem countPort_lvc (p : PortIx) (get : Port → BitVec 32) (upd : Port → BitVec 32 → Port) (s : State) : (countPort p get upd s).lvc = s.lvc := by
  simp [countPort]
@[simp] theorem countPort_pending (p : PortIx) (get : Port → BitVec 32) (upd : Port → BitVec 32 → Port) (s : State) : (countPort p get upd s).pending = s.pending := by
  simp [countPort]
@[simp] theorem countPort_mge_requests (p : PortIx) (get : Port → BitVec 32) (upd : Port → BitVec 32 → Port) (s : State) : (countPort p get upd s).mge.requests = s.mge.requests := by
  simp [countPort]
@[simp] theorem countPort_mge_resetPending (p : PortIx) (get : Port → BitVec 32) (upd : Port → BitVec 32 → Port) (s : State) : (countPort p get upd s).mge.resetPending = s.mge.resetPending := by
  simp [countPort]
@[simp] theorem countPort_mge_resetDue (p : PortIx) (get : Port → BitVec 32) (upd : Port → BitVec 32 → Port) (s : State) : (countPort p get upd s).mge.resetDue = s.mge.resetDue := by
  simp [countPort]
@[simp] theorem countPort_mge_dropped (p : PortIx) (get : Port → BitVec 32) (upd : Port → BitVec 32 → Port) (s : State) : (countPort p get upd s).mge.dropped = s.mge.dropped := by
  simp [countPort]
@[simp] theorem countPort_evu_enables (p : PortIx) (get : Port → BitVec 32) (upd : Port → BitVec 32 → Port) (s : State) : (countPort p get upd s).evu.enables = s.evu.enables := by
  simp [countPort]
@[simp] theorem countPort_evu_notice (p : PortIx) (get : Port → BitVec 32) (upd : Port → BitVec 32 → Port) (s : State) : (countPort p get upd s).evu.notice = s.evu.notice := by
  simp [countPort]
@[simp] theorem countPort_evu_reported (p : PortIx) (get : Port → BitVec 32) (upd : Port → BitVec 32 → Port) (s : State) : (countPort p get upd s).evu.reported = s.evu.reported := by
  simp [countPort]
@[simp] theorem countPort_exposures (p : PortIx) (get : Port → BitVec 32) (upd : Port → BitVec 32 → Port) (s : State) (q : PortIx) : (countPort p get upd s).exposures q = s.exposures q :=
  (wrapFactor_exposures _ _ _ _).trans rfl
@[simp] theorem countPort_stage (p : PortIx) (get : Port → BitVec 32) (upd : Port → BitVec 32 → Port) (s : State) (q : PortIx) : (countPort p get upd s).stage q = s.stage q :=
  (wrapFactor_stage _ _ _ _).trans rfl
@[simp] theorem countPort_sensor (p : PortIx) (get : Port → BitVec 32) (upd : Port → BitVec 32 → Port) (s : State) (k : SensorIx) : (countPort p get upd s).sensor k = s.sensor k :=
  (wrapFactor_sensor _ _ _ _).trans rfl
@[simp] theorem countPort_planEntry (p : PortIx) (get : Port → BitVec 32) (upd : Port → BitVec 32 → Port) (s : State) (k : PlanIx) : (countPort p get upd s).planEntry k = s.planEntry k :=
  (wrapFactor_planEntry _ _ _ _).trans rfl
@[simp] theorem countPort_stream (p : PortIx) (get : Port → BitVec 32) (upd : Port → BitVec 32 → Port) (s : State) (k : StreamIx) : (countPort p get upd s).stream k = s.stream k :=
  (wrapFactor_stream _ _ _ _).trans rfl
@[simp] theorem countPort_wiresOf (p : PortIx) (get : Port → BitVec 32) (upd : Port → BitVec 32 → Port) (s : State) (q : PortIx) : (countPort p get upd s).wiresOf q = s.wiresOf q :=
  (wrapFactor_wiresOf _ _ _ _).trans rfl
@[simp] theorem countPort_finePos (p : PortIx) (get : Port → BitVec 32) (upd : Port → BitVec 32 → Port) (s : State) : (countPort p get upd s).finePos  = s.finePos  :=
  (wrapFactor_finePos _ _ _).trans rfl
@[simp] theorem countPort_lineTime (p : PortIx) (get : Port → BitVec 32) (upd : Port → BitVec 32 → Port) (s : State) : (countPort p get upd s).lineTime  = s.lineTime  :=
  (wrapFactor_lineTime _ _ _).trans rfl
@[simp] theorem countPort_freeCount (p : PortIx) (get : Port → BitVec 32) (upd : Port → BitVec 32 → Port) (s : State) : (countPort p get upd s).freeCount  = s.freeCount  :=
  (wrapFactor_freeCount _ _ _).trans rfl
@[simp] theorem countPort_tracking (p : PortIx) (get : Port → BitVec 32) (upd : Port → BitVec 32 → Port) (s : State) : (countPort p get upd s).tracking  = s.tracking  :=
  (wrapFactor_tracking _ _ _).trans rfl
@[simp] theorem countPort_responses (p : PortIx) (get : Port → BitVec 32) (upd : Port → BitVec 32 → Port) (s : State) : (countPort p get upd s).responses  = s.responses  :=
  (wrapFactor_responses _ _ _).trans rfl
theorem countStream_raised (i : StreamIx) (get : Stream → BitVec 32) (upd : Stream → BitVec 32 → Stream) (s : State) : Raised (wrapsAt (get (s.stream i)) .cbmWrap) s (countStream i get upd s) := by
  have h := wrapFactor_raised (get (s.stream i)) .cbmWrap (s.setStream i (upd (s.stream i) (get (s.stream i) + 1)))
  exact h.congr rfl rfl rfl rfl
@[simp] theorem countStream_bpt (i : StreamIx) (get : Stream → BitVec 32) (upd : Stream → BitVec 32 → Stream) (s : State) : (countStream i get upd s).bpt = s.bpt := by
  simp [countStream]
@[simp] theorem countStream_trq (i : StreamIx) (get : Stream → BitVec 32) (upd : Stream → BitVec 32 → Stream) (s : State) : (countStream i get upd s).trq = s.trq := by
  simp [countStream]
@[simp] theorem countStream_cpr (i : StreamIx) (get : Stream → BitVec 32) (upd : Stream → BitVec 32 → Stream) (s : State) : (countStream i get upd s).cpr = s.cpr := by
  simp [countStream]
@[simp] theorem countStream_xcr (i : StreamIx) (get : Stream → BitVec 32) (upd : Stream → BitVec 32 → Stream) (s : State) : (countStream i get upd s).xcr = s.xcr := by
  simp [countStream]
@[simp] theorem countStream_cbm (i : StreamIx) (get : Stream → BitVec 32) (upd : Stream → BitVec 32 → Stream) (s : State) : (countStream i get upd s).cbm = { s.cbm with streams := s.cbm.streams.set i (upd (s.stream i) (get (s.stream i) + 1)) } := by
  simp [countStream, State.setStream]
@[simp] theorem countStream_flk (i : StreamIx) (get : Stream → BitVec 32) (upd : Stream → BitVec 32 → Stream) (s : State) : (countStream i get upd s).flk = s.flk := by
  simp [countStream]
@[simp] theorem countStream_scd (i : StreamIx) (get : Stream → BitVec 32) (upd : Stream → BitVec 32 → Stream) (s : State) : (countStream i get upd s).scd = s.scd := by
  simp [countStream]
@[simp] theorem countStream_ccr (i : StreamIx) (get : Stream → BitVec 32) (upd : Stream → BitVec 32 → Stream) (s : State) : (countStream i get upd s).ccr = s.ccr := by
  simp [countStream]
@[simp] theorem countStream_lvc (i : StreamIx) (get : Stream → BitVec 32) (upd : Stream → BitVec 32 → Stream) (s : State) : (countStream i get upd s).lvc = s.lvc := by
  simp [countStream]
@[simp] theorem countStream_pending (i : StreamIx) (get : Stream → BitVec 32) (upd : Stream → BitVec 32 → Stream) (s : State) : (countStream i get upd s).pending = s.pending := by
  simp [countStream]
@[simp] theorem countStream_mge_requests (i : StreamIx) (get : Stream → BitVec 32) (upd : Stream → BitVec 32 → Stream) (s : State) : (countStream i get upd s).mge.requests = s.mge.requests := by
  simp [countStream]
@[simp] theorem countStream_mge_resetPending (i : StreamIx) (get : Stream → BitVec 32) (upd : Stream → BitVec 32 → Stream) (s : State) : (countStream i get upd s).mge.resetPending = s.mge.resetPending := by
  simp [countStream]
@[simp] theorem countStream_mge_resetDue (i : StreamIx) (get : Stream → BitVec 32) (upd : Stream → BitVec 32 → Stream) (s : State) : (countStream i get upd s).mge.resetDue = s.mge.resetDue := by
  simp [countStream]
@[simp] theorem countStream_mge_dropped (i : StreamIx) (get : Stream → BitVec 32) (upd : Stream → BitVec 32 → Stream) (s : State) : (countStream i get upd s).mge.dropped = s.mge.dropped := by
  simp [countStream]
@[simp] theorem countStream_evu_enables (i : StreamIx) (get : Stream → BitVec 32) (upd : Stream → BitVec 32 → Stream) (s : State) : (countStream i get upd s).evu.enables = s.evu.enables := by
  simp [countStream]
@[simp] theorem countStream_evu_notice (i : StreamIx) (get : Stream → BitVec 32) (upd : Stream → BitVec 32 → Stream) (s : State) : (countStream i get upd s).evu.notice = s.evu.notice := by
  simp [countStream]
@[simp] theorem countStream_evu_reported (i : StreamIx) (get : Stream → BitVec 32) (upd : Stream → BitVec 32 → Stream) (s : State) : (countStream i get upd s).evu.reported = s.evu.reported := by
  simp [countStream]
@[simp] theorem countStream_port (i : StreamIx) (get : Stream → BitVec 32) (upd : Stream → BitVec 32 → Stream) (s : State) (q : PortIx) : (countStream i get upd s).port q = s.port q :=
  (wrapFactor_port _ _ _ _).trans rfl
@[simp] theorem countStream_exposures (i : StreamIx) (get : Stream → BitVec 32) (upd : Stream → BitVec 32 → Stream) (s : State) (q : PortIx) : (countStream i get upd s).exposures q = s.exposures q :=
  (wrapFactor_exposures _ _ _ _).trans rfl
@[simp] theorem countStream_stage (i : StreamIx) (get : Stream → BitVec 32) (upd : Stream → BitVec 32 → Stream) (s : State) (q : PortIx) : (countStream i get upd s).stage q = s.stage q :=
  (wrapFactor_stage _ _ _ _).trans rfl
@[simp] theorem countStream_sensor (i : StreamIx) (get : Stream → BitVec 32) (upd : Stream → BitVec 32 → Stream) (s : State) (k : SensorIx) : (countStream i get upd s).sensor k = s.sensor k :=
  (wrapFactor_sensor _ _ _ _).trans rfl
@[simp] theorem countStream_planEntry (i : StreamIx) (get : Stream → BitVec 32) (upd : Stream → BitVec 32 → Stream) (s : State) (k : PlanIx) : (countStream i get upd s).planEntry k = s.planEntry k :=
  (wrapFactor_planEntry _ _ _ _).trans rfl
@[simp] theorem countStream_wiresOf (i : StreamIx) (get : Stream → BitVec 32) (upd : Stream → BitVec 32 → Stream) (s : State) (q : PortIx) : (countStream i get upd s).wiresOf q = s.wiresOf q :=
  (wrapFactor_wiresOf _ _ _ _).trans rfl
@[simp] theorem countStream_finePos (i : StreamIx) (get : Stream → BitVec 32) (upd : Stream → BitVec 32 → Stream) (s : State) : (countStream i get upd s).finePos  = s.finePos  :=
  (wrapFactor_finePos _ _ _).trans rfl
@[simp] theorem countStream_lineTime (i : StreamIx) (get : Stream → BitVec 32) (upd : Stream → BitVec 32 → Stream) (s : State) : (countStream i get upd s).lineTime  = s.lineTime  :=
  (wrapFactor_lineTime _ _ _).trans rfl
@[simp] theorem countStream_tracking (i : StreamIx) (get : Stream → BitVec 32) (upd : Stream → BitVec 32 → Stream) (s : State) : (countStream i get upd s).tracking  = s.tracking  :=
  (wrapFactor_tracking _ _ _).trans rfl
@[simp] theorem countStream_responses (i : StreamIx) (get : Stream → BitVec 32) (upd : Stream → BitVec 32 → Stream) (s : State) : (countStream i get upd s).responses  = s.responses  :=
  (wrapFactor_responses _ _ _).trans rfl
@[simp] theorem countPort_port_self (p : PortIx) (get : Port → BitVec 32) (upd : Port → BitVec 32 → Port) (s : State) :
    (countPort p get upd s).port p = upd (s.port p) (get (s.port p) + 1) := by
  simp [countPort]
@[simp] theorem countPort_port_ne (p : PortIx) (get : Port → BitVec 32) (upd : Port → BitVec 32 → Port) (s : State) (q : PortIx)
    (h : q ≠ p) : (countPort p get upd s).port q = s.port q := by
  simp [countPort, h]
@[simp] theorem countStream_stream_self (i : StreamIx) (get : Stream → BitVec 32) (upd : Stream → BitVec 32 → Stream) (s : State) :
    (countStream i get upd s).stream i = upd (s.stream i) (get (s.stream i) + 1) := by
  simp [countStream]
@[simp] theorem countStream_stream_ne (i : StreamIx) (get : Stream → BitVec 32) (upd : Stream → BitVec 32 → Stream) (s : State)
    (k : StreamIx) (h : k ≠ i) : (countStream i get upd s).stream k = s.stream k := by
  simp [countStream, h]
@[simp] theorem countStream_freeCount (i : StreamIx) (get : Stream → BitVec 32) (upd : Stream → BitVec 32 → Stream) (s : State) :
    (countStream i get upd s).freeCount = s.freeCount := by
  simp [countStream]

end Sys2Proof.Machine
end

