-- ==== Sys2Proof/Laws/FreeList.lean ====
section
/-! SUPPORT. The operations on runs are the operations of R89 on the free list (log 13). -/

namespace Sys2Proof.Machine

@[simp] theorem freeCells_nil : freeCells [] = [] := rfl

@[simp] theorem freeCells_cons (r : Run) (rest : List Run) : freeCells (r :: rest) = List.range' r.start r.len ++ freeCells rest := rfl

/-- The free count is the length of the free list. -/
theorem freeCountOf_eq (runs : List Run) : freeCountOf runs = (freeCells runs).length := by
  induction runs with
  | nil => rfl
  | cons r rest ih => simp only [freeCells_cons, List.length_append, List.length_range', ← ih]; rfl

/-- Taking the head of the runs takes the head of the free list. -/
theorem takeHead_some {runs rest : List Run} {i : Nat} (h : takeHead runs = some (i, rest)) : freeCells runs = i :: freeCells rest := by
  induction runs with
  | nil => simp [takeHead] at h
  | cons r t ih =>
    obtain ⟨start, len⟩ := r
    match len with
    | 0 => simp only [takeHead] at h; simp [ih h]
    | 1 => simp only [takeHead, Option.some.injEq, Prod.mk.injEq] at h; obtain ⟨rfl, rfl⟩ := h; simp [List.range'_succ]
    | n + 2 =>
      simp only [takeHead, Option.some.injEq, Prod.mk.injEq] at h
      obtain ⟨rfl, rfl⟩ := h
      rw [freeCells_cons, List.range'_succ]; rfl

theorem takeHead_none {runs : List Run} : takeHead runs = none ↔ freeCells runs = [] := by
  induction runs with
  | nil => simp [takeHead]
  | cons r t ih =>
    obtain ⟨start, len⟩ := r
    match len with
    | 0 => simp [takeHead, ih]
    | 1 => simp [takeHead, List.range'_succ]
    | n + 2 => simp [takeHead, List.range'_succ]

/-- Where the free list has a head, the runs give it. -/
theorem takeHead_of_cons {runs : List Run} {k : Nat} {rest : List Nat} (h : freeCells runs = k :: rest) :
    ∃ runs', takeHead runs = some (k, runs') ∧ freeCells runs' = rest := by
  cases ht : takeHead runs with
  | none => simp [takeHead_none.1 ht] at h
  | some x =>
    have e := takeHead_some ht
    rw [h] at e
    simp only [List.cons.injEq] at e
    exact ⟨x.2, by rw [e.1], e.2.symm⟩

/-- Joining at the tail of the runs joins at the tail of the free list. -/
@[simp] theorem freeCells_pushTail (runs : List Run) (i : Nat) : freeCells (pushTail runs i) = freeCells runs ++ [i] := by
  induction runs with
  | nil => simp [pushTail, List.range'_succ]
  | cons r t ih =>
    cases t with
    | nil =>
      simp only [pushTail]
      split
      · rename_i h; subst h; simp [List.range'_concat]
      · simp [List.range'_succ]
    | cons r' t' => simp only [pushTail, freeCells_cons, ih, List.append_assoc]

@[simp] theorem freeCells_pushAll (runs : List Run) (l : List Nat) : freeCells (pushAll runs l) = freeCells runs ++ l := by
  induction l generalizing runs with
  | nil => simp [pushAll]
  | cons i t ih =>
    have : pushAll runs (i :: t) = pushAll (pushTail runs i) t := rfl
    rw [this, ih]; simp

theorem freeCells_allCells : freeCells allCells = List.range 262144 := by
  simp [allCells, Config.numCells, List.range_eq_range']

/-- Every cell in ascending order but one. -/
theorem freeCells_allBut (i : Nat) : freeCells (allBut i) = (List.range 262144).filter (fun k => decide (k ≠ i)) := by
  unfold allBut
  have hcut : ∀ n m : Nat, (List.range' n m).filter (fun k => decide (k ≠ i)) =
      if n ≤ i ∧ i < n + m then List.range' n (i - n) ++ List.range' (i + 1) (n + m - (i + 1)) else List.range' n m := by
    intro n m
    induction m generalizing n with
    | zero => simp only [List.range'_zero, List.filter_nil]; split <;> first | omega | rfl
    | succ m ih =>
      rw [List.range'_succ, List.filter_cons]
      by_cases hn : n = i
      · subst hn
        simp only [ne_eq, not_true_eq_false, decide_false, Bool.false_eq_true, if_false]
        rw [ih, if_neg (by omega), if_pos (by omega)]
        simp
        omega
      · simp only [ne_eq, hn, not_false_eq_true, decide_true, if_true]
        rw [ih]
        by_cases h2 : n + 1 ≤ i ∧ i < n + 1 + m
        · rw [if_pos h2, if_pos (by omega)]
          have : i - n = (i - (n + 1)) + 1 := by omega
          rw [this, List.range'_succ, List.cons_append]
          congr 3
          omega
        · rw [if_neg h2, if_neg (by omega)]
  change _ = (List.range Config.numCells).filter _
  generalize Config.numCells = n
  rw [List.range_eq_range', hcut 0 n]
  simp only [Nat.zero_le, true_and, Nat.zero_add, Nat.sub_zero]
  by_cases h0 : i = 0
  · subst h0
    by_cases h2 : 1 < n
    · simp [freeCells, h2, Nat.lt_of_succ_lt h2]
    · have : n = 0 ∨ n = 1 := by omega
      rcases this with rfl | rfl <;> simp [freeCells]
  · rw [if_neg h0]
    by_cases h1 : i < n
    · rw [if_pos h1, Nat.min_eq_left (by omega)]
      by_cases h2 : i + 1 < n
      · rw [if_pos h2]; simp [freeCells]
      · rw [if_neg h2]
        have : n - (i + 1) = 0 := by omega
        simp [freeCells, this]
    · rw [if_neg h1, if_neg (by omega), Nat.min_eq_right (by omega)]; simp [freeCells]

end Sys2Proof.Machine
end

