-- ==== Sys2Proof/Laws/Memory.lean ====
section
/-! SUPPORT. The DRAM: every write keeps the canonical form, a read after a write, and the form at reset. -/

namespace Sys2Proof.Machine

/-! ### The canonical form -/

theorem Memory.wfFrom_mono {lo lo' : Nat} {m : List Host.Cell} (h : Memory.wfFrom lo m = true) (hl : lo' ≤ lo) :
    Memory.wfFrom lo' m = true := by
  cases m with
  | nil => rfl
  | cons c t =>
    simp only [Memory.wfFrom, Bool.and_eq_true, decide_eq_true_eq] at h ⊢
    exact ⟨⟨hl.trans h.1.1, h.1.2⟩, h.2⟩

theorem Memory.wfFrom_writeByte {lo : Nat} {m : List Host.Cell} (h : Memory.wfFrom lo m = true) (a : Nat) (v : Byte) (ha : lo ≤ a) :
    Memory.wfFrom lo (writeByte m a v) = true := by
  induction m generalizing lo with
  | nil =>
    unfold writeByte
    split
    · rfl
    · rename_i hv; simpa [Memory.wfFrom, ha] using hv
  | cons c t ih =>
    obtain ⟨x, b⟩ := c
    simp only [Memory.wfFrom, Bool.and_eq_true, decide_eq_true_eq] at h
    unfold writeByte
    split
    · rename_i hx
      split
      · simpa [Memory.wfFrom, h] using h.1.2
      · rename_i hv
        simp only [Memory.wfFrom, Bool.and_eq_true, decide_eq_true_eq]
        exact ⟨⟨ha, by simpa using hv⟩, ⟨hx, h.1.2⟩, h.2⟩
    · split
      · rename_i hx; subst hx
        split
        · exact Memory.wfFrom_mono h.2 (by omega)
        · rename_i hv
          simp only [Memory.wfFrom, Bool.and_eq_true, decide_eq_true_eq]
          exact ⟨⟨h.1.1, by simpa using hv⟩, h.2⟩
      · simp only [Memory.wfFrom, Bool.and_eq_true, decide_eq_true_eq]
        exact ⟨h.1, ih h.2 (by omega)⟩

/-- A byte write keeps the canonical form. -/
theorem Memory.wf_writeByte {m : List Host.Cell} (h : Memory.wf m = true) (a : Nat) (v : Byte) : Memory.wf (writeByte m a v) = true :=
  Memory.wfFrom_writeByte h a v (Nat.zero_le a)

theorem Memory.wf_writeBytes {m : List Host.Cell} (h : Memory.wf m = true) (a : Nat) (vs : List Byte) :
    Memory.wf (writeBytes m a vs) = true := by
  induction vs generalizing m a with
  | nil => exact h
  | cons v vs ih => exact ih (Memory.wf_writeByte h a v) (a + 1)

theorem Memory.wf_writePayload {m : List Host.Cell} (h : Memory.wf m = true) (i : Nat) (pl : List Byte) :
    Memory.wf (writePayload m i pl) = true := Memory.wf_writeBytes h _ _

theorem Memory.wf_writeWord {m : List Host.Cell} (h : Memory.wf m = true) (i n : Nat) (v : BitVec 16) :
    Memory.wf (writeWord m i n v) = true := Memory.wf_writeBytes h _ _

theorem Memory.wf_reset : Memory.wf State.reset.cbm.mem = true := rfl

/-! ### Reading -/

theorem readByte_below {lo : Nat} {m : List Host.Cell} (h : Memory.wfFrom lo m = true) {a : Nat} (ha : a < lo) : readByte m a = 0 := by
  induction m generalizing lo with
  | nil => rfl
  | cons c t ih =>
    obtain ⟨x, b⟩ := c
    simp only [Memory.wfFrom, Bool.and_eq_true, decide_eq_true_eq] at h
    unfold readByte
    rw [if_neg (by omega)]
    exact ih h.2 (by omega)

theorem readByte_writeByte_from {lo : Nat} {m : List Host.Cell} (h : Memory.wfFrom lo m = true) (a a' : Nat) (v : Byte) :
    readByte (writeByte m a v) a' = if a' = a then v else readByte m a' := by
  induction m generalizing lo with
  | nil =>
    unfold writeByte
    by_cases ha : a' = a
    · subst ha; split <;> simp_all [readByte]
    · have h' : ¬ a = a' := fun e => ha e.symm
      split <;> simp [readByte, h']
  | cons c t ih =>
    obtain ⟨x, b⟩ := c
    simp only [Memory.wfFrom, Bool.and_eq_true, decide_eq_true_eq] at h
    unfold writeByte
    split
    · rename_i hx
      split
      · rename_i hv
        split
        · rename_i ha; subst ha
          rw [hv]; exact readByte_below (lo := x) (by simpa [Memory.wfFrom, h] using h.1.2) hx
        · rfl
      · rename_i hv
        by_cases ha : a' = a
        · simp [readByte, ha]
        · rw [if_neg ha]; conv_lhs => unfold readByte
          rw [if_neg (fun e => ha e.symm)]
    · split
      · rename_i hx; subst hx
        split
        · rename_i hv
          split
          · rename_i ha; subst ha; rw [hv]; exact readByte_below h.2 (by omega)
          · rename_i ha; conv_rhs => unfold readByte
            rw [if_neg (fun e => ha e.symm)]
        · by_cases ha : a' = a
          · simp [readByte, ha]
          · rw [if_neg ha]; unfold readByte; rw [if_neg (fun e => ha e.symm), if_neg (fun e => ha e.symm)]
      · rename_i hx1 hx2
        conv_lhs => unfold readByte
        conv_rhs => unfold readByte
        rw [ih h.2]
        by_cases hxa : x = a'
        · subst hxa; simp [Ne.symm hx2]
        · simp [hxa]

/-- A read after a write of one byte. -/
theorem readByte_writeByte {m : List Host.Cell} (h : Memory.wf m = true) (a a' : Nat) (v : Byte) :
    readByte (writeByte m a v) a' = if a' = a then v else readByte m a' := readByte_writeByte_from h a a' v

/-- A read after a write of consecutive bytes. -/
theorem readByte_writeBytes {m : List Host.Cell} (h : Memory.wf m = true) (a a' : Nat) (vs : List Byte) :
    readByte (writeBytes m a vs) a' = if a ≤ a' ∧ a' < a + vs.length then vs.getD (a' - a) 0 else readByte m a' := by
  induction vs generalizing m a with
  | nil => simp only [writeBytes, List.length_nil]; rw [if_neg (by omega)]
  | cons v vs ih =>
    unfold writeBytes
    rw [ih (Memory.wf_writeByte h a v), readByte_writeByte h]
    by_cases h1 : a' = a
    · subst h1; simp
    · by_cases h2 : a + 1 ≤ a' ∧ a' < a + 1 + vs.length
      · rw [if_pos h2, if_pos (by simp; omega)]
        have : a' - a = (a' - (a + 1)) + 1 := by omega
        rw [this, List.getD_cons_succ]
      · rw [if_neg h2, if_neg h1, if_neg (by simp; omega)]

@[simp] theorem padPayload_length (pl : List Byte) : (padPayload pl).length = 56 := by simp [padPayload]

/-- A read after a payload is written: the payload's bytes, then zeros, and elsewhere what was there. -/
theorem readByte_writePayload {m : List Host.Cell} (h : Memory.wf m = true) (i : Nat) (pl : List Byte) (a : Nat) :
    readByte (writePayload m i pl) a =
      if 64 * i + 8 ≤ a ∧ a < 64 * i + 64 then (padPayload pl).getD (a - (64 * i + 8)) 0 else readByte m a := by
  unfold writePayload payloadAddr
  rw [readByte_writeBytes h, padPayload_length, Nat.mul_comm i 64]

/-- A read after a DATA word is written (R118). -/
theorem readByte_writeWord {m : List Host.Cell} (h : Memory.wf m = true) (i n : Nat) (v : BitVec 16) (a : Nat) :
    readByte (writeWord m i n v) a =
      if a = 64 * i + 8 + 2 * n then v.extractLsb' 8 8
      else if a = 64 * i + 8 + 2 * n + 1 then v.extractLsb' 0 8
      else readByte m a := by
  unfold writeWord payloadAddr
  rw [readByte_writeBytes h, Nat.mul_comm i 64]
  have e : be 2 v.toNat = [v.extractLsb' 8 8, v.extractLsb' 0 8] := by
    simp only [be, List.cons.injEq, and_true]
    constructor <;> apply BitVec.eq_of_toNat_eq <;> simp [BitVec.extractLsb']
  rw [e]
  simp only [List.length_cons, List.length_nil]
  by_cases h1 : a = 64 * i + 8 + 2 * n
  · subst h1; simp
  · rw [if_neg h1]
    by_cases h2 : a = 64 * i + 8 + 2 * n + 1
    · subst h2
      rw [if_pos (by omega), if_pos rfl]
      have : 64 * i + 8 + 2 * n + 1 - (64 * i + 8 + 2 * n) = 1 := by omega
      rw [this]; rfl
    · rw [if_neg h2, if_neg (by omega)]

theorem readBytes_eq (m : List Host.Cell) (a n : Nat) : readBytes m a n = (List.range n).map (fun k => readByte m (a + k)) := by
  induction n generalizing a with
  | zero => rfl
  | succ n ih =>
    rw [readBytes, ih, List.range_succ_eq_map]
    simp [Function.comp_def, Nat.add_assoc, Nat.add_comm 1]

end Sys2Proof.Machine
end

