-- ==== Sys2Proof/Laws/Ops.lean ====
section
/-! SUPPORT. Equality of states by their named reads, writes that meet, and the filters. -/

namespace Sys2Proof.Machine

/-! ### Equality by the named reads -/

theorem cpr_ext {s t : State} (h : ∀ p, s.port p = t.port p) : s.cpr = t.cpr :=
  Vector.ext (fun i hi => h ⟨i, hi⟩)

theorem xcr_ext {s t : State} (h : ∀ p, s.exposures p = t.exposures p) : s.xcr = t.xcr := by
  have : s.xcr.lists = t.xcr.lists := Vector.ext (fun i hi => h ⟨i, hi⟩)
  show Xcr.mk s.xcr.lists = Xcr.mk t.xcr.lists
  rw [this]

theorem stages_ext {s t : State} (h : ∀ p, s.stage p = t.stage p) : s.trq.stages = t.trq.stages :=
  Vector.ext (fun i hi => h ⟨i, hi⟩)

theorem sensors_ext {s t : State} (h : ∀ n, s.sensor n = t.sensor n) : s.trq.sensors = t.trq.sensors :=
  Vector.ext (fun i hi => h ⟨i, hi⟩)

theorem plan_ext {s t : State} (h : ∀ n, s.planEntry n = t.planEntry n) : s.trq.plan = t.trq.plan :=
  Vector.ext (fun i hi => h ⟨i, hi⟩)

theorem streams_ext {s t : State} (h : ∀ i, s.stream i = t.stream i) : s.cbm.streams = t.cbm.streams :=
  Vector.ext (fun i hi => h ⟨i, hi⟩)

theorem wires_ext {s t : State} (h : ∀ p, s.wiresOf p = t.wiresOf p) : s.ccr.wires = t.ccr.wires :=
  Vector.ext (fun i hi => h ⟨i, hi⟩)

theorem cbm_ext {s t : State} (mem : s.cbm.mem = t.cbm.mem) (free : s.cbm.free = t.cbm.free) (reserved : s.cbm.reserved = t.cbm.reserved)
    (streams : ∀ i, s.stream i = t.stream i) : s.cbm = t.cbm := by
  have h := streams_ext streams
  show Cbm.mk s.cbm.mem s.cbm.free s.cbm.reserved s.cbm.streams = Cbm.mk t.cbm.mem t.cbm.free t.cbm.reserved t.cbm.streams
  rw [mem, free, reserved, h]

/-- Two states are equal when their blocks are. -/
theorem State.ext_blocks {s t : State} (bpt : s.bpt = t.bpt) (trq : s.trq = t.trq) (cpr : s.cpr = t.cpr) (xcr : s.xcr = t.xcr)
    (cbm : s.cbm = t.cbm) (flk : s.flk = t.flk) (scd : s.scd = t.scd) (mge : s.mge = t.mge) (ccr : s.ccr = t.ccr) (evu : s.evu = t.evu)
    (lvc : s.lvc = t.lvc) (pending : s.pending = t.pending) : s = t := by
  cases s; cases t; simp_all

/-- Two states are equal when their named reads are. -/
theorem State.ext_reads {s t : State} (bpt : s.bpt = t.bpt) (trq : s.trq = t.trq) (port : ∀ p, s.port p = t.port p)
    (exposures : ∀ p, s.exposures p = t.exposures p) (mem : s.cbm.mem = t.cbm.mem) (free : s.cbm.free = t.cbm.free)
    (reserved : s.cbm.reserved = t.cbm.reserved) (stream : ∀ i, s.stream i = t.stream i) (flk : s.flk = t.flk) (scd : s.scd = t.scd)
    (mge : s.mge = t.mge) (ccr : s.ccr = t.ccr) (evu : s.evu = t.evu) (lvc : s.lvc = t.lvc) (pending : s.pending = t.pending) : s = t :=
  State.ext_blocks bpt trq (cpr_ext port) (xcr_ext exposures) (cbm_ext mem free reserved stream) flk scd mge ccr evu lvc pending

/-! ### A state with another's reports -/

@[simp] theorem withReportsOf_bpt (t s : State) : (t.withReportsOf s).bpt = t.bpt := rfl
@[simp] theorem withReportsOf_trq (t s : State) : (t.withReportsOf s).trq = t.trq := rfl
@[simp] theorem withReportsOf_cpr (t s : State) : (t.withReportsOf s).cpr = t.cpr := rfl
@[simp] theorem withReportsOf_xcr (t s : State) : (t.withReportsOf s).xcr = t.xcr := rfl
@[simp] theorem withReportsOf_cbm (t s : State) : (t.withReportsOf s).cbm = t.cbm := rfl
@[simp] theorem withReportsOf_flk (t s : State) : (t.withReportsOf s).flk = t.flk := rfl
@[simp] theorem withReportsOf_scd (t s : State) : (t.withReportsOf s).scd = t.scd := rfl
@[simp] theorem withReportsOf_mge (t s : State) : (t.withReportsOf s).mge = s.mge := rfl
@[simp] theorem withReportsOf_ccr (t s : State) : (t.withReportsOf s).ccr = t.ccr := rfl
@[simp] theorem withReportsOf_evu (t s : State) : (t.withReportsOf s).evu = s.evu := rfl
@[simp] theorem withReportsOf_lvc (t s : State) : (t.withReportsOf s).lvc = t.lvc := rfl
@[simp] theorem withReportsOf_pending (t s : State) : (t.withReportsOf s).pending = t.pending := rfl
@[simp] theorem withReportsOf_port (t s : State) (p : PortIx) : (t.withReportsOf s).port p = t.port p := rfl
@[simp] theorem withReportsOf_exposures (t s : State) (p : PortIx) : (t.withReportsOf s).exposures p = t.exposures p := rfl
@[simp] theorem withReportsOf_stage (t s : State) (p : PortIx) : (t.withReportsOf s).stage p = t.stage p := rfl
@[simp] theorem withReportsOf_sensor (t s : State) (n : SensorIx) : (t.withReportsOf s).sensor n = t.sensor n := rfl
@[simp] theorem withReportsOf_planEntry (t s : State) (i : PlanIx) : (t.withReportsOf s).planEntry i = t.planEntry i := rfl
@[simp] theorem withReportsOf_stream (t s : State) (i : StreamIx) : (t.withReportsOf s).stream i = t.stream i := rfl
@[simp] theorem withReportsOf_wiresOf (t s : State) (p : PortIx) : (t.withReportsOf s).wiresOf p = t.wiresOf p := rfl

/-! ### Writes that meet -/

@[simp] theorem State.setPort_setPort (s : State) (p : PortIx) (x y : Port) : (s.setPort p x).setPort p y = s.setPort p y := by
  simp [State.setPort]
@[simp] theorem State.setPort_self (s : State) (p : PortIx) : s.setPort p (s.port p) = s := by
  simp [State.setPort, State.port]
@[simp] theorem State.setStream_setStream (s : State) (i : StreamIx) (x y : Stream) :
    (s.setStream i x).setStream i y = s.setStream i y := by
  simp [State.setStream]
@[simp] theorem State.setStream_self (s : State) (i : StreamIx) : s.setStream i (s.stream i) = s := by
  simp [State.setStream, State.stream]
@[simp] theorem State.setExposures_setExposures (s : State) (p : PortIx) (x y : List Exposure) :
    (s.setExposures p x).setExposures p y = s.setExposures p y := by
  simp [State.setExposures]
@[simp] theorem State.setExposures_self (s : State) (p : PortIx) : s.setExposures p (s.exposures p) = s := by
  simp [State.setExposures, State.exposures]
@[simp] theorem State.setStage_setStage (s : State) (p : PortIx) (x y : Stage) : (s.setStage p x).setStage p y = s.setStage p y := by
  simp [State.setStage]
@[simp] theorem State.setStage_self (s : State) (p : PortIx) : s.setStage p (s.stage p) = s := by
  simp [State.setStage, State.stage]
@[simp] theorem State.setSensor_setSensor (s : State) (n : SensorIx) (x y : Sensor) :
    (s.setSensor n x).setSensor n y = s.setSensor n y := by
  simp [State.setSensor]
@[simp] theorem State.setSensor_self (s : State) (n : SensorIx) : s.setSensor n (s.sensor n) = s := by
  simp [State.setSensor, State.sensor]
@[simp] theorem State.setTrigQueue_setTrigQueue (s : State) (q r : List TrigEntry) : (s.setTrigQueue q).setTrigQueue r = s.setTrigQueue r := rfl
@[simp] theorem State.setTrigQueue_self (s : State) : s.setTrigQueue s.trq.queue = s := rfl
@[simp] theorem State.setWires_setWires (s : State) (p : PortIx) (v w : Wires) : (s.setWires p v).setWires p w = s.setWires p w := by
  simp [State.setWires]
@[simp] theorem State.setEngine_setEngine (s : State) (x y : Option Txn) : (s.setEngine x).setEngine y = s.setEngine y := rfl
@[simp] theorem State.setEngine_setWires (s : State) (x : Option Txn) (p : PortIx) (w : Wires) :
    (s.setEngine x).setWires p w = (s.setWires p w).setEngine x := rfl
@[simp] theorem State.setEngine_self (s : State) : s.setEngine s.ccr.engine = s := rfl

/-! ### Filters (R4) -/

theorem filterSample_same (d : Nat) (f : Filter) : filterSample d f.level f = ({ f with run := 0 }, false) := by
  simp [filterSample]

/-- A filter accepts a transition just when the sample differs from the accepted level and completes the run. -/
theorem filterSample_accepts (d : Nat) (b : Bool) (f : Filter) :
    (filterSample d b f).2 = true ↔ f.level ≠ b ∧ f.run + 1 = 2 ^ d := by
  unfold filterSample
  split
  · rename_i h; simp [h]
  · rename_i h
    split
    · rename_i hr; simp [hr]; exact fun e => h e.symm
    · rename_i hr; simp [hr]

theorem filterSample_accepted {d : Nat} {b : Bool} {f : Filter} (h : f.level ≠ b) (hr : f.run + 1 = 2 ^ d) :
    filterSample d b f = ({ level := b, run := 0 }, true) := by
  unfold filterSample
  rw [if_neg (fun e => h e.symm), if_pos hr]

end Sys2Proof.Machine
end

