-- ==== Sys2Proof/Laws/Frames.lean ====
section
/-! SUPPORT. What each operation of CBM, of the record composer and of a refused trigger leaves alone. -/

namespace Sys2Proof.Machine

/-! ### enqueue -/

@[simp] theorem enqueue_bpt (i : StreamIx) (c : QCell) (s : State) :
    (enqueue i c s).bpt = s.bpt := by
  simp [enqueue]
@[simp] theorem enqueue_finePos (i : StreamIx) (c : QCell) (s : State) :
    (enqueue i c s).finePos = s.finePos := by
  simp [enqueue]
@[simp] theorem enqueue_lineTime (i : StreamIx) (c : QCell) (s : State) :
    (enqueue i c s).lineTime = s.lineTime := by
  simp [enqueue]
@[simp] theorem enqueue_trq (i : StreamIx) (c : QCell) (s : State) :
    (enqueue i c s).trq = s.trq := by
  simp [enqueue]
@[simp] theorem enqueue_stage (i : StreamIx) (c : QCell) (s : State) (q : PortIx) :
    (enqueue i c s).stage q = s.stage q := by
  simp [enqueue]
@[simp] theorem enqueue_sensor (i : StreamIx) (c : QCell) (s : State) (k : SensorIx) :
    (enqueue i c s).sensor k = s.sensor k := by
  simp [enqueue]
@[simp] theorem enqueue_planEntry (i : StreamIx) (c : QCell) (s : State) (k : PlanIx) :
    (enqueue i c s).planEntry k = s.planEntry k := by
  simp [enqueue]
@[simp] theorem enqueue_cpr (i : StreamIx) (c : QCell) (s : State) :
    (enqueue i c s).cpr = s.cpr := by
  simp [enqueue]
@[simp] theorem enqueue_port (i : StreamIx) (c : QCell) (s : State) (q : PortIx) :
    (enqueue i c s).port q = s.port q := by
  simp [enqueue]
@[simp] theorem enqueue_xcr (i : StreamIx) (c : QCell) (s : State) :
    (enqueue i c s).xcr = s.xcr := by
  simp [enqueue]
@[simp] theorem enqueue_exposures (i : StreamIx) (c : QCell) (s : State) (q : PortIx) :
    (enqueue i c s).exposures q = s.exposures q := by
  simp [enqueue]
@[simp] theorem enqueue_flk (i : StreamIx) (c : QCell) (s : State) :
    (enqueue i c s).flk = s.flk := by
  simp [enqueue]
@[simp] theorem enqueue_scd (i : StreamIx) (c : QCell) (s : State) :
    (enqueue i c s).scd = s.scd := by
  simp [enqueue]
@[simp] theorem enqueue_ccr (i : StreamIx) (c : QCell) (s : State) :
    (enqueue i c s).ccr = s.ccr := by
  simp [enqueue]
@[simp] theorem enqueue_wiresOf (i : StreamIx) (c : QCell) (s : State) (q : PortIx) :
    (enqueue i c s).wiresOf q = s.wiresOf q := by
  simp [enqueue]
@[simp] theorem enqueue_lvc (i : StreamIx) (c : QCell) (s : State) :
    (enqueue i c s).lvc = s.lvc := by
  simp [enqueue]
@[simp] theorem enqueue_tracking (i : StreamIx) (c : QCell) (s : State) :
    (enqueue i c s).tracking = s.tracking := by
  simp [enqueue]
@[simp] theorem enqueue_pending (i : StreamIx) (c : QCell) (s : State) :
    (enqueue i c s).pending = s.pending := by
  simp [enqueue]
@[simp] theorem enqueue_mge (i : StreamIx) (c : QCell) (s : State) :
    (enqueue i c s).mge = s.mge := by
  simp [enqueue]
@[simp] theorem enqueue_responses (i : StreamIx) (c : QCell) (s : State) :
    (enqueue i c s).responses = s.responses := by
  simp [enqueue]
@[simp] theorem enqueue_evu (i : StreamIx) (c : QCell) (s : State) :
    (enqueue i c s).evu = s.evu := by
  simp [enqueue]

/-! ### closeIfDrained -/

@[simp] theorem closeIfDrained_bpt (i : StreamIx) (s : State) :
    (closeIfDrained i s).bpt = s.bpt := by
  unfold closeIfDrained; simp only []; split <;> simp
@[simp] theorem closeIfDrained_finePos (i : StreamIx) (s : State) :
    (closeIfDrained i s).finePos = s.finePos := by
  unfold closeIfDrained; simp only []; split <;> simp
@[simp] theorem closeIfDrained_lineTime (i : StreamIx) (s : State) :
    (closeIfDrained i s).lineTime = s.lineTime := by
  unfold closeIfDrained; simp only []; split <;> simp
@[simp] theorem closeIfDrained_trq (i : StreamIx) (s : State) :
    (closeIfDrained i s).trq = s.trq := by
  unfold closeIfDrained; simp only []; split <;> simp
@[simp] theorem closeIfDrained_stage (i : StreamIx) (s : State) (q : PortIx) :
    (closeIfDrained i s).stage q = s.stage q := by
  unfold closeIfDrained; simp only []; split <;> simp
@[simp] theorem closeIfDrained_sensor (i : StreamIx) (s : State) (k : SensorIx) :
    (closeIfDrained i s).sensor k = s.sensor k := by
  unfold closeIfDrained; simp only []; split <;> simp
@[simp] theorem closeIfDrained_planEntry (i : StreamIx) (s : State) (k : PlanIx) :
    (closeIfDrained i s).planEntry k = s.planEntry k := by
  unfold closeIfDrained; simp only []; split <;> simp
@[simp] theorem closeIfDrained_cpr (i : StreamIx) (s : State) :
    (closeIfDrained i s).cpr = s.cpr := by
  unfold closeIfDrained; simp only []; split <;> simp
@[simp] theorem closeIfDrained_port (i : StreamIx) (s : State) (q : PortIx) :
    (closeIfDrained i s).port q = s.port q := by
  unfold closeIfDrained; simp only []; split <;> simp
@[simp] theorem closeIfDrained_xcr (i : StreamIx) (s : State) :
    (closeIfDrained i s).xcr = s.xcr := by
  unfold closeIfDrained; simp only []; split <;> simp
@[simp] theorem closeIfDrained_exposures (i : StreamIx) (s : State) (q : PortIx) :
    (closeIfDrained i s).exposures q = s.exposures q := by
  unfold closeIfDrained; simp only []; split <;> simp
@[simp] theorem closeIfDrained_flk (i : StreamIx) (s : State) :
    (closeIfDrained i s).flk = s.flk := by
  unfold closeIfDrained; simp only []; split <;> simp
@[simp] theorem closeIfDrained_scd (i : StreamIx) (s : State) :
    (closeIfDrained i s).scd = s.scd := by
  unfold closeIfDrained; simp only []; split <;> simp
@[simp] theorem closeIfDrained_ccr (i : StreamIx) (s : State) :
    (closeIfDrained i s).ccr = s.ccr := by
  unfold closeIfDrained; simp only []; split <;> simp
@[simp] theorem closeIfDrained_wiresOf (i : StreamIx) (s : State) (q : PortIx) :
    (closeIfDrained i s).wiresOf q = s.wiresOf q := by
  unfold closeIfDrained; simp only []; split <;> simp
@[simp] theorem closeIfDrained_lvc (i : StreamIx) (s : State) :
    (closeIfDrained i s).lvc = s.lvc := by
  unfold closeIfDrained; simp only []; split <;> simp
@[simp] theorem closeIfDrained_tracking (i : StreamIx) (s : State) :
    (closeIfDrained i s).tracking = s.tracking := by
  unfold closeIfDrained; simp only []; split <;> simp
@[simp] theorem closeIfDrained_pending (i : StreamIx) (s : State) :
    (closeIfDrained i s).pending = s.pending := by
  unfold closeIfDrained; simp only []; split <;> simp
@[simp] theorem closeIfDrained_mge_requests (i : StreamIx) (s : State) :
    (closeIfDrained i s).mge.requests = s.mge.requests := by
  unfold closeIfDrained; simp only []; split <;> simp
@[simp] theorem closeIfDrained_mge_resetPending (i : StreamIx) (s : State) :
    (closeIfDrained i s).mge.resetPending = s.mge.resetPending := by
  unfold closeIfDrained; simp only []; split <;> simp
@[simp] theorem closeIfDrained_mge_resetDue (i : StreamIx) (s : State) :
    (closeIfDrained i s).mge.resetDue = s.mge.resetDue := by
  unfold closeIfDrained; simp only []; split <;> simp
@[simp] theorem closeIfDrained_mge_dropped (i : StreamIx) (s : State) :
    (closeIfDrained i s).mge.dropped = s.mge.dropped := by
  unfold closeIfDrained; simp only []; split <;> simp
@[simp] theorem closeIfDrained_evu_enables (i : StreamIx) (s : State) :
    (closeIfDrained i s).evu.enables = s.evu.enables := by
  unfold closeIfDrained; simp only []; split <;> simp
@[simp] theorem closeIfDrained_evu_notice (i : StreamIx) (s : State) :
    (closeIfDrained i s).evu.notice = s.evu.notice := by
  unfold closeIfDrained; simp only []; split <;> simp
@[simp] theorem closeIfDrained_evu_reported (i : StreamIx) (s : State) :
    (closeIfDrained i s).evu.reported = s.evu.reported := by
  unfold closeIfDrained; simp only []; split <;> simp
@[simp] theorem closeIfDrained_responses (i : StreamIx) (s : State) :
    (closeIfDrained i s).responses = s.responses := by
  unfold closeIfDrained; simp only []; split <;> simp

/-! ### closeLost -/

@[simp] theorem closeLost_bpt (i : StreamIx) (f : BitVec 8) (s : State) :
    (closeLost i f s).bpt = s.bpt := by
  unfold closeLost; simp only []; split <;> simp
@[simp] theorem closeLost_finePos (i : StreamIx) (f : BitVec 8) (s : State) :
    (closeLost i f s).finePos = s.finePos := by
  unfold closeLost; simp only []; split <;> simp
@[simp] theorem closeLost_lineTime (i : StreamIx) (f : BitVec 8) (s : State) :
    (closeLost i f s).lineTime = s.lineTime := by
  unfold closeLost; simp only []; split <;> simp
@[simp] theorem closeLost_trq (i : StreamIx) (f : BitVec 8) (s : State) :
    (closeLost i f s).trq = s.trq := by
  unfold closeLost; simp only []; split <;> simp
@[simp] theorem closeLost_stage (i : StreamIx) (f : BitVec 8) (s : State) (q : PortIx) :
    (closeLost i f s).stage q = s.stage q := by
  unfold closeLost; simp only []; split <;> simp
@[simp] theorem closeLost_sensor (i : StreamIx) (f : BitVec 8) (s : State) (k : SensorIx) :
    (closeLost i f s).sensor k = s.sensor k := by
  unfold closeLost; simp only []; split <;> simp
@[simp] theorem closeLost_planEntry (i : StreamIx) (f : BitVec 8) (s : State) (k : PlanIx) :
    (closeLost i f s).planEntry k = s.planEntry k := by
  unfold closeLost; simp only []; split <;> simp
@[simp] theorem closeLost_cpr (i : StreamIx) (f : BitVec 8) (s : State) :
    (closeLost i f s).cpr = s.cpr := by
  unfold closeLost; simp only []; split <;> simp
@[simp] theorem closeLost_port (i : StreamIx) (f : BitVec 8) (s : State) (q : PortIx) :
    (closeLost i f s).port q = s.port q := by
  unfold closeLost; simp only []; split <;> simp
@[simp] theorem closeLost_xcr (i : StreamIx) (f : BitVec 8) (s : State) :
    (closeLost i f s).xcr = s.xcr := by
  unfold closeLost; simp only []; split <;> simp
@[simp] theorem closeLost_exposures (i : StreamIx) (f : BitVec 8) (s : State) (q : PortIx) :
    (closeLost i f s).exposures q = s.exposures q := by
  unfold closeLost; simp only []; split <;> simp
@[simp] theorem closeLost_flk (i : StreamIx) (f : BitVec 8) (s : State) :
    (closeLost i f s).flk = s.flk := by
  unfold closeLost; simp only []; split <;> simp
@[simp] theorem closeLost_scd (i : StreamIx) (f : BitVec 8) (s : State) :
    (closeLost i f s).scd = s.scd := by
  unfold closeLost; simp only []; split <;> simp
@[simp] theorem closeLost_ccr (i : StreamIx) (f : BitVec 8) (s : State) :
    (closeLost i f s).ccr = s.ccr := by
  unfold closeLost; simp only []; split <;> simp
@[simp] theorem closeLost_wiresOf (i : StreamIx) (f : BitVec 8) (s : State) (q : PortIx) :
    (closeLost i f s).wiresOf q = s.wiresOf q := by
  unfold closeLost; simp only []; split <;> simp
@[simp] theorem closeLost_lvc (i : StreamIx) (f : BitVec 8) (s : State) :
    (closeLost i f s).lvc = s.lvc := by
  unfold closeLost; simp only []; split <;> simp
@[simp] theorem closeLost_tracking (i : StreamIx) (f : BitVec 8) (s : State) :
    (closeLost i f s).tracking = s.tracking := by
  unfold closeLost; simp only []; split <;> simp
@[simp] theorem closeLost_pending (i : StreamIx) (f : BitVec 8) (s : State) :
    (closeLost i f s).pending = s.pending := by
  unfold closeLost; simp only []; split <;> simp
@[simp] theorem closeLost_mge (i : StreamIx) (f : BitVec 8) (s : State) :
    (closeLost i f s).mge = s.mge := by
  unfold closeLost; simp only []; split <;> simp
@[simp] theorem closeLost_responses (i : StreamIx) (f : BitVec 8) (s : State) :
    (closeLost i f s).responses = s.responses := by
  unfold closeLost; simp only []; split <;> simp
@[simp] theorem closeLost_evu (i : StreamIx) (f : BitVec 8) (s : State) :
    (closeLost i f s).evu = s.evu := by
  unfold closeLost; simp only []; split <;> simp

/-! ### loseRecord -/

@[simp] theorem loseRecord_bpt (i : StreamIx) (f : BitVec 8) (closing : Bool) (s : State) :
    (loseRecord i f closing s).bpt = s.bpt := by
  unfold loseRecord; simp only []; split <;> simp
@[simp] theorem loseRecord_finePos (i : StreamIx) (f : BitVec 8) (closing : Bool) (s : State) :
    (loseRecord i f closing s).finePos = s.finePos := by
  unfold loseRecord; simp only []; split <;> simp
@[simp] theorem loseRecord_lineTime (i : StreamIx) (f : BitVec 8) (closing : Bool) (s : State) :
    (loseRecord i f closing s).lineTime = s.lineTime := by
  unfold loseRecord; simp only []; split <;> simp
@[simp] theorem loseRecord_trq (i : StreamIx) (f : BitVec 8) (closing : Bool) (s : State) :
    (loseRecord i f closing s).trq = s.trq := by
  unfold loseRecord; simp only []; split <;> simp
@[simp] theorem loseRecord_stage (i : StreamIx) (f : BitVec 8) (closing : Bool) (s : State) (q : PortIx) :
    (loseRecord i f closing s).stage q = s.stage q := by
  unfold loseRecord; simp only []; split <;> simp
@[simp] theorem loseRecord_sensor (i : StreamIx) (f : BitVec 8) (closing : Bool) (s : State) (k : SensorIx) :
    (loseRecord i f closing s).sensor k = s.sensor k := by
  unfold loseRecord; simp only []; split <;> simp
@[simp] theorem loseRecord_planEntry (i : StreamIx) (f : BitVec 8) (closing : Bool) (s : State) (k : PlanIx) :
    (loseRecord i f closing s).planEntry k = s.planEntry k := by
  unfold loseRecord; simp only []; split <;> simp
@[simp] theorem loseRecord_cpr (i : StreamIx) (f : BitVec 8) (closing : Bool) (s : State) :
    (loseRecord i f closing s).cpr = s.cpr := by
  unfold loseRecord; simp only []; split <;> simp
@[simp] theorem loseRecord_port (i : StreamIx) (f : BitVec 8) (closing : Bool) (s : State) (q : PortIx) :
    (loseRecord i f closing s).port q = s.port q := by
  unfold loseRecord; simp only []; split <;> simp
@[simp] theorem loseRecord_xcr (i : StreamIx) (f : BitVec 8) (closing : Bool) (s : State) :
    (loseRecord i f closing s).xcr = s.xcr := by
  unfold loseRecord; simp only []; split <;> simp
@[simp] theorem loseRecord_exposures (i : StreamIx) (f : BitVec 8) (closing : Bool) (s : State) (q : PortIx) :
    (loseRecord i f closing s).exposures q = s.exposures q := by
  unfold loseRecord; simp only []; split <;> simp
@[simp] theorem loseRecord_flk (i : StreamIx) (f : BitVec 8) (closing : Bool) (s : State) :
    (loseRecord i f closing s).flk = s.flk := by
  unfold loseRecord; simp only []; split <;> simp
@[simp] theorem loseRecord_scd (i : StreamIx) (f : BitVec 8) (closing : Bool) (s : State) :
    (loseRecord i f closing s).scd = s.scd := by
  unfold loseRecord; simp only []; split <;> simp
@[simp] theorem loseRecord_ccr (i : StreamIx) (f : BitVec 8) (closing : Bool) (s : State) :
    (loseRecord i f closing s).ccr = s.ccr := by
  unfold loseRecord; simp only []; split <;> simp
@[simp] theorem loseRecord_wiresOf (i : StreamIx) (f : BitVec 8) (closing : Bool) (s : State) (q : PortIx) :
    (loseRecord i f closing s).wiresOf q = s.wiresOf q := by
  unfold loseRecord; simp only []; split <;> simp
@[simp] theorem loseRecord_lvc (i : StreamIx) (f : BitVec 8) (closing : Bool) (s : State) :
    (loseRecord i f closing s).lvc = s.lvc := by
  unfold loseRecord; simp only []; split <;> simp
@[simp] theorem loseRecord_tracking (i : StreamIx) (f : BitVec 8) (closing : Bool) (s : State) :
    (loseRecord i f closing s).tracking = s.tracking := by
  unfold loseRecord; simp only []; split <;> simp
@[simp] theorem loseRecord_pending (i : StreamIx) (f : BitVec 8) (closing : Bool) (s : State) :
    (loseRecord i f closing s).pending = s.pending := by
  unfold loseRecord; simp only []; split <;> simp
@[simp] theorem loseRecord_mge_requests (i : StreamIx) (f : BitVec 8) (closing : Bool) (s : State) :
    (loseRecord i f closing s).mge.requests = s.mge.requests := by
  unfold loseRecord; simp only []; split <;> simp
@[simp] theorem loseRecord_mge_resetPending (i : StreamIx) (f : BitVec 8) (closing : Bool) (s : State) :
    (loseRecord i f closing s).mge.resetPending = s.mge.resetPending := by
  unfold loseRecord; simp only []; split <;> simp
@[simp] theorem loseRecord_mge_resetDue (i : StreamIx) (f : BitVec 8) (closing : Bool) (s : State) :
    (loseRecord i f closing s).mge.resetDue = s.mge.resetDue := by
  unfold loseRecord; simp only []; split <;> simp
@[simp] theorem loseRecord_mge_dropped (i : StreamIx) (f : BitVec 8) (closing : Bool) (s : State) :
    (loseRecord i f closing s).mge.dropped = s.mge.dropped := by
  unfold loseRecord; simp only []; split <;> simp
@[simp] theorem loseRecord_evu_enables (i : StreamIx) (f : BitVec 8) (closing : Bool) (s : State) :
    (loseRecord i f closing s).evu.enables = s.evu.enables := by
  unfold loseRecord; simp only []; split <;> simp
@[simp] theorem loseRecord_evu_notice (i : StreamIx) (f : BitVec 8) (closing : Bool) (s : State) :
    (loseRecord i f closing s).evu.notice = s.evu.notice := by
  unfold loseRecord; simp only []; split <;> simp
@[simp] theorem loseRecord_evu_reported (i : StreamIx) (f : BitVec 8) (closing : Bool) (s : State) :
    (loseRecord i f closing s).evu.reported = s.evu.reported := by
  unfold loseRecord; simp only []; split <;> simp
@[simp] theorem loseRecord_responses (i : StreamIx) (f : BitVec 8) (closing : Bool) (s : State) :
    (loseRecord i f closing s).responses = s.responses := by
  unfold loseRecord; simp only []; split <;> simp

/-! ### handRecord -/

@[simp] theorem handRecord_bpt (i : StreamIx) (kind : CellKind) (payload : List Byte) (f : BitVec 8) (closing : Bool) (s : State) :
    (handRecord i kind payload f closing s).bpt = s.bpt := by
  unfold handRecord; split; · split <;> simp
  · simp
@[simp] theorem handRecord_finePos (i : StreamIx) (kind : CellKind) (payload : List Byte) (f : BitVec 8) (closing : Bool) (s : State) :
    (handRecord i kind payload f closing s).finePos = s.finePos := by
  unfold handRecord; split; · split <;> simp
  · simp
@[simp] theorem handRecord_lineTime (i : StreamIx) (kind : CellKind) (payload : List Byte) (f : BitVec 8) (closing : Bool) (s : State) :
    (handRecord i kind payload f closing s).lineTime = s.lineTime := by
  unfold handRecord; split; · split <;> simp
  · simp
@[simp] theorem handRecord_trq (i : StreamIx) (kind : CellKind) (payload : List Byte) (f : BitVec 8) (closing : Bool) (s : State) :
    (handRecord i kind payload f closing s).trq = s.trq := by
  unfold handRecord; split; · split <;> simp
  · simp
@[simp] theorem handRecord_stage (i : StreamIx) (kind : CellKind) (payload : List Byte) (f : BitVec 8) (closing : Bool) (s : State) (q : PortIx) :
    (handRecord i kind payload f closing s).stage q = s.stage q := by
  unfold handRecord; split; · split <;> simp
  · simp
@[simp] theorem handRecord_sensor (i : StreamIx) (kind : CellKind) (payload : List Byte) (f : BitVec 8) (closing : Bool) (s : State) (k : SensorIx) :
    (handRecord i kind payload f closing s).sensor k = s.sensor k := by
  unfold handRecord; split; · split <;> simp
  · simp
@[simp] theorem handRecord_planEntry (i : StreamIx) (kind : CellKind) (payload : List Byte) (f : BitVec 8) (closing : Bool) (s : State) (k : PlanIx) :
    (handRecord i kind payload f closing s).planEntry k = s.planEntry k := by
  unfold handRecord; split; · split <;> simp
  · simp
@[simp] theorem handRecord_cpr (i : StreamIx) (kind : CellKind) (payload : List Byte) (f : BitVec 8) (closing : Bool) (s : State) :
    (handRecord i kind payload f closing s).cpr = s.cpr := by
  unfold handRecord; split; · split <;> simp
  · simp
@[simp] theorem handRecord_port (i : StreamIx) (kind : CellKind) (payload : List Byte) (f : BitVec 8) (closing : Bool) (s : State) (q : PortIx) :
    (handRecord i kind payload f closing s).port q = s.port q := by
  unfold handRecord; split; · split <;> simp
  · simp
@[simp] theorem handRecord_xcr (i : StreamIx) (kind : CellKind) (payload : List Byte) (f : BitVec 8) (closing : Bool) (s : State) :
    (handRecord i kind payload f closing s).xcr = s.xcr := by
  unfold handRecord; split; · split <;> simp
  · simp
@[simp] theorem handRecord_exposures (i : StreamIx) (kind : CellKind) (payload : List Byte) (f : BitVec 8) (closing : Bool) (s : State) (q : PortIx) :
    (handRecord i kind payload f closing s).exposures q = s.exposures q := by
  unfold handRecord; split; · split <;> simp
  · simp
@[simp] theorem handRecord_flk (i : StreamIx) (kind : CellKind) (payload : List Byte) (f : BitVec 8) (closing : Bool) (s : State) :
    (handRecord i kind payload f closing s).flk = s.flk := by
  unfold handRecord; split; · split <;> simp
  · simp
@[simp] theorem handRecord_scd (i : StreamIx) (kind : CellKind) (payload : List Byte) (f : BitVec 8) (closing : Bool) (s : State) :
    (handRecord i kind payload f closing s).scd = s.scd := by
  unfold handRecord; split; · split <;> simp
  · simp
@[simp] theorem handRecord_ccr (i : StreamIx) (kind : CellKind) (payload : List Byte) (f : BitVec 8) (closing : Bool) (s : State) :
    (handRecord i kind payload f closing s).ccr = s.ccr := by
  unfold handRecord; split; · split <;> simp
  · simp
@[simp] theorem handRecord_wiresOf (i : StreamIx) (kind : CellKind) (payload : List Byte) (f : BitVec 8) (closing : Bool) (s : State) (q : PortIx) :
    (handRecord i kind payload f closing s).wiresOf q = s.wiresOf q := by
  unfold handRecord; split; · split <;> simp
  · simp
@[simp] theorem handRecord_lvc (i : StreamIx) (kind : CellKind) (payload : List Byte) (f : BitVec 8) (closing : Bool) (s : State) :
    (handRecord i kind payload f closing s).lvc = s.lvc := by
  unfold handRecord; split; · split <;> simp
  · simp
@[simp] theorem handRecord_tracking (i : StreamIx) (kind : CellKind) (payload : List Byte) (f : BitVec 8) (closing : Bool) (s : State) :
    (handRecord i kind payload f closing s).tracking = s.tracking := by
  unfold handRecord; split; · split <;> simp
  · simp
@[simp] theorem handRecord_pending (i : StreamIx) (kind : CellKind) (payload : List Byte) (f : BitVec 8) (closing : Bool) (s : State) :
    (handRecord i kind payload f closing s).pending = s.pending := by
  unfold handRecord; split; · split <;> simp
  · simp
@[simp] theorem handRecord_mge_requests (i : StreamIx) (kind : CellKind) (payload : List Byte) (f : BitVec 8) (closing : Bool) (s : State) :
    (handRecord i kind payload f closing s).mge.requests = s.mge.requests := by
  unfold handRecord; split; · split <;> simp
  · simp
@[simp] theorem handRecord_mge_resetPending (i : StreamIx) (kind : CellKind) (payload : List Byte) (f : BitVec 8) (closing : Bool) (s : State) :
    (handRecord i kind payload f closing s).mge.resetPending = s.mge.resetPending := by
  unfold handRecord; split; · split <;> simp
  · simp
@[simp] theorem handRecord_mge_resetDue (i : StreamIx) (kind : CellKind) (payload : List Byte) (f : BitVec 8) (closing : Bool) (s : State) :
    (handRecord i kind payload f closing s).mge.resetDue = s.mge.resetDue := by
  unfold handRecord; split; · split <;> simp
  · simp
@[simp] theorem handRecord_mge_dropped (i : StreamIx) (kind : CellKind) (payload : List Byte) (f : BitVec 8) (closing : Bool) (s : State) :
    (handRecord i kind payload f closing s).mge.dropped = s.mge.dropped := by
  unfold handRecord; split; · split <;> simp
  · simp
@[simp] theorem handRecord_evu_enables (i : StreamIx) (kind : CellKind) (payload : List Byte) (f : BitVec 8) (closing : Bool) (s : State) :
    (handRecord i kind payload f closing s).evu.enables = s.evu.enables := by
  unfold handRecord; split; · split <;> simp
  · simp
@[simp] theorem handRecord_evu_notice (i : StreamIx) (kind : CellKind) (payload : List Byte) (f : BitVec 8) (closing : Bool) (s : State) :
    (handRecord i kind payload f closing s).evu.notice = s.evu.notice := by
  unfold handRecord; split; · split <;> simp
  · simp
@[simp] theorem handRecord_evu_reported (i : StreamIx) (kind : CellKind) (payload : List Byte) (f : BitVec 8) (closing : Bool) (s : State) :
    (handRecord i kind payload f closing s).evu.reported = s.evu.reported := by
  unfold handRecord; split; · split <;> simp
  · simp
@[simp] theorem handRecord_responses (i : StreamIx) (kind : CellKind) (payload : List Byte) (f : BitVec 8) (closing : Bool) (s : State) :
    (handRecord i kind payload f closing s).responses = s.responses := by
  unfold handRecord; split; · split <;> simp
  · simp

/-! ### grantFrame -/

@[simp] theorem grantFrame_bpt (i : StreamIx) (s : State) :
    (grantFrame i s).bpt = s.bpt := by
  simp [grantFrame]
@[simp] theorem grantFrame_finePos (i : StreamIx) (s : State) :
    (grantFrame i s).finePos = s.finePos := by
  simp [grantFrame]
@[simp] theorem grantFrame_lineTime (i : StreamIx) (s : State) :
    (grantFrame i s).lineTime = s.lineTime := by
  simp [grantFrame]
@[simp] theorem grantFrame_trq (i : StreamIx) (s : State) :
    (grantFrame i s).trq = s.trq := by
  simp [grantFrame]
@[simp] theorem grantFrame_stage (i : StreamIx) (s : State) (q : PortIx) :
    (grantFrame i s).stage q = s.stage q := by
  simp [grantFrame]
@[simp] theorem grantFrame_sensor (i : StreamIx) (s : State) (k : SensorIx) :
    (grantFrame i s).sensor k = s.sensor k := by
  simp [grantFrame]
@[simp] theorem grantFrame_planEntry (i : StreamIx) (s : State) (k : PlanIx) :
    (grantFrame i s).planEntry k = s.planEntry k := by
  simp [grantFrame]
@[simp] theorem grantFrame_cpr (i : StreamIx) (s : State) :
    (grantFrame i s).cpr = s.cpr := by
  simp [grantFrame]
@[simp] theorem grantFrame_port (i : StreamIx) (s : State) (q : PortIx) :
    (grantFrame i s).port q = s.port q := by
  simp [grantFrame]
@[simp] theorem grantFrame_xcr (i : StreamIx) (s : State) :
    (grantFrame i s).xcr = s.xcr := by
  simp [grantFrame]
@[simp] theorem grantFrame_exposures (i : StreamIx) (s : State) (q : PortIx) :
    (grantFrame i s).exposures q = s.exposures q := by
  simp [grantFrame]
@[simp] theorem grantFrame_flk (i : StreamIx) (s : State) :
    (grantFrame i s).flk = s.flk := by
  simp [grantFrame]
@[simp] theorem grantFrame_scd (i : StreamIx) (s : State) :
    (grantFrame i s).scd = s.scd := by
  simp [grantFrame]
@[simp] theorem grantFrame_ccr (i : StreamIx) (s : State) :
    (grantFrame i s).ccr = s.ccr := by
  simp [grantFrame]
@[simp] theorem grantFrame_wiresOf (i : StreamIx) (s : State) (q : PortIx) :
    (grantFrame i s).wiresOf q = s.wiresOf q := by
  simp [grantFrame]
@[simp] theorem grantFrame_lvc (i : StreamIx) (s : State) :
    (grantFrame i s).lvc = s.lvc := by
  simp [grantFrame]
@[simp] theorem grantFrame_tracking (i : StreamIx) (s : State) :
    (grantFrame i s).tracking = s.tracking := by
  simp [grantFrame]
@[simp] theorem grantFrame_pending (i : StreamIx) (s : State) :
    (grantFrame i s).pending = s.pending := by
  simp [grantFrame]
@[simp] theorem grantFrame_mge_requests (i : StreamIx) (s : State) :
    (grantFrame i s).mge.requests = s.mge.requests := by
  simp [grantFrame]
@[simp] theorem grantFrame_mge_resetPending (i : StreamIx) (s : State) :
    (grantFrame i s).mge.resetPending = s.mge.resetPending := by
  simp [grantFrame]
@[simp] theorem grantFrame_mge_resetDue (i : StreamIx) (s : State) :
    (grantFrame i s).mge.resetDue = s.mge.resetDue := by
  simp [grantFrame]
@[simp] theorem grantFrame_mge_dropped (i : StreamIx) (s : State) :
    (grantFrame i s).mge.dropped = s.mge.dropped := by
  simp [grantFrame]
@[simp] theorem grantFrame_evu_enables (i : StreamIx) (s : State) :
    (grantFrame i s).evu.enables = s.evu.enables := by
  simp [grantFrame]
@[simp] theorem grantFrame_evu_notice (i : StreamIx) (s : State) :
    (grantFrame i s).evu.notice = s.evu.notice := by
  simp [grantFrame]
@[simp] theorem grantFrame_evu_reported (i : StreamIx) (s : State) :
    (grantFrame i s).evu.reported = s.evu.reported := by
  simp [grantFrame]
@[simp] theorem grantFrame_responses (i : StreamIx) (s : State) :
    (grantFrame i s).responses = s.responses := by
  simp [grantFrame]

/-! ### countRefusal -/

@[simp] theorem countRefusal_bpt (i : StreamIx) (v : Verdict) (s : State) :
    (countRefusal i v s).bpt = s.bpt := by
  unfold countRefusal; simp only []; split <;> simp
@[simp] theorem countRefusal_finePos (i : StreamIx) (v : Verdict) (s : State) :
    (countRefusal i v s).finePos = s.finePos := by
  unfold countRefusal; simp only []; split <;> simp
@[simp] theorem countRefusal_lineTime (i : StreamIx) (v : Verdict) (s : State) :
    (countRefusal i v s).lineTime = s.lineTime := by
  unfold countRefusal; simp only []; split <;> simp
@[simp] theorem countRefusal_trq (i : StreamIx) (v : Verdict) (s : State) :
    (countRefusal i v s).trq = s.trq := by
  unfold countRefusal; simp only []; split <;> simp
@[simp] theorem countRefusal_stage (i : StreamIx) (v : Verdict) (s : State) (q : PortIx) :
    (countRefusal i v s).stage q = s.stage q := by
  unfold countRefusal; simp only []; split <;> simp
@[simp] theorem countRefusal_sensor (i : StreamIx) (v : Verdict) (s : State) (k : SensorIx) :
    (countRefusal i v s).sensor k = s.sensor k := by
  unfold countRefusal; simp only []; split <;> simp
@[simp] theorem countRefusal_planEntry (i : StreamIx) (v : Verdict) (s : State) (k : PlanIx) :
    (countRefusal i v s).planEntry k = s.planEntry k := by
  unfold countRefusal; simp only []; split <;> simp
@[simp] theorem countRefusal_cpr (i : StreamIx) (v : Verdict) (s : State) :
    (countRefusal i v s).cpr = s.cpr := by
  unfold countRefusal; simp only []; split <;> simp
@[simp] theorem countRefusal_port (i : StreamIx) (v : Verdict) (s : State) (q : PortIx) :
    (countRefusal i v s).port q = s.port q := by
  unfold countRefusal; simp only []; split <;> simp
@[simp] theorem countRefusal_xcr (i : StreamIx) (v : Verdict) (s : State) :
    (countRefusal i v s).xcr = s.xcr := by
  unfold countRefusal; simp only []; split <;> simp
@[simp] theorem countRefusal_exposures (i : StreamIx) (v : Verdict) (s : State) (q : PortIx) :
    (countRefusal i v s).exposures q = s.exposures q := by
  unfold countRefusal; simp only []; split <;> simp
@[simp] theorem countRefusal_flk (i : StreamIx) (v : Verdict) (s : State) :
    (countRefusal i v s).flk = s.flk := by
  unfold countRefusal; simp only []; split <;> simp
@[simp] theorem countRefusal_scd (i : StreamIx) (v : Verdict) (s : State) :
    (countRefusal i v s).scd = s.scd := by
  unfold countRefusal; simp only []; split <;> simp
@[simp] theorem countRefusal_ccr (i : StreamIx) (v : Verdict) (s : State) :
    (countRefusal i v s).ccr = s.ccr := by
  unfold countRefusal; simp only []; split <;> simp
@[simp] theorem countRefusal_wiresOf (i : StreamIx) (v : Verdict) (s : State) (q : PortIx) :
    (countRefusal i v s).wiresOf q = s.wiresOf q := by
  unfold countRefusal; simp only []; split <;> simp
@[simp] theorem countRefusal_lvc (i : StreamIx) (v : Verdict) (s : State) :
    (countRefusal i v s).lvc = s.lvc := by
  unfold countRefusal; simp only []; split <;> simp
@[simp] theorem countRefusal_tracking (i : StreamIx) (v : Verdict) (s : State) :
    (countRefusal i v s).tracking = s.tracking := by
  unfold countRefusal; simp only []; split <;> simp
@[simp] theorem countRefusal_pending (i : StreamIx) (v : Verdict) (s : State) :
    (countRefusal i v s).pending = s.pending := by
  unfold countRefusal; simp only []; split <;> simp
@[simp] theorem countRefusal_mge_requests (i : StreamIx) (v : Verdict) (s : State) :
    (countRefusal i v s).mge.requests = s.mge.requests := by
  unfold countRefusal; simp only []; split <;> simp
@[simp] theorem countRefusal_mge_resetPending (i : StreamIx) (v : Verdict) (s : State) :
    (countRefusal i v s).mge.resetPending = s.mge.resetPending := by
  unfold countRefusal; simp only []; split <;> simp
@[simp] theorem countRefusal_mge_resetDue (i : StreamIx) (v : Verdict) (s : State) :
    (countRefusal i v s).mge.resetDue = s.mge.resetDue := by
  unfold countRefusal; simp only []; split <;> simp
@[simp] theorem countRefusal_mge_dropped (i : StreamIx) (v : Verdict) (s : State) :
    (countRefusal i v s).mge.dropped = s.mge.dropped := by
  unfold countRefusal; simp only []; split <;> simp
@[simp] theorem countRefusal_evu_enables (i : StreamIx) (v : Verdict) (s : State) :
    (countRefusal i v s).evu.enables = s.evu.enables := by
  unfold countRefusal; simp only []; split <;> simp
@[simp] theorem countRefusal_evu_notice (i : StreamIx) (v : Verdict) (s : State) :
    (countRefusal i v s).evu.notice = s.evu.notice := by
  unfold countRefusal; simp only []; split <;> simp
@[simp] theorem countRefusal_evu_reported (i : StreamIx) (v : Verdict) (s : State) :
    (countRefusal i v s).evu.reported = s.evu.reported := by
  unfold countRefusal; simp only []; split <;> simp
@[simp] theorem countRefusal_responses (i : StreamIx) (v : Verdict) (s : State) :
    (countRefusal i v s).responses = s.responses := by
  unfold countRefusal; simp only []; split <;> simp

/-! ### issueMissing -/

@[simp] theorem issueMissing_bpt (i : StreamIx) (r : MissingRecord) (s : State) :
    (issueMissing i r s).bpt = s.bpt := by
  simp [issueMissing]
@[simp] theorem issueMissing_finePos (i : StreamIx) (r : MissingRecord) (s : State) :
    (issueMissing i r s).finePos = s.finePos := by
  simp [issueMissing]
@[simp] theorem issueMissing_lineTime (i : StreamIx) (r : MissingRecord) (s : State) :
    (issueMissing i r s).lineTime = s.lineTime := by
  simp [issueMissing]
@[simp] theorem issueMissing_trq (i : StreamIx) (r : MissingRecord) (s : State) :
    (issueMissing i r s).trq = s.trq := by
  simp [issueMissing]
@[simp] theorem issueMissing_stage (i : StreamIx) (r : MissingRecord) (s : State) (q : PortIx) :
    (issueMissing i r s).stage q = s.stage q := by
  simp [issueMissing]
@[simp] theorem issueMissing_sensor (i : StreamIx) (r : MissingRecord) (s : State) (k : SensorIx) :
    (issueMissing i r s).sensor k = s.sensor k := by
  simp [issueMissing]
@[simp] theorem issueMissing_planEntry (i : StreamIx) (r : MissingRecord) (s : State) (k : PlanIx) :
    (issueMissing i r s).planEntry k = s.planEntry k := by
  simp [issueMissing]
@[simp] theorem issueMissing_xcr (i : StreamIx) (r : MissingRecord) (s : State) :
    (issueMissing i r s).xcr = s.xcr := by
  simp [issueMissing]
@[simp] theorem issueMissing_exposures (i : StreamIx) (r : MissingRecord) (s : State) (q : PortIx) :
    (issueMissing i r s).exposures q = s.exposures q := by
  simp [issueMissing]
@[simp] theorem issueMissing_flk (i : StreamIx) (r : MissingRecord) (s : State) :
    (issueMissing i r s).flk = s.flk := by
  simp [issueMissing]
@[simp] theorem issueMissing_scd (i : StreamIx) (r : MissingRecord) (s : State) :
    (issueMissing i r s).scd = s.scd := by
  simp [issueMissing]
@[simp] theorem issueMissing_ccr (i : StreamIx) (r : MissingRecord) (s : State) :
    (issueMissing i r s).ccr = s.ccr := by
  simp [issueMissing]
@[simp] theorem issueMissing_wiresOf (i : StreamIx) (r : MissingRecord) (s : State) (q : PortIx) :
    (issueMissing i r s).wiresOf q = s.wiresOf q := by
  simp [issueMissing]
@[simp] theorem issueMissing_lvc (i : StreamIx) (r : MissingRecord) (s : State) :
    (issueMissing i r s).lvc = s.lvc := by
  simp [issueMissing]
@[simp] theorem issueMissing_tracking (i : StreamIx) (r : MissingRecord) (s : State) :
    (issueMissing i r s).tracking = s.tracking := by
  simp [issueMissing]
@[simp] theorem issueMissing_pending (i : StreamIx) (r : MissingRecord) (s : State) :
    (issueMissing i r s).pending = s.pending := by
  simp [issueMissing]
@[simp] theorem issueMissing_mge_requests (i : StreamIx) (r : MissingRecord) (s : State) :
    (issueMissing i r s).mge.requests = s.mge.requests := by
  simp [issueMissing]
@[simp] theorem issueMissing_mge_resetPending (i : StreamIx) (r : MissingRecord) (s : State) :
    (issueMissing i r s).mge.resetPending = s.mge.resetPending := by
  simp [issueMissing]
@[simp] theorem issueMissing_mge_resetDue (i : StreamIx) (r : MissingRecord) (s : State) :
    (issueMissing i r s).mge.resetDue = s.mge.resetDue := by
  simp [issueMissing]
@[simp] theorem issueMissing_mge_dropped (i : StreamIx) (r : MissingRecord) (s : State) :
    (issueMissing i r s).mge.dropped = s.mge.dropped := by
  simp [issueMissing]
@[simp] theorem issueMissing_evu_enables (i : StreamIx) (r : MissingRecord) (s : State) :
    (issueMissing i r s).evu.enables = s.evu.enables := by
  simp [issueMissing]
@[simp] theorem issueMissing_evu_notice (i : StreamIx) (r : MissingRecord) (s : State) :
    (issueMissing i r s).evu.notice = s.evu.notice := by
  simp [issueMissing]
@[simp] theorem issueMissing_evu_reported (i : StreamIx) (r : MissingRecord) (s : State) :
    (issueMissing i r s).evu.reported = s.evu.reported := by
  simp [issueMissing]
@[simp] theorem issueMissing_responses (i : StreamIx) (r : MissingRecord) (s : State) :
    (issueMissing i r s).responses = s.responses := by
  simp [issueMissing]

/-! ### closeExposure -/

@[simp] theorem closeExposure_bpt (p : PortIx) (cause : Cause) (l : LineTime) (e : Exposure) (s : State) :
    (closeExposure p cause l e s).bpt = s.bpt := by
  simp [closeExposure]
@[simp] theorem closeExposure_finePos (p : PortIx) (cause : Cause) (l : LineTime) (e : Exposure) (s : State) :
    (closeExposure p cause l e s).finePos = s.finePos := by
  simp [closeExposure]
@[simp] theorem closeExposure_lineTime (p : PortIx) (cause : Cause) (l : LineTime) (e : Exposure) (s : State) :
    (closeExposure p cause l e s).lineTime = s.lineTime := by
  simp [closeExposure]
@[simp] theorem closeExposure_trq (p : PortIx) (cause : Cause) (l : LineTime) (e : Exposure) (s : State) :
    (closeExposure p cause l e s).trq = s.trq := by
  simp [closeExposure]
@[simp] theorem closeExposure_stage (p : PortIx) (cause : Cause) (l : LineTime) (e : Exposure) (s : State) (q : PortIx) :
    (closeExposure p cause l e s).stage q = s.stage q := by
  simp [closeExposure]
@[simp] theorem closeExposure_sensor (p : PortIx) (cause : Cause) (l : LineTime) (e : Exposure) (s : State) (k : SensorIx) :
    (closeExposure p cause l e s).sensor k = s.sensor k := by
  simp [closeExposure]
@[simp] theorem closeExposure_planEntry (p : PortIx) (cause : Cause) (l : LineTime) (e : Exposure) (s : State) (k : PlanIx) :
    (closeExposure p cause l e s).planEntry k = s.planEntry k := by
  simp [closeExposure]
@[simp] theorem closeExposure_xcr (p : PortIx) (cause : Cause) (l : LineTime) (e : Exposure) (s : State) :
    (closeExposure p cause l e s).xcr = s.xcr := by
  simp [closeExposure]
@[simp] theorem closeExposure_exposures (p : PortIx) (cause : Cause) (l : LineTime) (e : Exposure) (s : State) (q : PortIx) :
    (closeExposure p cause l e s).exposures q = s.exposures q := by
  simp [closeExposure]
@[simp] theorem closeExposure_flk (p : PortIx) (cause : Cause) (l : LineTime) (e : Exposure) (s : State) :
    (closeExposure p cause l e s).flk = s.flk := by
  simp [closeExposure]
@[simp] theorem closeExposure_scd (p : PortIx) (cause : Cause) (l : LineTime) (e : Exposure) (s : State) :
    (closeExposure p cause l e s).scd = s.scd := by
  simp [closeExposure]
@[simp] theorem closeExposure_ccr (p : PortIx) (cause : Cause) (l : LineTime) (e : Exposure) (s : State) :
    (closeExposure p cause l e s).ccr = s.ccr := by
  simp [closeExposure]
@[simp] theorem closeExposure_wiresOf (p : PortIx) (cause : Cause) (l : LineTime) (e : Exposure) (s : State) (q : PortIx) :
    (closeExposure p cause l e s).wiresOf q = s.wiresOf q := by
  simp [closeExposure]
@[simp] theorem closeExposure_lvc (p : PortIx) (cause : Cause) (l : LineTime) (e : Exposure) (s : State) :
    (closeExposure p cause l e s).lvc = s.lvc := by
  simp [closeExposure]
@[simp] theorem closeExposure_tracking (p : PortIx) (cause : Cause) (l : LineTime) (e : Exposure) (s : State) :
    (closeExposure p cause l e s).tracking = s.tracking := by
  simp [closeExposure]
@[simp] theorem closeExposure_pending (p : PortIx) (cause : Cause) (l : LineTime) (e : Exposure) (s : State) :
    (closeExposure p cause l e s).pending = s.pending := by
  simp [closeExposure]
@[simp] theorem closeExposure_mge_requests (p : PortIx) (cause : Cause) (l : LineTime) (e : Exposure) (s : State) :
    (closeExposure p cause l e s).mge.requests = s.mge.requests := by
  simp [closeExposure]
@[simp] theorem closeExposure_mge_resetPending (p : PortIx) (cause : Cause) (l : LineTime) (e : Exposure) (s : State) :
    (closeExposure p cause l e s).mge.resetPending = s.mge.resetPending := by
  simp [closeExposure]
@[simp] theorem closeExposure_mge_resetDue (p : PortIx) (cause : Cause) (l : LineTime) (e : Exposure) (s : State) :
    (closeExposure p cause l e s).mge.resetDue = s.mge.resetDue := by
  simp [closeExposure]
@[simp] theorem closeExposure_mge_dropped (p : PortIx) (cause : Cause) (l : LineTime) (e : Exposure) (s : State) :
    (closeExposure p cause l e s).mge.dropped = s.mge.dropped := by
  simp [closeExposure]
@[simp] theorem closeExposure_evu_enables (p : PortIx) (cause : Cause) (l : LineTime) (e : Exposure) (s : State) :
    (closeExposure p cause l e s).evu.enables = s.evu.enables := by
  simp [closeExposure]
@[simp] theorem closeExposure_evu_notice (p : PortIx) (cause : Cause) (l : LineTime) (e : Exposure) (s : State) :
    (closeExposure p cause l e s).evu.notice = s.evu.notice := by
  simp [closeExposure]
@[simp] theorem closeExposure_evu_reported (p : PortIx) (cause : Cause) (l : LineTime) (e : Exposure) (s : State) :
    (closeExposure p cause l e s).evu.reported = s.evu.reported := by
  simp [closeExposure]
@[simp] theorem closeExposure_responses (p : PortIx) (cause : Cause) (l : LineTime) (e : Exposure) (s : State) :
    (closeExposure p cause l e s).responses = s.responses := by
  simp [closeExposure]

/-! ### issueCapture -/

@[simp] theorem issueCapture_bpt (i : StreamIx) (r : CaptureRecord) (closing : Bool) (s : State) :
    (issueCapture i r closing s).bpt = s.bpt := by
  simp [issueCapture]
@[simp] theorem issueCapture_finePos (i : StreamIx) (r : CaptureRecord) (closing : Bool) (s : State) :
    (issueCapture i r closing s).finePos = s.finePos := by
  simp [issueCapture]
@[simp] theorem issueCapture_lineTime (i : StreamIx) (r : CaptureRecord) (closing : Bool) (s : State) :
    (issueCapture i r closing s).lineTime = s.lineTime := by
  simp [issueCapture]
@[simp] theorem issueCapture_trq (i : StreamIx) (r : CaptureRecord) (closing : Bool) (s : State) :
    (issueCapture i r closing s).trq = s.trq := by
  simp [issueCapture]
@[simp] theorem issueCapture_stage (i : StreamIx) (r : CaptureRecord) (closing : Bool) (s : State) (q : PortIx) :
    (issueCapture i r closing s).stage q = s.stage q := by
  simp [issueCapture]
@[simp] theorem issueCapture_sensor (i : StreamIx) (r : CaptureRecord) (closing : Bool) (s : State) (k : SensorIx) :
    (issueCapture i r closing s).sensor k = s.sensor k := by
  simp [issueCapture]
@[simp] theorem issueCapture_planEntry (i : StreamIx) (r : CaptureRecord) (closing : Bool) (s : State) (k : PlanIx) :
    (issueCapture i r closing s).planEntry k = s.planEntry k := by
  simp [issueCapture]
@[simp] theorem issueCapture_cpr (i : StreamIx) (r : CaptureRecord) (closing : Bool) (s : State) :
    (issueCapture i r closing s).cpr = s.cpr := by
  simp [issueCapture]
@[simp] theorem issueCapture_port (i : StreamIx) (r : CaptureRecord) (closing : Bool) (s : State) (q : PortIx) :
    (issueCapture i r closing s).port q = s.port q := by
  simp [issueCapture]
@[simp] theorem issueCapture_xcr (i : StreamIx) (r : CaptureRecord) (closing : Bool) (s : State) :
    (issueCapture i r closing s).xcr = s.xcr := by
  simp [issueCapture]
@[simp] theorem issueCapture_exposures (i : StreamIx) (r : CaptureRecord) (closing : Bool) (s : State) (q : PortIx) :
    (issueCapture i r closing s).exposures q = s.exposures q := by
  simp [issueCapture]
@[simp] theorem issueCapture_flk (i : StreamIx) (r : CaptureRecord) (closing : Bool) (s : State) :
    (issueCapture i r closing s).flk = s.flk := by
  simp [issueCapture]
@[simp] theorem issueCapture_scd (i : StreamIx) (r : CaptureRecord) (closing : Bool) (s : State) :
    (issueCapture i r closing s).scd = s.scd := by
  simp [issueCapture]
@[simp] theorem issueCapture_ccr (i : StreamIx) (r : CaptureRecord) (closing : Bool) (s : State) :
    (issueCapture i r closing s).ccr = s.ccr := by
  simp [issueCapture]
@[simp] theorem issueCapture_wiresOf (i : StreamIx) (r : CaptureRecord) (closing : Bool) (s : State) (q : PortIx) :
    (issueCapture i r closing s).wiresOf q = s.wiresOf q := by
  simp [issueCapture]
@[simp] theorem issueCapture_lvc (i : StreamIx) (r : CaptureRecord) (closing : Bool) (s : State) :
    (issueCapture i r closing s).lvc = s.lvc := by
  simp [issueCapture]
@[simp] theorem issueCapture_tracking (i : StreamIx) (r : CaptureRecord) (closing : Bool) (s : State) :
    (issueCapture i r closing s).tracking = s.tracking := by
  simp [issueCapture]
@[simp] theorem issueCapture_pending (i : StreamIx) (r : CaptureRecord) (closing : Bool) (s : State) :
    (issueCapture i r closing s).pending = s.pending := by
  simp [issueCapture]
@[simp] theorem issueCapture_mge_requests (i : StreamIx) (r : CaptureRecord) (closing : Bool) (s : State) :
    (issueCapture i r closing s).mge.requests = s.mge.requests := by
  simp [issueCapture]
@[simp] theorem issueCapture_mge_resetPending (i : StreamIx) (r : CaptureRecord) (closing : Bool) (s : State) :
    (issueCapture i r closing s).mge.resetPending = s.mge.resetPending := by
  simp [issueCapture]
@[simp] theorem issueCapture_mge_resetDue (i : StreamIx) (r : CaptureRecord) (closing : Bool) (s : State) :
    (issueCapture i r closing s).mge.resetDue = s.mge.resetDue := by
  simp [issueCapture]
@[simp] theorem issueCapture_mge_dropped (i : StreamIx) (r : CaptureRecord) (closing : Bool) (s : State) :
    (issueCapture i r closing s).mge.dropped = s.mge.dropped := by
  simp [issueCapture]
@[simp] theorem issueCapture_evu_enables (i : StreamIx) (r : CaptureRecord) (closing : Bool) (s : State) :
    (issueCapture i r closing s).evu.enables = s.evu.enables := by
  simp [issueCapture]
@[simp] theorem issueCapture_evu_notice (i : StreamIx) (r : CaptureRecord) (closing : Bool) (s : State) :
    (issueCapture i r closing s).evu.notice = s.evu.notice := by
  simp [issueCapture]
@[simp] theorem issueCapture_evu_reported (i : StreamIx) (r : CaptureRecord) (closing : Bool) (s : State) :
    (issueCapture i r closing s).evu.reported = s.evu.reported := by
  simp [issueCapture]
@[simp] theorem issueCapture_responses (i : StreamIx) (r : CaptureRecord) (closing : Bool) (s : State) :
    (issueCapture i r closing s).responses = s.responses := by
  simp [issueCapture]

/-! ### State.setFrame -/

@[simp] theorem State.setFrame_bpt (p : PortIx) (f : Option FrameCtx) (s : State) : (s.setFrame p f).bpt = s.bpt := rfl
@[simp] theorem State.setFrame_finePos (p : PortIx) (f : Option FrameCtx) (s : State) : (s.setFrame p f).finePos = s.finePos := rfl
@[simp] theorem State.setFrame_lineTime (p : PortIx) (f : Option FrameCtx) (s : State) : (s.setFrame p f).lineTime = s.lineTime := rfl
@[simp] theorem State.setFrame_trq (p : PortIx) (f : Option FrameCtx) (s : State) : (s.setFrame p f).trq = s.trq := rfl
@[simp] theorem State.setFrame_stage (p : PortIx) (f : Option FrameCtx) (s : State) (q : PortIx) : (s.setFrame p f).stage q = s.stage q := rfl
@[simp] theorem State.setFrame_sensor (p : PortIx) (f : Option FrameCtx) (s : State) (k : SensorIx) : (s.setFrame p f).sensor k = s.sensor k := rfl
@[simp] theorem State.setFrame_planEntry (p : PortIx) (f : Option FrameCtx) (s : State) (k : PlanIx) : (s.setFrame p f).planEntry k = s.planEntry k := rfl
@[simp] theorem State.setFrame_xcr (p : PortIx) (f : Option FrameCtx) (s : State) : (s.setFrame p f).xcr = s.xcr := rfl
@[simp] theorem State.setFrame_exposures (p : PortIx) (f : Option FrameCtx) (s : State) (q : PortIx) : (s.setFrame p f).exposures q = s.exposures q := rfl
@[simp] theorem State.setFrame_cbm (p : PortIx) (f : Option FrameCtx) (s : State) : (s.setFrame p f).cbm = s.cbm := rfl
@[simp] theorem State.setFrame_stream (p : PortIx) (f : Option FrameCtx) (s : State) (k : StreamIx) : (s.setFrame p f).stream k = s.stream k := rfl
@[simp] theorem State.setFrame_freeCount (p : PortIx) (f : Option FrameCtx) (s : State) : (s.setFrame p f).freeCount = s.freeCount := rfl
@[simp] theorem State.setFrame_flk (p : PortIx) (f : Option FrameCtx) (s : State) : (s.setFrame p f).flk = s.flk := rfl
@[simp] theorem State.setFrame_scd (p : PortIx) (f : Option FrameCtx) (s : State) : (s.setFrame p f).scd = s.scd := rfl
@[simp] theorem State.setFrame_ccr (p : PortIx) (f : Option FrameCtx) (s : State) : (s.setFrame p f).ccr = s.ccr := rfl
@[simp] theorem State.setFrame_wiresOf (p : PortIx) (f : Option FrameCtx) (s : State) (q : PortIx) : (s.setFrame p f).wiresOf q = s.wiresOf q := rfl
@[simp] theorem State.setFrame_lvc (p : PortIx) (f : Option FrameCtx) (s : State) : (s.setFrame p f).lvc = s.lvc := rfl
@[simp] theorem State.setFrame_tracking (p : PortIx) (f : Option FrameCtx) (s : State) : (s.setFrame p f).tracking = s.tracking := rfl
@[simp] theorem State.setFrame_pending (p : PortIx) (f : Option FrameCtx) (s : State) : (s.setFrame p f).pending = s.pending := rfl
@[simp] theorem State.setFrame_mge (p : PortIx) (f : Option FrameCtx) (s : State) : (s.setFrame p f).mge = s.mge := rfl
@[simp] theorem State.setFrame_responses (p : PortIx) (f : Option FrameCtx) (s : State) : (s.setFrame p f).responses = s.responses := rfl
@[simp] theorem State.setFrame_evu (p : PortIx) (f : Option FrameCtx) (s : State) : (s.setFrame p f).evu = s.evu := rfl

/-! ### State.setPortState -/

@[simp] theorem State.setPortState_bpt (p : PortIx) (x : PortState) (s : State) : (s.setPortState p x).bpt = s.bpt := rfl
@[simp] theorem State.setPortState_finePos (p : PortIx) (x : PortState) (s : State) : (s.setPortState p x).finePos = s.finePos := rfl
@[simp] theorem State.setPortState_lineTime (p : PortIx) (x : PortState) (s : State) : (s.setPortState p x).lineTime = s.lineTime := rfl
@[simp] theorem State.setPortState_trq (p : PortIx) (x : PortState) (s : State) : (s.setPortState p x).trq = s.trq := rfl
@[simp] theorem State.setPortState_stage (p : PortIx) (x : PortState) (s : State) (q : PortIx) : (s.setPortState p x).stage q = s.stage q := rfl
@[simp] theorem State.setPortState_sensor (p : PortIx) (x : PortState) (s : State) (k : SensorIx) : (s.setPortState p x).sensor k = s.sensor k := rfl
@[simp] theorem State.setPortState_planEntry (p : PortIx) (x : PortState) (s : State) (k : PlanIx) : (s.setPortState p x).planEntry k = s.planEntry k := rfl
@[simp] theorem State.setPortState_xcr (p : PortIx) (x : PortState) (s : State) : (s.setPortState p x).xcr = s.xcr := rfl
@[simp] theorem State.setPortState_exposures (p : PortIx) (x : PortState) (s : State) (q : PortIx) : (s.setPortState p x).exposures q = s.exposures q := rfl
@[simp] theorem State.setPortState_cbm (p : PortIx) (x : PortState) (s : State) : (s.setPortState p x).cbm = s.cbm := rfl
@[simp] theorem State.setPortState_stream (p : PortIx) (x : PortState) (s : State) (k : StreamIx) : (s.setPortState p x).stream k = s.stream k := rfl
@[simp] theorem State.setPortState_freeCount (p : PortIx) (x : PortState) (s : State) : (s.setPortState p x).freeCount = s.freeCount := rfl
@[simp] theorem State.setPortState_flk (p : PortIx) (x : PortState) (s : State) : (s.setPortState p x).flk = s.flk := rfl
@[simp] theorem State.setPortState_scd (p : PortIx) (x : PortState) (s : State) : (s.setPortState p x).scd = s.scd := rfl
@[simp] theorem State.setPortState_ccr (p : PortIx) (x : PortState) (s : State) : (s.setPortState p x).ccr = s.ccr := rfl
@[simp] theorem State.setPortState_wiresOf (p : PortIx) (x : PortState) (s : State) (q : PortIx) : (s.setPortState p x).wiresOf q = s.wiresOf q := rfl
@[simp] theorem State.setPortState_lvc (p : PortIx) (x : PortState) (s : State) : (s.setPortState p x).lvc = s.lvc := rfl
@[simp] theorem State.setPortState_tracking (p : PortIx) (x : PortState) (s : State) : (s.setPortState p x).tracking = s.tracking := rfl
@[simp] theorem State.setPortState_pending (p : PortIx) (x : PortState) (s : State) : (s.setPortState p x).pending = s.pending := rfl
@[simp] theorem State.setPortState_mge (p : PortIx) (x : PortState) (s : State) : (s.setPortState p x).mge = s.mge := rfl
@[simp] theorem State.setPortState_responses (p : PortIx) (x : PortState) (s : State) : (s.setPortState p x).responses = s.responses := rfl
@[simp] theorem State.setPortState_evu (p : PortIx) (x : PortState) (s : State) : (s.setPortState p x).evu = s.evu := rfl

/-! ### commitCell -/

@[simp] theorem commitCell_bpt (p : PortIx) (last : Bool) (f : FrameCtx) (s : State) :
    (commitCell p last f s).bpt = s.bpt := by
  unfold commitCell; split <;> simp
@[simp] theorem commitCell_finePos (p : PortIx) (last : Bool) (f : FrameCtx) (s : State) :
    (commitCell p last f s).finePos = s.finePos := by
  unfold commitCell; split <;> simp
@[simp] theorem commitCell_lineTime (p : PortIx) (last : Bool) (f : FrameCtx) (s : State) :
    (commitCell p last f s).lineTime = s.lineTime := by
  unfold commitCell; split <;> simp
@[simp] theorem commitCell_trq (p : PortIx) (last : Bool) (f : FrameCtx) (s : State) :
    (commitCell p last f s).trq = s.trq := by
  unfold commitCell; split <;> simp
@[simp] theorem commitCell_stage (p : PortIx) (last : Bool) (f : FrameCtx) (s : State) (q : PortIx) :
    (commitCell p last f s).stage q = s.stage q := by
  unfold commitCell; split <;> simp
@[simp] theorem commitCell_sensor (p : PortIx) (last : Bool) (f : FrameCtx) (s : State) (k : SensorIx) :
    (commitCell p last f s).sensor k = s.sensor k := by
  unfold commitCell; split <;> simp
@[simp] theorem commitCell_planEntry (p : PortIx) (last : Bool) (f : FrameCtx) (s : State) (k : PlanIx) :
    (commitCell p last f s).planEntry k = s.planEntry k := by
  unfold commitCell; split <;> simp
@[simp] theorem commitCell_xcr (p : PortIx) (last : Bool) (f : FrameCtx) (s : State) :
    (commitCell p last f s).xcr = s.xcr := by
  unfold commitCell; split <;> simp
@[simp] theorem commitCell_exposures (p : PortIx) (last : Bool) (f : FrameCtx) (s : State) (q : PortIx) :
    (commitCell p last f s).exposures q = s.exposures q := by
  unfold commitCell; split <;> simp
@[simp] theorem commitCell_flk (p : PortIx) (last : Bool) (f : FrameCtx) (s : State) :
    (commitCell p last f s).flk = s.flk := by
  unfold commitCell; split <;> simp
@[simp] theorem commitCell_scd (p : PortIx) (last : Bool) (f : FrameCtx) (s : State) :
    (commitCell p last f s).scd = s.scd := by
  unfold commitCell; split <;> simp
@[simp] theorem commitCell_ccr (p : PortIx) (last : Bool) (f : FrameCtx) (s : State) :
    (commitCell p last f s).ccr = s.ccr := by
  unfold commitCell; split <;> simp
@[simp] theorem commitCell_wiresOf (p : PortIx) (last : Bool) (f : FrameCtx) (s : State) (q : PortIx) :
    (commitCell p last f s).wiresOf q = s.wiresOf q := by
  unfold commitCell; split <;> simp
@[simp] theorem commitCell_lvc (p : PortIx) (last : Bool) (f : FrameCtx) (s : State) :
    (commitCell p last f s).lvc = s.lvc := by
  unfold commitCell; split <;> simp
@[simp] theorem commitCell_tracking (p : PortIx) (last : Bool) (f : FrameCtx) (s : State) :
    (commitCell p last f s).tracking = s.tracking := by
  unfold commitCell; split <;> simp
@[simp] theorem commitCell_pending (p : PortIx) (last : Bool) (f : FrameCtx) (s : State) :
    (commitCell p last f s).pending = s.pending := by
  unfold commitCell; split <;> simp
@[simp] theorem commitCell_mge (p : PortIx) (last : Bool) (f : FrameCtx) (s : State) :
    (commitCell p last f s).mge = s.mge := by
  unfold commitCell; split <;> simp
@[simp] theorem commitCell_responses (p : PortIx) (last : Bool) (f : FrameCtx) (s : State) :
    (commitCell p last f s).responses = s.responses := by
  unfold commitCell; split <;> simp
@[simp] theorem commitCell_evu (p : PortIx) (last : Bool) (f : FrameCtx) (s : State) :
    (commitCell p last f s).evu = s.evu := by
  unfold commitCell; split <;> simp

/-! ### endFrameCells -/

@[simp] theorem endFrameCells_bpt (p : PortIx) (f : FrameCtx) (s : State) :
    (endFrameCells p f s).bpt = s.bpt := by
  simp [endFrameCells]
@[simp] theorem endFrameCells_finePos (p : PortIx) (f : FrameCtx) (s : State) :
    (endFrameCells p f s).finePos = s.finePos := by
  simp [endFrameCells]
@[simp] theorem endFrameCells_lineTime (p : PortIx) (f : FrameCtx) (s : State) :
    (endFrameCells p f s).lineTime = s.lineTime := by
  simp [endFrameCells]
@[simp] theorem endFrameCells_trq (p : PortIx) (f : FrameCtx) (s : State) :
    (endFrameCells p f s).trq = s.trq := by
  simp [endFrameCells]
@[simp] theorem endFrameCells_stage (p : PortIx) (f : FrameCtx) (s : State) (q : PortIx) :
    (endFrameCells p f s).stage q = s.stage q := by
  simp [endFrameCells]
@[simp] theorem endFrameCells_sensor (p : PortIx) (f : FrameCtx) (s : State) (k : SensorIx) :
    (endFrameCells p f s).sensor k = s.sensor k := by
  simp [endFrameCells]
@[simp] theorem endFrameCells_planEntry (p : PortIx) (f : FrameCtx) (s : State) (k : PlanIx) :
    (endFrameCells p f s).planEntry k = s.planEntry k := by
  simp [endFrameCells]
@[simp] theorem endFrameCells_xcr (p : PortIx) (f : FrameCtx) (s : State) :
    (endFrameCells p f s).xcr = s.xcr := by
  simp [endFrameCells]
@[simp] theorem endFrameCells_exposures (p : PortIx) (f : FrameCtx) (s : State) (q : PortIx) :
    (endFrameCells p f s).exposures q = s.exposures q := by
  simp [endFrameCells]
@[simp] theorem endFrameCells_flk (p : PortIx) (f : FrameCtx) (s : State) :
    (endFrameCells p f s).flk = s.flk := by
  simp [endFrameCells]
@[simp] theorem endFrameCells_scd (p : PortIx) (f : FrameCtx) (s : State) :
    (endFrameCells p f s).scd = s.scd := by
  simp [endFrameCells]
@[simp] theorem endFrameCells_ccr (p : PortIx) (f : FrameCtx) (s : State) :
    (endFrameCells p f s).ccr = s.ccr := by
  simp [endFrameCells]
@[simp] theorem endFrameCells_wiresOf (p : PortIx) (f : FrameCtx) (s : State) (q : PortIx) :
    (endFrameCells p f s).wiresOf q = s.wiresOf q := by
  simp [endFrameCells]
@[simp] theorem endFrameCells_lvc (p : PortIx) (f : FrameCtx) (s : State) :
    (endFrameCells p f s).lvc = s.lvc := by
  simp [endFrameCells]
@[simp] theorem endFrameCells_tracking (p : PortIx) (f : FrameCtx) (s : State) :
    (endFrameCells p f s).tracking = s.tracking := by
  simp [endFrameCells]
@[simp] theorem endFrameCells_pending (p : PortIx) (f : FrameCtx) (s : State) :
    (endFrameCells p f s).pending = s.pending := by
  simp [endFrameCells]
@[simp] theorem endFrameCells_mge (p : PortIx) (f : FrameCtx) (s : State) :
    (endFrameCells p f s).mge = s.mge := by
  simp [endFrameCells]
@[simp] theorem endFrameCells_responses (p : PortIx) (f : FrameCtx) (s : State) :
    (endFrameCells p f s).responses = s.responses := by
  simp [endFrameCells]
@[simp] theorem endFrameCells_evu (p : PortIx) (f : FrameCtx) (s : State) :
    (endFrameCells p f s).evu = s.evu := by
  simp [endFrameCells]

/-! ### finishFrame -/

@[simp] theorem finishFrame_bpt (p : PortIx) (f : FrameCtx) (s : State) :
    (finishFrame p f s).bpt = s.bpt := by
  simp [finishFrame]
@[simp] theorem finishFrame_finePos (p : PortIx) (f : FrameCtx) (s : State) :
    (finishFrame p f s).finePos = s.finePos := by
  simp [finishFrame]
@[simp] theorem finishFrame_lineTime (p : PortIx) (f : FrameCtx) (s : State) :
    (finishFrame p f s).lineTime = s.lineTime := by
  simp [finishFrame]
@[simp] theorem finishFrame_trq (p : PortIx) (f : FrameCtx) (s : State) :
    (finishFrame p f s).trq = s.trq := by
  simp [finishFrame]
@[simp] theorem finishFrame_stage (p : PortIx) (f : FrameCtx) (s : State) (q : PortIx) :
    (finishFrame p f s).stage q = s.stage q := by
  simp [finishFrame]
@[simp] theorem finishFrame_sensor (p : PortIx) (f : FrameCtx) (s : State) (k : SensorIx) :
    (finishFrame p f s).sensor k = s.sensor k := by
  simp [finishFrame]
@[simp] theorem finishFrame_planEntry (p : PortIx) (f : FrameCtx) (s : State) (k : PlanIx) :
    (finishFrame p f s).planEntry k = s.planEntry k := by
  simp [finishFrame]
@[simp] theorem finishFrame_xcr (p : PortIx) (f : FrameCtx) (s : State) :
    (finishFrame p f s).xcr = s.xcr := by
  simp [finishFrame]
@[simp] theorem finishFrame_exposures (p : PortIx) (f : FrameCtx) (s : State) (q : PortIx) :
    (finishFrame p f s).exposures q = s.exposures q := by
  simp [finishFrame]
@[simp] theorem finishFrame_flk (p : PortIx) (f : FrameCtx) (s : State) :
    (finishFrame p f s).flk = s.flk := by
  simp [finishFrame]
@[simp] theorem finishFrame_scd (p : PortIx) (f : FrameCtx) (s : State) :
    (finishFrame p f s).scd = s.scd := by
  simp [finishFrame]
@[simp] theorem finishFrame_ccr (p : PortIx) (f : FrameCtx) (s : State) :
    (finishFrame p f s).ccr = s.ccr := by
  simp [finishFrame]
@[simp] theorem finishFrame_wiresOf (p : PortIx) (f : FrameCtx) (s : State) (q : PortIx) :
    (finishFrame p f s).wiresOf q = s.wiresOf q := by
  simp [finishFrame]
@[simp] theorem finishFrame_lvc (p : PortIx) (f : FrameCtx) (s : State) :
    (finishFrame p f s).lvc = s.lvc := by
  simp [finishFrame]
@[simp] theorem finishFrame_tracking (p : PortIx) (f : FrameCtx) (s : State) :
    (finishFrame p f s).tracking = s.tracking := by
  simp [finishFrame]
@[simp] theorem finishFrame_pending (p : PortIx) (f : FrameCtx) (s : State) :
    (finishFrame p f s).pending = s.pending := by
  simp [finishFrame]
@[simp] theorem finishFrame_mge_requests (p : PortIx) (f : FrameCtx) (s : State) :
    (finishFrame p f s).mge.requests = s.mge.requests := by
  simp [finishFrame]
@[simp] theorem finishFrame_mge_resetPending (p : PortIx) (f : FrameCtx) (s : State) :
    (finishFrame p f s).mge.resetPending = s.mge.resetPending := by
  simp [finishFrame]
@[simp] theorem finishFrame_mge_resetDue (p : PortIx) (f : FrameCtx) (s : State) :
    (finishFrame p f s).mge.resetDue = s.mge.resetDue := by
  simp [finishFrame]
@[simp] theorem finishFrame_mge_dropped (p : PortIx) (f : FrameCtx) (s : State) :
    (finishFrame p f s).mge.dropped = s.mge.dropped := by
  simp [finishFrame]
@[simp] theorem finishFrame_evu_enables (p : PortIx) (f : FrameCtx) (s : State) :
    (finishFrame p f s).evu.enables = s.evu.enables := by
  simp [finishFrame]
@[simp] theorem finishFrame_evu_notice (p : PortIx) (f : FrameCtx) (s : State) :
    (finishFrame p f s).evu.notice = s.evu.notice := by
  simp [finishFrame]
@[simp] theorem finishFrame_evu_reported (p : PortIx) (f : FrameCtx) (s : State) :
    (finishFrame p f s).evu.reported = s.evu.reported := by
  simp [finishFrame]
@[simp] theorem finishFrame_responses (p : PortIx) (f : FrameCtx) (s : State) :
    (finishFrame p f s).responses = s.responses := by
  simp [finishFrame]

/-! ### abortFrame -/

@[simp] theorem abortFrame_bpt (p : PortIx) (s : State) :
    (abortFrame p s).bpt = s.bpt := by
  unfold abortFrame; split <;> simp
@[simp] theorem abortFrame_finePos (p : PortIx) (s : State) :
    (abortFrame p s).finePos = s.finePos := by
  unfold abortFrame; split <;> simp
@[simp] theorem abortFrame_lineTime (p : PortIx) (s : State) :
    (abortFrame p s).lineTime = s.lineTime := by
  unfold abortFrame; split <;> simp
@[simp] theorem abortFrame_trq (p : PortIx) (s : State) :
    (abortFrame p s).trq = s.trq := by
  unfold abortFrame; split <;> simp
@[simp] theorem abortFrame_stage (p : PortIx) (s : State) (q : PortIx) :
    (abortFrame p s).stage q = s.stage q := by
  unfold abortFrame; split <;> simp
@[simp] theorem abortFrame_sensor (p : PortIx) (s : State) (k : SensorIx) :
    (abortFrame p s).sensor k = s.sensor k := by
  unfold abortFrame; split <;> simp
@[simp] theorem abortFrame_planEntry (p : PortIx) (s : State) (k : PlanIx) :
    (abortFrame p s).planEntry k = s.planEntry k := by
  unfold abortFrame; split <;> simp
@[simp] theorem abortFrame_xcr (p : PortIx) (s : State) :
    (abortFrame p s).xcr = s.xcr := by
  unfold abortFrame; split <;> simp
@[simp] theorem abortFrame_exposures (p : PortIx) (s : State) (q : PortIx) :
    (abortFrame p s).exposures q = s.exposures q := by
  unfold abortFrame; split <;> simp
@[simp] theorem abortFrame_flk (p : PortIx) (s : State) :
    (abortFrame p s).flk = s.flk := by
  unfold abortFrame; split <;> simp
@[simp] theorem abortFrame_scd (p : PortIx) (s : State) :
    (abortFrame p s).scd = s.scd := by
  unfold abortFrame; split <;> simp
@[simp] theorem abortFrame_ccr (p : PortIx) (s : State) :
    (abortFrame p s).ccr = s.ccr := by
  unfold abortFrame; split <;> simp
@[simp] theorem abortFrame_wiresOf (p : PortIx) (s : State) (q : PortIx) :
    (abortFrame p s).wiresOf q = s.wiresOf q := by
  unfold abortFrame; split <;> simp
@[simp] theorem abortFrame_lvc (p : PortIx) (s : State) :
    (abortFrame p s).lvc = s.lvc := by
  unfold abortFrame; split <;> simp
@[simp] theorem abortFrame_tracking (p : PortIx) (s : State) :
    (abortFrame p s).tracking = s.tracking := by
  unfold abortFrame; split <;> simp
@[simp] theorem abortFrame_pending (p : PortIx) (s : State) :
    (abortFrame p s).pending = s.pending := by
  unfold abortFrame; split <;> simp
@[simp] theorem abortFrame_mge_requests (p : PortIx) (s : State) :
    (abortFrame p s).mge.requests = s.mge.requests := by
  unfold abortFrame; split <;> simp
@[simp] theorem abortFrame_mge_resetPending (p : PortIx) (s : State) :
    (abortFrame p s).mge.resetPending = s.mge.resetPending := by
  unfold abortFrame; split <;> simp
@[simp] theorem abortFrame_mge_resetDue (p : PortIx) (s : State) :
    (abortFrame p s).mge.resetDue = s.mge.resetDue := by
  unfold abortFrame; split <;> simp
@[simp] theorem abortFrame_mge_dropped (p : PortIx) (s : State) :
    (abortFrame p s).mge.dropped = s.mge.dropped := by
  unfold abortFrame; split <;> simp
@[simp] theorem abortFrame_evu_enables (p : PortIx) (s : State) :
    (abortFrame p s).evu.enables = s.evu.enables := by
  unfold abortFrame; split <;> simp
@[simp] theorem abortFrame_evu_notice (p : PortIx) (s : State) :
    (abortFrame p s).evu.notice = s.evu.notice := by
  unfold abortFrame; split <;> simp
@[simp] theorem abortFrame_evu_reported (p : PortIx) (s : State) :
    (abortFrame p s).evu.reported = s.evu.reported := by
  unfold abortFrame; split <;> simp
@[simp] theorem abortFrame_responses (p : PortIx) (s : State) :
    (abortFrame p s).responses = s.responses := by
  unfold abortFrame; split <;> simp

/-! ### streamCheck -/

@[simp] theorem streamCheck_bpt (e : TrigEntry) (s : State) :
    (streamCheck e s).bpt = s.bpt := by
  unfold streamCheck; split <;> simp
@[simp] theorem streamCheck_finePos (e : TrigEntry) (s : State) :
    (streamCheck e s).finePos = s.finePos := by
  unfold streamCheck; split <;> simp
@[simp] theorem streamCheck_lineTime (e : TrigEntry) (s : State) :
    (streamCheck e s).lineTime = s.lineTime := by
  unfold streamCheck; split <;> simp
@[simp] theorem streamCheck_trq (e : TrigEntry) (s : State) :
    (streamCheck e s).trq = s.trq := by
  unfold streamCheck; split <;> simp
@[simp] theorem streamCheck_stage (e : TrigEntry) (s : State) (q : PortIx) :
    (streamCheck e s).stage q = s.stage q := by
  unfold streamCheck; split <;> simp
@[simp] theorem streamCheck_sensor (e : TrigEntry) (s : State) (k : SensorIx) :
    (streamCheck e s).sensor k = s.sensor k := by
  unfold streamCheck; split <;> simp
@[simp] theorem streamCheck_planEntry (e : TrigEntry) (s : State) (k : PlanIx) :
    (streamCheck e s).planEntry k = s.planEntry k := by
  unfold streamCheck; split <;> simp
@[simp] theorem streamCheck_cpr (e : TrigEntry) (s : State) :
    (streamCheck e s).cpr = s.cpr := by
  unfold streamCheck; split <;> simp
@[simp] theorem streamCheck_port (e : TrigEntry) (s : State) (q : PortIx) :
    (streamCheck e s).port q = s.port q := by
  unfold streamCheck; split <;> simp
@[simp] theorem streamCheck_xcr (e : TrigEntry) (s : State) :
    (streamCheck e s).xcr = s.xcr := by
  unfold streamCheck; split <;> simp
@[simp] theorem streamCheck_exposures (e : TrigEntry) (s : State) (q : PortIx) :
    (streamCheck e s).exposures q = s.exposures q := by
  unfold streamCheck; split <;> simp
@[simp] theorem streamCheck_cbm (e : TrigEntry) (s : State) :
    (streamCheck e s).cbm = s.cbm := by
  unfold streamCheck; split <;> simp
@[simp] theorem streamCheck_stream (e : TrigEntry) (s : State) (k : StreamIx) :
    (streamCheck e s).stream k = s.stream k := by
  unfold streamCheck; split <;> simp
@[simp] theorem streamCheck_freeCount (e : TrigEntry) (s : State) :
    (streamCheck e s).freeCount = s.freeCount := by
  unfold streamCheck; split <;> simp
@[simp] theorem streamCheck_flk (e : TrigEntry) (s : State) :
    (streamCheck e s).flk = s.flk := by
  unfold streamCheck; split <;> simp
@[simp] theorem streamCheck_scd (e : TrigEntry) (s : State) :
    (streamCheck e s).scd = s.scd := by
  unfold streamCheck; split <;> simp
@[simp] theorem streamCheck_ccr (e : TrigEntry) (s : State) :
    (streamCheck e s).ccr = s.ccr := by
  unfold streamCheck; split <;> simp
@[simp] theorem streamCheck_wiresOf (e : TrigEntry) (s : State) (q : PortIx) :
    (streamCheck e s).wiresOf q = s.wiresOf q := by
  unfold streamCheck; split <;> simp
@[simp] theorem streamCheck_lvc (e : TrigEntry) (s : State) :
    (streamCheck e s).lvc = s.lvc := by
  unfold streamCheck; split <;> simp
@[simp] theorem streamCheck_tracking (e : TrigEntry) (s : State) :
    (streamCheck e s).tracking = s.tracking := by
  unfold streamCheck; split <;> simp
@[simp] theorem streamCheck_pending (e : TrigEntry) (s : State) :
    (streamCheck e s).pending = s.pending := by
  unfold streamCheck; split <;> simp
@[simp] theorem streamCheck_mge_requests (e : TrigEntry) (s : State) :
    (streamCheck e s).mge.requests = s.mge.requests := by
  unfold streamCheck; split <;> simp
@[simp] theorem streamCheck_mge_resetPending (e : TrigEntry) (s : State) :
    (streamCheck e s).mge.resetPending = s.mge.resetPending := by
  unfold streamCheck; split <;> simp
@[simp] theorem streamCheck_mge_resetDue (e : TrigEntry) (s : State) :
    (streamCheck e s).mge.resetDue = s.mge.resetDue := by
  unfold streamCheck; split <;> simp
@[simp] theorem streamCheck_mge_dropped (e : TrigEntry) (s : State) :
    (streamCheck e s).mge.dropped = s.mge.dropped := by
  unfold streamCheck; split <;> simp
@[simp] theorem streamCheck_evu_enables (e : TrigEntry) (s : State) :
    (streamCheck e s).evu.enables = s.evu.enables := by
  unfold streamCheck; split <;> simp
@[simp] theorem streamCheck_evu_notice (e : TrigEntry) (s : State) :
    (streamCheck e s).evu.notice = s.evu.notice := by
  unfold streamCheck; split <;> simp
@[simp] theorem streamCheck_evu_reported (e : TrigEntry) (s : State) :
    (streamCheck e s).evu.reported = s.evu.reported := by
  unfold streamCheck; split <;> simp
@[simp] theorem streamCheck_responses (e : TrigEntry) (s : State) :
    (streamCheck e s).responses = s.responses := by
  unfold streamCheck; split <;> simp

/-! ### failTrigger -/

@[simp] theorem failTrigger_bpt (e : TrigEntry) (i : StreamIx) (cause : Cause) (s : State) :
    (failTrigger e i cause s).bpt = s.bpt := by
  simp [failTrigger]
@[simp] theorem failTrigger_finePos (e : TrigEntry) (i : StreamIx) (cause : Cause) (s : State) :
    (failTrigger e i cause s).finePos = s.finePos := by
  simp [failTrigger]
@[simp] theorem failTrigger_lineTime (e : TrigEntry) (i : StreamIx) (cause : Cause) (s : State) :
    (failTrigger e i cause s).lineTime = s.lineTime := by
  simp [failTrigger]
@[simp] theorem failTrigger_xcr (e : TrigEntry) (i : StreamIx) (cause : Cause) (s : State) :
    (failTrigger e i cause s).xcr = s.xcr := by
  simp [failTrigger]
@[simp] theorem failTrigger_exposures (e : TrigEntry) (i : StreamIx) (cause : Cause) (s : State) (q : PortIx) :
    (failTrigger e i cause s).exposures q = s.exposures q := by
  simp [failTrigger]
@[simp] theorem failTrigger_flk (e : TrigEntry) (i : StreamIx) (cause : Cause) (s : State) :
    (failTrigger e i cause s).flk = s.flk := by
  simp [failTrigger]
@[simp] theorem failTrigger_scd (e : TrigEntry) (i : StreamIx) (cause : Cause) (s : State) :
    (failTrigger e i cause s).scd = s.scd := by
  simp [failTrigger]
@[simp] theorem failTrigger_ccr (e : TrigEntry) (i : StreamIx) (cause : Cause) (s : State) :
    (failTrigger e i cause s).ccr = s.ccr := by
  simp [failTrigger]
@[simp] theorem failTrigger_wiresOf (e : TrigEntry) (i : StreamIx) (cause : Cause) (s : State) (q : PortIx) :
    (failTrigger e i cause s).wiresOf q = s.wiresOf q := by
  simp [failTrigger]
@[simp] theorem failTrigger_lvc (e : TrigEntry) (i : StreamIx) (cause : Cause) (s : State) :
    (failTrigger e i cause s).lvc = s.lvc := by
  simp [failTrigger]
@[simp] theorem failTrigger_tracking (e : TrigEntry) (i : StreamIx) (cause : Cause) (s : State) :
    (failTrigger e i cause s).tracking = s.tracking := by
  simp [failTrigger]
@[simp] theorem failTrigger_pending (e : TrigEntry) (i : StreamIx) (cause : Cause) (s : State) :
    (failTrigger e i cause s).pending = s.pending := by
  simp [failTrigger]
@[simp] theorem failTrigger_mge_requests (e : TrigEntry) (i : StreamIx) (cause : Cause) (s : State) :
    (failTrigger e i cause s).mge.requests = s.mge.requests := by
  simp [failTrigger]
@[simp] theorem failTrigger_mge_resetPending (e : TrigEntry) (i : StreamIx) (cause : Cause) (s : State) :
    (failTrigger e i cause s).mge.resetPending = s.mge.resetPending := by
  simp [failTrigger]
@[simp] theorem failTrigger_mge_resetDue (e : TrigEntry) (i : StreamIx) (cause : Cause) (s : State) :
    (failTrigger e i cause s).mge.resetDue = s.mge.resetDue := by
  simp [failTrigger]
@[simp] theorem failTrigger_mge_dropped (e : TrigEntry) (i : StreamIx) (cause : Cause) (s : State) :
    (failTrigger e i cause s).mge.dropped = s.mge.dropped := by
  simp [failTrigger]
@[simp] theorem failTrigger_evu_enables (e : TrigEntry) (i : StreamIx) (cause : Cause) (s : State) :
    (failTrigger e i cause s).evu.enables = s.evu.enables := by
  simp [failTrigger]
@[simp] theorem failTrigger_evu_notice (e : TrigEntry) (i : StreamIx) (cause : Cause) (s : State) :
    (failTrigger e i cause s).evu.notice = s.evu.notice := by
  simp [failTrigger]
@[simp] theorem failTrigger_evu_reported (e : TrigEntry) (i : StreamIx) (cause : Cause) (s : State) :
    (failTrigger e i cause s).evu.reported = s.evu.reported := by
  simp [failTrigger]
@[simp] theorem failTrigger_responses (e : TrigEntry) (i : StreamIx) (cause : Cause) (s : State) :
    (failTrigger e i cause s).responses = s.responses := by
  simp [failTrigger]

end Sys2Proof.Machine
end

