-- ==== Sys2Proof/Laws/Buffer.lean ====
section
/-! SUPPORT. What the operations of CBM and of the record composer do. -/

namespace Sys2Proof.Machine

/-! ### A record at CBM (R99, R100) -/

@[simp] theorem enqueue_stream_self (i : StreamIx) (c : QCell) (s : State) :
    (enqueue i c s).stream i = { s.stream i with queue := (s.stream i).queue ++ [c] } := by simp [enqueue]
@[simp] theorem enqueue_stream_ne (i k : StreamIx) (c : QCell) (s : State) (h : k ≠ i) : (enqueue i c s).stream k = s.stream k := by
  simp [enqueue, h]
@[simp] theorem enqueue_mem (i : StreamIx) (c : QCell) (s : State) : (enqueue i c s).cbm.mem = s.cbm.mem := rfl
@[simp] theorem enqueue_free (i : StreamIx) (c : QCell) (s : State) : (enqueue i c s).cbm.free = s.cbm.free := rfl
@[simp] theorem enqueue_reserved (i : StreamIx) (c : QCell) (s : State) : (enqueue i c s).cbm.reserved = s.cbm.reserved := rfl
@[simp] theorem enqueue_freeCount (i : StreamIx) (c : QCell) (s : State) : (enqueue i c s).freeCount = s.freeCount := rfl

@[simp] theorem closeLost_mem (i : StreamIx) (f : BitVec 8) (s : State) : (closeLost i f s).cbm.mem = s.cbm.mem := by
  unfold closeLost; simp only []; split <;> simp
@[simp] theorem closeLost_free (i : StreamIx) (f : BitVec 8) (s : State) : (closeLost i f s).cbm.free = s.cbm.free := by
  unfold closeLost; simp only []; split <;> simp
@[simp] theorem closeLost_reserved (i : StreamIx) (f : BitVec 8) (s : State) : (closeLost i f s).cbm.reserved = s.cbm.reserved := by
  unfold closeLost; simp only []; split <;> simp
@[simp] theorem closeLost_freeCount (i : StreamIx) (f : BitVec 8) (s : State) : (closeLost i f s).freeCount = s.freeCount := by
  unfold closeLost; simp only []; split <;> simp
@[simp] theorem closeLost_stream_ne (i k : StreamIx) (f : BitVec 8) (s : State) (h : k ≠ i) : (closeLost i f s).stream k = s.stream k := by
  unfold closeLost; simp only []; split <;> simp [h]
@[simp] theorem closeLost_recordsLost (i : StreamIx) (f : BitVec 8) (s : State) :
    ((closeLost i f s).stream i).recordsLost = (s.stream i).recordsLost := by
  unfold closeLost; simp only []; split <;> simp

/-- The raising of a lost record: the counter with its wrap, and CBM.RECORD_LOST. -/
theorem loseRecord_raised (i : StreamIx) (f : BitVec 8) (closing : Bool) (s : State) :
    Raised (wrapsAt (s.stream i).recordsLost .cbmWrap ++ [.cbmRecordLost]) s (loseRecord i f closing s) := by
  have h := (countStream_raised i Stream.recordsLost (fun x n => { x with recordsLost := n }) s).trans (setFactor_raised .cbmRecordLost _)
  unfold loseRecord
  simp only []
  split
  · exact h.congr rfl rfl (by simp) (by simp)
  · exact h

@[simp] theorem loseRecord_mem (i : StreamIx) (f : BitVec 8) (closing : Bool) (s : State) :
    (loseRecord i f closing s).cbm.mem = s.cbm.mem := by
  unfold loseRecord; simp only []; split <;> simp
@[simp] theorem loseRecord_free (i : StreamIx) (f : BitVec 8) (closing : Bool) (s : State) :
    (loseRecord i f closing s).cbm.free = s.cbm.free := by
  unfold loseRecord; simp only []; split <;> simp
@[simp] theorem loseRecord_reserved (i : StreamIx) (f : BitVec 8) (closing : Bool) (s : State) :
    (loseRecord i f closing s).cbm.reserved = s.cbm.reserved := by
  unfold loseRecord; simp only []; split <;> simp
@[simp] theorem loseRecord_stream_ne (i k : StreamIx) (f : BitVec 8) (closing : Bool) (s : State) (h : k ≠ i) :
    (loseRecord i f closing s).stream k = s.stream k := by
  unfold loseRecord; simp only []; split <;> simp [h]

/-- A lost record without the closing mark: only the counter. -/
theorem loseRecord_stream_open (i : StreamIx) (f : BitVec 8) (s : State) :
    (loseRecord i f false s).stream i = { s.stream i with recordsLost := (s.stream i).recordsLost + 1 } := by
  simp [loseRecord]

/-- A record that is queued, in the cell at the head of the free list. -/
theorem handRecord_queued {i : StreamIx} {s : State} {k : Nat} {rest : List Nat} (kind : CellKind) (payload : List Byte) (f : BitVec 8)
    (closing : Bool) (ho : (s.stream i).state ≠ .closed) (hr : s.cbm.reserved < s.freeCount) (hf : freeCells s.cbm.free = k :: rest) :
    ∃ runs, freeCells runs = rest ∧ handRecord i kind payload f closing s =
      enqueue i { index := k, kind, len := payload.length, frameNo := f, closing }
        ((s.setFree runs).setMem (writePayload s.cbm.mem k payload)) := by
  obtain ⟨runs, ht, hrest⟩ := takeHead_of_cons hf
  refine ⟨runs, hrest, ?_⟩
  unfold handRecord
  rw [if_pos ⟨ho, hr⟩, ht]

/-- A record that is lost. -/
theorem handRecord_lost {i : StreamIx} {s : State} (kind : CellKind) (payload : List Byte) (f : BitVec 8) (closing : Bool)
    (h : (s.stream i).state = .closed ∨ s.freeCount ≤ s.cbm.reserved) :
    handRecord i kind payload f closing s = loseRecord i f closing s := by
  unfold handRecord
  rw [if_neg]
  rintro ⟨a, b⟩
  rcases h with h | h
  · exact a h
  · omega

/-- Everything that a record handed to CBM can do to its stream, the free list and the DRAM. -/
theorem handRecord_went (i : StreamIx) (kind : CellKind) (payload : List Byte) (f : BitVec 8) (closing : Bool) (s : State) :
    RecordWent i kind payload f closing s (handRecord i kind payload f closing s) := by
  by_cases h : (s.stream i).state = .closed ∨ s.freeCount ≤ s.cbm.reserved
  · rw [handRecord_lost kind payload f closing h]
    refine .inr ⟨h, by simp, by simp, ?_, ?_, ?_⟩
    · unfold loseRecord; simp only []; split <;> simp
    · rw [(loseRecord_raised i f closing s).factors]; simp
    · rintro rfl; rw [loseRecord_stream_open]
  · push Not at h
    cases hf : freeCells s.cbm.free with
    | nil => have := h.2; simp [State.freeCount, freeCountOf_eq, hf] at this
    | cons k rest =>
      obtain ⟨runs, hr, e⟩ := handRecord_queued kind payload f closing h.1 h.2 hf
      rw [e]
      exact .inl ⟨h.1, h.2, k, by simp [hf, hr], by simp, by simp, by simp⟩

@[simp] theorem handRecord_stream_ne (i k : StreamIx) (kind : CellKind) (payload : List Byte) (f : BitVec 8) (closing : Bool) (s : State)
    (h : k ≠ i) : (handRecord i kind payload f closing s).stream k = s.stream k := by
  unfold handRecord; split
  · split <;> simp [h]
  · simp [h]

@[simp] theorem handRecord_reserved (i : StreamIx) (kind : CellKind) (payload : List Byte) (f : BitVec 8) (closing : Bool) (s : State) :
    (handRecord i kind payload f closing s).cbm.reserved = s.cbm.reserved := by
  unfold handRecord; split
  · split <;> simp
  · simp

/-- What a record raises: nothing where it is queued, else the loss. -/
theorem handRecord_raised (i : StreamIx) (kind : CellKind) (payload : List Byte) (f : BitVec 8) (closing : Bool) (s : State) :
    Raised (if (s.stream i).state = .closed ∨ s.freeCount ≤ s.cbm.reserved then
      wrapsAt (s.stream i).recordsLost .cbmWrap ++ [.cbmRecordLost] else []) s (handRecord i kind payload f closing s) := by
  split
  · rename_i h; rw [handRecord_lost kind payload f closing h]; exact loseRecord_raised i f closing s
  · rename_i h
    push Not at h
    cases hf : freeCells s.cbm.free with
    | nil => have := h.2; simp [State.freeCount, freeCountOf_eq, hf] at this
    | cons k rest =>
      obtain ⟨runs, hr, e⟩ := handRecord_queued kind payload f closing h.1 h.2 hf
      rw [e]
      exact (Raised.refl s).congr rfl rfl rfl rfl

/-- `RecordWent` looks only at CBM before, and at CBM and the factors after. -/
theorem RecordWent.congr {i : StreamIx} {kind : CellKind} {payload : List Byte} {f : BitVec 8} {closing : Bool} {s t s' t' : State}
    (h : RecordWent i kind payload f closing s t) (hs : s'.cbm = s.cbm) (ht : t'.cbm = t.cbm)
    (hf : t.evu.has .cbmRecordLost = true → t'.evu.has .cbmRecordLost = true) : RecordWent i kind payload f closing s' t' := by
  unfold RecordWent State.stream State.freeCount at *
  rw [hs, ht]
  rcases h with h | ⟨a, b, c, d, e, g⟩
  · exact .inl h
  · exact .inr ⟨a, b, c, d, hf e, g⟩

/-! ### Records composed by XCR and TRQ -/

@[simp] theorem issueMissing_reserved (i : StreamIx) (r : MissingRecord) (s : State) :
    (issueMissing i r s).cbm.reserved = s.cbm.reserved := by simp [issueMissing]
@[simp] theorem issueMissing_stream_ne (i k : StreamIx) (r : MissingRecord) (s : State) (h : k ≠ i) :
    (issueMissing i r s).stream k = s.stream k := by simp [issueMissing, h]
@[simp] theorem issueMissing_port_self (i : StreamIx) (r : MissingRecord) (s : State) :
    (issueMissing i r s).port r.port = { s.port r.port with missing := (s.port r.port).missing + 1 } := by simp [issueMissing]
@[simp] theorem issueMissing_port_ne (i : StreamIx) (r : MissingRecord) (s : State) (q : PortIx) (h : q ≠ r.port) :
    (issueMissing i r s).port q = s.port q := by simp [issueMissing, h]

/-- A missing record handed to CBM, seen from before its port's counter. -/
theorem issueMissing_went (i : StreamIx) (r : MissingRecord) (s : State) :
    RecordWent i .missing r.payload (s.stream i).frameCounter false s (issueMissing i r s) := by
  unfold issueMissing
  have h := handRecord_went i .missing r.payload (s.stream i).frameCounter false
    (countPort r.port Port.missing (fun x n => { x with missing := n }) s)
  refine RecordWent.congr h (by simp) ?_ ?_ <;> simp

/-- What a missing record raises. -/
theorem issueMissing_raised (i : StreamIx) (r : MissingRecord) (s : State) :
    Raised (wrapsAt (s.port r.port).missing (.camWrap r.port) ++
      if (s.stream i).state = .closed ∨ s.freeCount ≤ s.cbm.reserved then wrapsAt (s.stream i).recordsLost .cbmWrap ++ [.cbmRecordLost]
      else []) s (issueMissing i r s) := by
  have h := (countPort_raised r.port Port.missing (fun x n => { x with missing := n }) s).trans
    (handRecord_raised i .missing r.payload ((countPort r.port Port.missing (fun x n => { x with missing := n }) s).stream i).frameCounter
      false _)
  simpa [issueMissing] using h

theorem closeExposure_eq (p : PortIx) (cause : Cause) (l : LineTime) (e : Exposure) (s : State) :
    closeExposure p cause l e s = issueMissing e.stream (exposureRecord p e cause l) s := rfl

@[simp] theorem closeExposure_port_self (p : PortIx) (cause : Cause) (l : LineTime) (e : Exposure) (s : State) :
    (closeExposure p cause l e s).port p = { s.port p with missing := (s.port p).missing + 1 } :=
  issueMissing_port_self e.stream (exposureRecord p e cause l) s
@[simp] theorem closeExposure_port_ne (p : PortIx) (cause : Cause) (l : LineTime) (e : Exposure) (s : State) (q : PortIx) (h : q ≠ p) :
    (closeExposure p cause l e s).port q = s.port q := issueMissing_port_ne e.stream (exposureRecord p e cause l) s q h
@[simp] theorem closeExposure_reserved (p : PortIx) (cause : Cause) (l : LineTime) (e : Exposure) (s : State) :
    (closeExposure p cause l e s).cbm.reserved = s.cbm.reserved := issueMissing_reserved _ _ _

/-- A list removed: each exposure counted missing, the list empty, the other lists and ports as they were (R74, R75). -/
theorem removeAll_exposures (p : PortIx) (cause : Cause) (l : List Exposure) (s : State) (q : PortIx) :
    (removeAll p cause l s).exposures q = if q = p then [] else s.exposures q := by
  induction l generalizing s with
  | nil => by_cases h : q = p <;> simp [removeAll, h]
  | cons e rest ih => rw [removeAll, ih]; by_cases h : q = p <;> simp [h]

theorem removeAll_port (p : PortIx) (cause : Cause) (l : List Exposure) (s : State) (q : PortIx) :
    (removeAll p cause l s).port q =
      if q = p then { s.port p with missing := (s.port p).missing + BitVec.ofNat 32 l.length } else s.port q := by
  induction l generalizing s with
  | nil => by_cases h : q = p <;> simp [removeAll, h]
  | cons e rest ih =>
    rw [removeAll, ih]
    by_cases h : q = p
    · simp only [h, if_true, closeExposure_port_self, State.setExposures_port, List.length_cons]
      congr 1
      rw [BitVec.add_assoc]; congr 1
      apply BitVec.eq_of_toNat_eq; simp; omega
    · simp [h]

/-! ### Cells (R94-R98) -/

theorem commitCell_none (p : PortIx) (last : Bool) (f : FrameCtx) (s : State) (h : f.assembly = none) : commitCell p last f s = s := by
  simp [commitCell, h]

theorem commitCell_some (p : PortIx) (last : Bool) (f : FrameCtx) (s : State) (a : Assembly) (h : f.assembly = some a) :
    commitCell p last f s = (enqueue f.stream
      { index := a.index, kind := commitKind f.committed last, len := 2 * a.words, frameNo := f.frameNo, closing := false } s).setFrame p
      (some { f with assembly := none, committed := true }) := by
  simp [commitCell, h]

/-- A stream that is not drained is left as it is. -/
theorem closeIfDrained_of_not (i : StreamIx) (s : State)
    (h : ¬ ((s.stream i).state = .draining ∧ (s.stream i).queue = [] ∧ (s.stream i).inProgress = false)) : closeIfDrained i s = s := by
  unfold closeIfDrained; simp only []; rw [if_neg h]

/-- A drained stream closes with its factor. -/
theorem closeIfDrained_of (i : StreamIx) (s : State) (h : (s.stream i).state = .draining) (hq : (s.stream i).queue = [])
    (hp : (s.stream i).inProgress = false) :
    closeIfDrained i s = setFactor .cbmStreamClosed (s.setStream i { s.stream i with state := .closed }) := by
  unfold closeIfDrained; simp only []; rw [if_pos ⟨h, hq, hp⟩]

@[simp] theorem closeIfDrained_mem (i : StreamIx) (s : State) : (closeIfDrained i s).cbm.mem = s.cbm.mem := by
  unfold closeIfDrained; simp only []; split <;> simp
@[simp] theorem closeIfDrained_free (i : StreamIx) (s : State) : (closeIfDrained i s).cbm.free = s.cbm.free := by
  unfold closeIfDrained; simp only []; split <;> simp
@[simp] theorem closeIfDrained_reserved (i : StreamIx) (s : State) : (closeIfDrained i s).cbm.reserved = s.cbm.reserved := by
  unfold closeIfDrained; simp only []; split <;> simp
@[simp] theorem closeIfDrained_freeCount (i : StreamIx) (s : State) : (closeIfDrained i s).freeCount = s.freeCount := by
  unfold closeIfDrained; simp only []; split <;> simp
@[simp] theorem closeIfDrained_stream_ne (i k : StreamIx) (s : State) (h : k ≠ i) : (closeIfDrained i s).stream k = s.stream k := by
  unfold closeIfDrained; simp only []; split <;> simp [h]

end Sys2Proof.Machine
end

