-- ==== Sys2Proof/WellFormed.lean ====
section
/-! DEFINITION. When a command's operands are those of its row. A command that fails this has a meaning all the same (log 1): it is never
refused. -/

namespace Sys2Proof

/-- An order of the six ports that names each once (R195, R196). -/
def isPortOrder (order : List PortIx) : Bool := order.length == 6 && decide order.Nodup

/-- The check of a command's operands: an undefined kind is 5-7 (R45), a received cell is what its row says (R115, R125), an order
of the ports names each once. -/
def wellFormed (i : Instr) : Bool :=
  match i with
  | .undefinedKindWord _ kind _ _ => decide (5 ≤ kind.toNat)
  | .badCell cell => Machine.isBadCell cell
  | .idleCell cell => Machine.isGoodCell cell 0
  | .hold cell => Machine.isGoodCell cell 10
  | .resume cell => Machine.isGoodCell cell 11
  | .mgmtReq cell => Machine.isGoodCell cell 9
  | .drainExpiry order => isPortOrder order
  | .shuttingEnd order => isPortOrder order
  | .powerOn => true
  | .beltTick _ _ => true
  | .stall => true
  | .triggerTick _ => true
  | .pulseEnd _ => true
  | .rearmGapEnd _ => true
  | .idleWord _ _ _ => true
  | .frameStart _ _ _ => true
  | .lineStart _ _ _ => true
  | .data _ _ _ => true
  | .frameEnd _ _ _ => true
  | .exposureExpiry _ => true
  | .cellSlot => true
  | .calendarSwap => true
  | .transmissionEnd => true
  | .holdExpiry => true
  | .delimiterFound _ => true
  | .lossOfLight => true
  | .badOp => true
  | .read => true
  | .write => true
  | .writeBelt => true
  | .writeTrigger => true
  | .writeSensor => true
  | .writePort => true
  | .writeRelay => true
  | .writeEvent => true
  | .writeCal => true
  | .readCounters => true
  | .clearEvents => true
  | .openStream => true
  | .closeStream => true
  | .flushStream => true
  | .enablePort => true
  | .disablePort => true
  | .calSwap => true
  | .setLevel => true
  | .beltPreset => true
  | .relay => true
  | .status => true
  | .softReset => true
  | .softResetCarriedOut => true
  | .relayEngineTake => true
  | .relayTick _ _ => true
  | .deferTimeout => true
  | .stallTimeout => true
  | .relayResult => true
  | .settleExpiry => true
  | .drainComplete => true
  | .referenceClockPeriod => true

end Sys2Proof
end

