-- ==== Sys2Proof/Laws/CameraWord.lean ====
section
/-! SUPPORT. A camera word and its command: the fields are the word, the command is one of its row, and what its arrival changes. -/

namespace Sys2Proof

open Sys2Proof.Machine

/-- A bit of a camera word: the value below bit 16, the kind in bits 16-18, the parity in bit 19 (R45). -/
theorem getLsbD_cameraWord (parity : Bool) (kind : BitVec 3) (value : BitVec 16) (i : Nat) :
    (cameraWord parity kind value).getLsbD i =
      if i < 16 then value.getLsbD i else if i < 19 then kind.getLsbD (i - 16) else decide (i = 19) && parity := by
  have h : (cameraWord parity kind value).getLsbD i = BitVec.getLsbD ((BitVec.ofBool parity ++ kind) ++ value) i := rfl
  rw [h, BitVec.getLsbD_append, BitVec.getLsbD_append, BitVec.getLsbD_ofBool]
  by_cases h1 : i < 16
  · simp [h1]
  · by_cases h2 : i < 19
    · simp [h1, h2, show i - 16 < 3 by omega]
    · simp only [h1, h2, show ¬ i - 16 < 3 by omega, if_false, show (i - 16 - 3 = 0) = (i = 19) by simp; omega]

theorem wordParity_cameraWord (parity : Bool) (kind : BitVec 3) (value : BitVec 16) : wordParity (cameraWord parity kind value) = parity :=
  (getLsbD_cameraWord ..).trans (by simp)

theorem wordKind_cameraWord (parity : Bool) (kind : BitVec 3) (value : BitVec 16) : wordKind (cameraWord parity kind value) = kind :=
  BitVec.eq_of_getLsbD_eq fun i hi => by simp [wordKind, getLsbD_cameraWord, hi]; omega

theorem wordValue_cameraWord (parity : Bool) (kind : BitVec 3) (value : BitVec 16) : wordValue (cameraWord parity kind value) = value :=
  BitVec.eq_of_getLsbD_eq fun i hi => by simp [wordValue, getLsbD_cameraWord, hi]

theorem cameraWord_fields (w : BitVec 20) : cameraWord (wordParity w) (wordKind w) (wordValue w) = w :=
  BitVec.eq_of_getLsbD_eq fun i hi => by
    rw [getLsbD_cameraWord]
    by_cases h1 : i < 16
    · simp [h1, wordValue]
    · by_cases h2 : i < 19
      · simp [h1, h2, wordKind, show i - 16 < 3 by omega, show 16 + (i - 16) = i by omega]
      · obtain rfl : i = 19 := by omega
        simp [wordParity]

/-- A camera word's command has the operands of its row (R45). -/
theorem wellFormed_cameraCommand (p : PortIx) (w : BitVec 20) : wellFormed (cameraCommand p w) = true := by
  unfold cameraCommand
  split
  case h_6 h0 h1 h2 h3 h4 =>
    have h : 5 ≤ (wordKind w).toNat := by
      change _ ≠ _ at h0 h1 h2 h3 h4
      omega
    exact decide_eq_true h
  all_goals rfl

/-- A camera word that finds the queue empty is taken by the next step. -/
theorem step_withCameraWord (s : State) (p : PortIx) (w : BitVec 20) (h : s.pending = []) :
    step (s.withCameraWord p w) = exec (cameraCommand p w) s := by
  have hs : { s with pending := [] } = s := by rw [← h]
  unfold step State.withCameraWord
  rw [h]
  exact congrArg (exec _) hs

end Sys2Proof
end

