-- ==== Sys2Proof/Laws/PerInstr.lean ====
section
/-! SUPPORT. One lemma per command about the command as a row of the table: the table gives it no bits, and a row that takes a request has no
operand that could be wrong (R149; log 6, log 24). -/

namespace Sys2Proof.Laws.RowOfTable

/-- No word spells the command, and a management row is well-formed. -/
def Statement (i : Instr) : Prop :=
  (∀ nbits w, decodeTableWord nbits w ≠ some i) ∧ (Machine.isTake i = true → wellFormed i = true)

theorem of_row {i : Instr} (h : Machine.isTake i = true → wellFormed i = true) : Statement i :=
  ⟨fun _ _ => by simp [decodeTableWord], h⟩

theorem powerOn : Statement .powerOn := of_row (fun _ => rfl)
theorem beltTick (step dir : Bool) : Statement (.beltTick step dir) := of_row (fun _ => rfl)
theorem stall : Statement .stall := of_row (fun _ => rfl)
theorem triggerTick (lines : BitVec 4) : Statement (.triggerTick lines) := of_row (fun _ => rfl)
theorem pulseEnd (p : PortIx) : Statement (.pulseEnd p) := of_row (fun _ => rfl)
theorem rearmGapEnd (p : PortIx) : Statement (.rearmGapEnd p) := of_row (fun _ => rfl)
theorem idleWord (p : PortIx) (parity : Bool) (value : BitVec 16) : Statement (.idleWord p parity value) := of_row (fun _ => rfl)
theorem frameStart (p : PortIx) (parity : Bool) (value : BitVec 16) : Statement (.frameStart p parity value) := of_row (fun _ => rfl)
theorem lineStart (p : PortIx) (parity : Bool) (value : BitVec 16) : Statement (.lineStart p parity value) := of_row (fun _ => rfl)
theorem data (p : PortIx) (parity : Bool) (value : BitVec 16) : Statement (.data p parity value) := of_row (fun _ => rfl)
theorem frameEnd (p : PortIx) (parity : Bool) (value : BitVec 16) : Statement (.frameEnd p parity value) := of_row (fun _ => rfl)
theorem undefinedKindWord (p : PortIx) (kind : BitVec 3) (parity : Bool) (value : BitVec 16) : Statement (.undefinedKindWord p kind parity value) := of_row (fun h => Bool.noConfusion h)
theorem exposureExpiry (p : PortIx) : Statement (.exposureExpiry p) := of_row (fun _ => rfl)
theorem cellSlot : Statement .cellSlot := of_row (fun _ => rfl)
theorem calendarSwap : Statement .calendarSwap := of_row (fun _ => rfl)
theorem transmissionEnd : Statement .transmissionEnd := of_row (fun _ => rfl)
theorem holdExpiry : Statement .holdExpiry := of_row (fun _ => rfl)
theorem delimiterFound (light : Bool) : Statement (.delimiterFound light) := of_row (fun _ => rfl)
theorem lossOfLight : Statement .lossOfLight := of_row (fun _ => rfl)
theorem badCell (cell : List Byte) : Statement (.badCell cell) := of_row (fun h => Bool.noConfusion h)
theorem idleCell (cell : List Byte) : Statement (.idleCell cell) := of_row (fun h => Bool.noConfusion h)
theorem hold (cell : List Byte) : Statement (.hold cell) := of_row (fun h => Bool.noConfusion h)
theorem resume (cell : List Byte) : Statement (.resume cell) := of_row (fun h => Bool.noConfusion h)
theorem mgmtReq (cell : List Byte) : Statement (.mgmtReq cell) := of_row (fun h => Bool.noConfusion h)
theorem badOp : Statement .badOp := of_row (fun _ => rfl)
theorem read : Statement .read := of_row (fun _ => rfl)
theorem write : Statement .write := of_row (fun _ => rfl)
theorem writeBelt : Statement .writeBelt := of_row (fun _ => rfl)
theorem writeTrigger : Statement .writeTrigger := of_row (fun _ => rfl)
theorem writeSensor : Statement .writeSensor := of_row (fun _ => rfl)
theorem writePort : Statement .writePort := of_row (fun _ => rfl)
theorem writeRelay : Statement .writeRelay := of_row (fun _ => rfl)
theorem writeEvent : Statement .writeEvent := of_row (fun _ => rfl)
theorem writeCal : Statement .writeCal := of_row (fun _ => rfl)
theorem readCounters : Statement .readCounters := of_row (fun _ => rfl)
theorem clearEvents : Statement .clearEvents := of_row (fun _ => rfl)
theorem openStream : Statement .openStream := of_row (fun _ => rfl)
theorem closeStream : Statement .closeStream := of_row (fun _ => rfl)
theorem flushStream : Statement .flushStream := of_row (fun _ => rfl)
theorem enablePort : Statement .enablePort := of_row (fun _ => rfl)
theorem disablePort : Statement .disablePort := of_row (fun _ => rfl)
theorem calSwap : Statement .calSwap := of_row (fun _ => rfl)
theorem setLevel : Statement .setLevel := of_row (fun _ => rfl)
theorem beltPreset : Statement .beltPreset := of_row (fun _ => rfl)
theorem relay : Statement .relay := of_row (fun _ => rfl)
theorem status : Statement .status := of_row (fun _ => rfl)
theorem softReset : Statement .softReset := of_row (fun _ => rfl)
theorem softResetCarriedOut : Statement .softResetCarriedOut := of_row (fun _ => rfl)
theorem relayEngineTake : Statement .relayEngineTake := of_row (fun _ => rfl)
theorem relayTick (clk dat : Bool) : Statement (.relayTick clk dat) := of_row (fun _ => rfl)
theorem deferTimeout : Statement .deferTimeout := of_row (fun _ => rfl)
theorem stallTimeout : Statement .stallTimeout := of_row (fun _ => rfl)
theorem relayResult : Statement .relayResult := of_row (fun _ => rfl)
theorem settleExpiry : Statement .settleExpiry := of_row (fun _ => rfl)
theorem drainComplete : Statement .drainComplete := of_row (fun _ => rfl)
theorem drainExpiry (order : List PortIx) : Statement (.drainExpiry order) := of_row (fun h => Bool.noConfusion h)
theorem shuttingEnd (order : List PortIx) : Statement (.shuttingEnd order) := of_row (fun h => Bool.noConfusion h)
theorem referenceClockPeriod : Statement .referenceClockPeriod := of_row (fun _ => rfl)

end Sys2Proof.Laws.RowOfTable
end

