-- ==== Sys2Proof/Tests/Slice0.lean ====
section
/-! SUPPORT. Tests: the checks of WellFormed, values of the spec's worked examples and rules, and for each statement with hypotheses a witness
that meets them, each clause at a boundary where it has one. Expected values are the spec's. -/

namespace Sys2Proof.Tests

open Sys2Proof.Machine

-- One theorem at a time: many evaluations side by side would only need more memory.
set_option Elab.async false

/-! ### Small states -/

/-- Bytes from numbers. -/
def bytes (l : List Nat) : List Byte := l.map (BitVec.ofNat 8)

/-- A request: its first bytes, zeros to 56. -/
def req (l : List Nat) : Request := bytes (l ++ List.replicate (56 - l.length) 0)

/-- A received cell: kind, payload length, first payload bytes; `flip` spoils the CRC. -/
def cell (k len : Nat) (payload : List Nat) (flip : BitVec 16 := 0) : List Byte :=
  let body := req payload
  let crc := crc16 (bytes [k, 0, 0, 0, len, 0] ++ body) ^^^ flip
  bytes [k, 0, 0, 0, len, 0] ++ [crc.extractLsb' 8 8, crc.extractLsb' 0 8] ++ body

/-- The part at level `x`, in SYNC, with `n` free cells from index 10 on. -/
def part (x : Level) (n : Nat := 300) : State :=
  let s := State.reset
  { s with
    lvc := { s.lvc with level := x, power := x != .listen }
    cbm := { s.cbm with free := [⟨10, n⟩] }
    flk := { s.flk with rx := .sync } }

/-- Port 0 enabled and in state `x`. -/
def withPort (s : State) (x : PortState) (f : Option FrameCtx := none) : State :=
  s.setPort 0 { s.port 0 with enabled := true, state := x, frame := f }

/-- Stream 0 OPEN with these cells queued. -/
def withStream (s : State) (q : List QCell := []) (x : StreamState := .opened) : State :=
  s.setStream 0 { s.stream 0 with state := x, queue := q }

/-- The request as the only one waiting. -/
def asked (s : State) (l : List Nat) : State := { s with mge := { s.mge with requests := [req l] } }

/-- An exposure of port 0 on stream 0. -/
def exposure (count : BitVec 8) (deadline : LineTime) : Exposure :=
  { part := 42, plan := 2, tag := 12, stream := 0, fireF := 256051100, fireL := 100, count, deadline }

/-- A frame of port 0 on stream 0. -/
def frame (a : Option Assembly) (remaining : Nat) : FrameCtx :=
  { exposure := some (exposure 1 1000), stream := 0, frameNo := 5, camCount := 1, format := 0, startL := 100, endL := none, remaining
    received := 0, forwarded := 0, lines := 0, computed := 0, rxChecksum := 0, parity := false, checksumBad := false, aborted := false
    truncated := false, assembly := a, committed := false }

/-- A Trigger Queue entry of port 0 on stream 0. -/
def entry (due : FinePos) : TrigEntry :=
  { part := 41, plan := 1, tag := 11, port := 0, stream := 0, width := 20, due, regF := 0 }

/-- A queued cell. -/
def queued (index : Nat) (kind : CellKind) (frameNo : BitVec 8) : QCell := { index, kind, len := 2, frameNo, closing := false }

/-- A relay request for a port. -/
def relayReq (p : RelayPort) : RelayReq :=
  { tag := 3, port := p, addr := 0x20, bytes := [0xAB], readCount := 1, deferred := true, aborted := false }

/-- A transaction of port 0 in a phase, with the timing after power-on. -/
def txn (ph : RelayPhase) : Txn :=
  { phase := ph, req := relayReq (.one 0), timing := State.reset.ccr.timing, port := 0, deadline := 500, freeTicks := 0, second := false
    byteIx := 0, bitIx := 0, lowTicks := 0, highTicks := 0, holdStep := false, holdCount := 0, rxBits := [], rxBytes := [], result := .done
    outcomes := [], abortRest := false }

/-- The part in RUN with that transaction. -/
def relaying (x : Txn) : State := (part .run).setEngine (some x)

/-! ### WellFormed: an ill-formed command of each check -/

theorem test_wf_undefined_kind : wellFormed (.undefinedKindWord 0 4 false 0) = false ∧ wellFormed (.undefinedKindWord 0 5 false 0) = true := by
  decide
theorem test_wf_orders :
    wellFormed (.drainExpiry [0, 1, 2, 3, 4]) = false ∧ wellFormed (.shuttingEnd [0, 1, 2, 3, 4, 4]) = false ∧
      wellFormed (.shuttingEnd [5, 4, 3, 2, 1, 0]) = true := by decide
set_option maxRecDepth 20000 in
theorem test_wf_bad_cell : wellFormed (.badCell (cell 0 0 [])) = false ∧ wellFormed (.badCell (cell 0 0 [] 1)) = true := by decide +kernel
set_option maxRecDepth 20000 in
theorem test_wf_idle_cell : wellFormed (.idleCell (cell 9 0 [])) = false ∧ wellFormed (.idleCell (cell 0 56 [])) = true := by decide +kernel
set_option maxRecDepth 20000 in
theorem test_wf_hold : wellFormed (.hold (cell 10 57 [])) = false ∧ wellFormed (.hold (cell 10 56 [])) = true := by decide +kernel
set_option maxRecDepth 20000 in
theorem test_wf_resume : wellFormed (.resume (cell 10 0 [])) = false ∧ wellFormed (.resume (cell 11 0 [])) = true := by decide +kernel
set_option maxRecDepth 20000 in
theorem test_wf_mgmt_req : wellFormed (.mgmtReq (cell 9 0 [] 1)) = false ∧ wellFormed (.mgmtReq (cell 9 0 [1, 12])) = true := by
  decide +kernel

/-! ### Values the spec gives -/

/-- The note of R114. -/
theorem test_crc_check_value : crc16 (bytes [0x31, 0x32, 0x33, 0x34, 0x35, 0x36, 0x37, 0x38, 0x39]) = 0x29B1 := by decide +kernel
/-- R45: a good word has an odd number of ones. -/
theorem test_parity : parityGood true 0 0 = true ∧ parityGood false 0 0 = false ∧ parityGood false 1 0 = true := by decide
/-- R45: parity in bit 19, kind in bits 18-16, value in bits 15-0; one word of each kind, and the next step takes it. -/
theorem test_camera_words :
    cameraCommand 5 0b0000_0000_0000_0000_0001 = .idleWord 5 false 1 ∧
    cameraCommand 0 0b1001_0000_0111_0000_0010 = .frameStart 0 true 0x0702 ∧
    cameraCommand 1 0b0010_1000_0000_0000_0001 = .lineStart 1 false 0x8001 ∧
    cameraCommand 2 0b1011_1111_1111_1111_1111 = .data 2 true 0xFFFF ∧
    cameraCommand 3 0b0100_1010_1011_1100_1101 = .frameEnd 3 false 0xABCD ∧
    cameraCommand 4 0b1101_0000_0000_0000_0000 = .undefinedKindWord 4 5 true 0 ∧
    cameraCommand 4 0b0110_0000_0000_0000_0000 = .undefinedKindWord 4 6 false 0 ∧
    cameraCommand 4 0b1111_0000_0000_0000_0000 = .undefinedKindWord 4 7 true 0 ∧
    (State.reset.withCameraWord 3 0b0100_1010_1011_1100_1101).pending = [.frameEnd 3 false 0xABCD] := by decide +kernel
/-- 02, worked example: 156 is reached at elapsed 762 with last interval 1,250. -/
theorem test_fraction :
    ({ State.reset.bpt with interval := 16777215 - 762, lastInterval := 1250 } : Bpt).interpolated = 156 ∧
      ({ State.reset.bpt with interval := 16777215 - 761, lastInterval := 1250 } : Bpt).interpolated = 155 := by decide +kernel
/-- 08, worked example: the WRITE of plan entry 3. -/
theorem test_plan_write :
    let s := asked (part .listen) [0x2A, 2, 1, 3, 0, 0x29, 1, 0, 0, 0x64, 0, 0, 0x14]
    ∃ t, exec .write s = .next t ∧ t.planEntry 3 = ⟨true, 0, 0, 25600, 0, 20, 0⟩ ∧ t.mge.output = [.response false [0x2A, 0, 2]] :=
  ⟨_, rfl, by decide +kernel⟩
/-- 07, R142: a start slot of 250 with a count of 10 writes slots 250-255 and then 0-3. -/
theorem test_calendar_write :
    let s := asked (part .listen) [1, 3, 0, 250, 10, 0, 16, 16, 16, 16, 16, 16, 16, 16, 16, 7]
    ∃ t, exec .writeCal s = .next t ∧ t.scd.shadow[255] = .mgmt ∧ t.scd.shadow[3] = .stream 7 ∧ t.scd.shadow[4] = .none ∧
      t.scd.shadow[249] = .none := ⟨_, rfl, by decide +kernel⟩

/-- R117: the first slot after power-on carries IDLE, length 14, in SEARCH and LISTEN, with 262,144 (40000H) cells free. -/
theorem test_first_slot :
    ∃ t, exec .cellSlot State.reset = .next t ∧
      t.flk.tx.map (fun c => (c.bytes.take 6, (c.bytes.drop 8).take 8)) =
        some ([0, 0, 0, 0, 14, 0], [0, 0, 0, 0, 0, 4, 0, 0]) := ⟨_, rfl, by decide +kernel⟩
/-- R148, R162, R123: STATUS in RUN and SYNC. -/
theorem test_status :
    ∃ t, exec .status (asked (part .run) [7, 12]) = .next t ∧
      t.mge.output = [.response false (bytes [7, 0, 12, 2, 2, 0, 0, 1, 44, 0, 0, 0, 0, 0, 0, 0, 0, 0, 0, 0, 0, 0, 0, 0, 0])] :=
  ⟨_, rfl, by decide +kernel⟩
/-- R153, R156: READ of the LEVEL table after power-on. -/
theorem test_read_level :
    ∃ t, exec .read (asked State.reset [9, 1, 9]) = .next t ∧ t.mge.output = [.response false (bytes [9, 0, 1, 50, 100, 0])] :=
  ⟨_, rfl, by decide +kernel⟩

/-! ### Witnesses of the statements' hypotheses -/

theorem test_witness_StepRunsFrontCommand :
    ({ State.reset with pending := [.stall, .powerOn] } : State).pending = [.stall, .powerOn] ∧ State.reset.pending = [] := by decide

theorem test_witness_SoftResetState :
    let s : State := { part .run with mge := { State.reset.mge with resetPending := true, resetDue := true } }
    s.mge.resetPending = true ∧ s.mge.resetDue = true := by decide

/-- R191, step 4: the event cell just if the factor's enable and the CONTROL notice are both on. -/
theorem test_soft_reset_event :
    ∀ notice ∈ [true, false],
      let s : State := { part .run with
        mge := { State.reset.mge with resetPending := true, resetDue := true }
        evu := { State.reset.evu with enables := State.reset.evu.enables.set 10 0x10, notice := State.reset.evu.notice.set 10 notice } }
      (softResetAll s).evu.eventPending = notice ∧ (softResetAll s).mge.output.length = (if notice then 1 else 0) := by decide +kernel

theorem test_witness_PeriodsCountLineTime :
    State.reset.bpt.beltPre.count < 2 ^ State.reset.bpt.tickCode ∧ State.reset.bpt.trigPre.count < 2 ^ State.reset.trq.tickCode ∧
      State.reset.bpt.relayPre.count < 2 ^ State.reset.ccr.tickCode := by decide

theorem test_witness_FilterAcceptsAfterDepth :
    (0 < 1 ∧ 1 ≤ 2 ^ 0) ∧ (0 < 4 ∧ 4 ≤ 2 ^ 2) ∧ (0 < 31 ∧ 31 ≤ 2 ^ 5) ∧
      (filterSample 2 true ⟨false, 3⟩).2 = true ∧ (filterSample 2 true ⟨false, 2⟩).2 = false := by decide

/-- The step line about to be accepted high; the direction line accepted `dir`. -/
def atEdge (dir : Bool) (interval : BitVec 24) : State :=
  let s := part .run
  { s with bpt := { s.bpt with stepFilter := ⟨false, 3⟩, dirFilter := ⟨dir, 0⟩, interval, lastDir := .forward } }

theorem test_witness_EncoderEdges :
    (∀ s ∈ [atEdge true 1, atEdge true 2, atEdge true 16777215], s.lvc.level ≠ .listen ∧ s.bpt.stepFilter.level = false ∧
      s.bpt.stepFilter.run + 1 = 2 ^ s.bpt.stepDepth ∧
      (filterSample s.bpt.dirDepth true s.bpt.dirFilter).1.level = (s.bpt.polarity == .forwardHigh)) ∧
    (let s := atEdge false 1;
      s.lvc.level ≠ .listen ∧ s.bpt.stepFilter.level = false ∧ s.bpt.stepFilter.run + 1 = 2 ^ s.bpt.stepDepth ∧
        (filterSample s.bpt.dirDepth false s.bpt.dirFilter).1.level = (s.bpt.polarity == .forwardLow)) := by decide +kernel

theorem test_witness_TickWithoutEdge :
    (∀ s ∈ [atEdge true 0, atEdge true 1, atEdge true 2, State.reset], ¬ (false = true ∧
      (filterSample s.bpt.stepDepth false s.bpt.stepFilter).2 = true ∧ s.lvc.level ≠ .listen)) ∧
    (atEdge true 1).lvc.level ≠ .listen ∧ (atEdge true 1).bpt.interval = 1 := by decide +kernel

/-- F at 256,051,100 with C due and B at distance 100 (02, worked example). -/
def due (pulse gap : BitVec 16) (on : Bool) (list : List Exposure) : State :=
  let s := part .run
  let s := { s with bpt := { s.bpt with p := 1000199, fraction := 156 } }
  let s := (s.setTrigQueue [entry 256051100, entry 256051200]).setExposures 0 list
  (s.setPort 0 { s.port 0 with enabled := on, state := if on then .idle else .off }).setStage 0 ⟨pulse, gap, 0, false⟩

/-- Eight exposures. -/
def fullList : List Exposure := [exposure 1 9, exposure 2 9, exposure 3 9, exposure 4 9, exposure 5 9, exposure 6 9, exposure 7 9, exposure 8 9]

/-- 02, worked example: C fires; its exposure carries F, the trigger count 1 and a deadline 1,000 x 10 us later; B waits. -/
theorem test_fire :
    let t := changeOfF (due 0 0 true [])
    t.trq.queue = [entry 256051200] ∧ t.stage 0 = ⟨20, 0, 1, true⟩ ∧ t.trq.triggersFired = 1 ∧
      t.exposures 0 = [⟨41, 1, 11, 0, 256051100, 0, 1, 1000000⟩] := by decide +kernel

theorem test_witness_DueTriggerFires :
    (let s := due 0 0 true (fullList.drop 1);
      s.trq.queue = [entry 256051100, entry 256051200] ∧ reached s.finePos (entry 256051100).due = true ∧
        reached s.finePos (entry 256051200).due = false ∧ (s.port 0).enabled = true ∧ (s.stage 0).pulse = 0 ∧ (s.stage 0).gap = 0 ∧
        (s.exposures 0).length < 8 ∧ ∀ x ∈ s.exposures 0, x.count ≠ (s.stage 0).count + 1) ∧
    (let s := (part .run).setTrigQueue [entry 1];
      s.trq.queue.head? = some (entry 1) ∧ reached s.finePos (entry 1).due = false) ∧
    (let s := due 0 0 true [exposure 2 9, exposure 1 9, exposure 3 9];
      s.trq.queue = [entry 256051100, entry 256051200] ∧ s.exposures 0 = [exposure 2 9] ++ exposure 1 9 :: [exposure 3 9] ∧
        (s.exposures 0).length < 8 ∧ (exposure 1 9).count = (s.stage 0).count + 1 ∧
        ∀ y ∈ [exposure 2 9] ++ [exposure 3 9], y.count ≠ (exposure 1 9).count) ∧
    (let s := (due 0 0 true []).setTrigQueue [entry 256051000, entry 256051100, entry 256051101];
      s.trq.queue = entry 256051000 :: [entry 256051100, entry 256051101] ∧ reached s.finePos (entry 256051000).due = true ∧
        reached s.finePos (entry 256051100).due = true ∧ reached s.finePos (entry 256051101).due = false ∧
        (entry 256051100).port = (entry 256051000).port ∧ (entry 256051000).width ≠ 0) := by decide +kernel

/-- R65: the older exposure of the new count goes first, and the new one joins the tail. -/
theorem test_fire_reuses_count :
    let t := changeOfF (due 0 0 true [exposure 2 9, exposure 1 9, exposure 3 9])
    (t.exposures 0).map Exposure.count = [2, 3, 1] ∧ (t.port 0).missing = 1 ∧ t.evu.has (.camNoFrame 0) = true := by decide +kernel

theorem test_witness_DueTriggerRefused :
    (∀ s ∈ [due 0 0 false [], due 1 0 true [], due 0 1 true [], due 0 0 true fullList],
      s.trq.queue = [entry 256051100, entry 256051200] ∧ reached s.finePos (entry 256051100).due = true ∧
        reached s.finePos (entry 256051200).due = false) ∧
    ((due 0 0 false []).port 0).enabled = false ∧ ((due 1 0 true []).stage 0).pulse ≠ 0 ∧ ((due 0 1 true []).stage 0).gap ≠ 0 ∧
    8 ≤ ((due 0 0 true fullList).exposures 0).length := by decide +kernel

theorem test_witness_TriggerStagesCount :
    ((due 1 0 true []).stage 0).pulse = 1 ∧ ((due 0 1 true []).stage 0).gap = 1 := by decide +kernel

/-- Sensor 0 about to accept its rising transition, `dist` fine units after a registration with lockout 2,560 (02, worked example). -/
def atSensor (x : Level) (dir : EdgeDir) (dist : FinePos) : State :=
  let s := part x
  let s := { s with bpt := { s.bpt with p := 1000000, fraction := 0, lastDir := dir } }
  let s := s.setPlanEntry 0 ⟨true, 0, 0, 25600, 0, 20, 10⟩
  s.setSensor 0 ⟨true, 2, .rising, 2560, ⟨false, 3⟩, some (256000000 - dist)⟩

/-- What RegistrationRefused asks of the sensors, for sensor 0 and its line high. -/
def Crossing (s : State) : Prop :=
  (∀ m : SensorIx, m ≠ 0 → (1 : BitVec 4).getLsbD m.val = (s.sensor m).filter.level) ∧
  (1 : BitVec 4).getLsbD 0 ≠ (s.sensor 0).filter.level ∧ (s.sensor 0).filter.run + 1 = 2 ^ (s.sensor 0).depth

/-- Sensors 0 and 3 about to accept their rising transitions, with `n` triggers queued and a plan entry for each sensor. -/
def atSensors (n : Nat) : State :=
  let s := (atSensor .run .forward 2560).setTrigQueue (List.replicate n (entry 256020000))
  let s := s.setPlanEntry 1 ⟨true, 3, 0, 20000, 0, 20, 11⟩
  s.setSensor 3 ⟨true, 0, .rising, 0, ⟨false, 0⟩, none⟩

theorem test_witness_PartRegistered :
    (∀ regs ∈ [[], [0], [3], [0, 3]], ∀ n ∈ [0, 63, 64],
      let s := atSensors n
      let lines : BitVec 4 := BitVec.ofNat 4 (regs.map (fun k : SensorIx => 2 ^ k.val)).sum
      regs.Pairwise (· < ·) ∧ s.lvc.level = .run ∧ s.bpt.lastDir = .forward ∧ s.trq.queue.length = n ∧
        (∀ m : SensorIx, m ∉ regs → lines.getLsbD m.val = (s.sensor m).filter.level) ∧
        ∀ k ∈ regs, lines.getLsbD k.val ≠ (s.sensor k).filter.level ∧ (s.sensor k).filter.run + 1 = 2 ^ (s.sensor k).depth ∧
          (s.sensor k).enabled = true ∧ (s.sensor k).transition = .rising ∧ lines.getLsbD k.val = true) ∧
    ((atSensors 0).sensor 0).lastReg = some 255997440 ∧ ((atSensors 0).sensor 3).lastReg = none ∧
    ((atSensors 0).sensor 0).lockout.toNat ≤ ((atSensors 0).finePos - 255997440).toNat := by decide +kernel

/-- R28, R31: sensor 0 takes part 0 and sensor 3 part 1, and part 1's nearer trigger stands before part 0's. With 63 queued one is refused (R32). -/
theorem test_two_sensors :
    (∃ t, exec (.triggerTick 9) (atSensors 0) = .next t ∧ t.trq.queue.map (fun e => (e.part, e.due)) = [(1, 256020000), (0, 256025600)]) ∧
      ∃ t, exec (.triggerTick 9) (atSensors 63) = .next t ∧ t.trq.queue.length = 64 ∧ t.trq.triggersFailed = 1 ∧
        t.evu.has .trqQueueFull = true := ⟨⟨_, rfl, by decide +kernel⟩, ⟨_, rfl, by decide +kernel⟩⟩

theorem test_witness_RegistrationRefused :
    (∀ s ∈ [atSensor .standby .forward 2560, atSensor .run .reverse 2560, atSensor .run .none 2560, atSensor .run .forward 2559],
      Crossing s) ∧
    (atSensor .standby .forward 2560).lvc.level ≠ .run ∧ (atSensor .run .reverse 2560).bpt.lastDir ≠ .forward ∧
    (let s := atSensor .run .forward 2559;
      (s.sensor 0).lastReg = some 255997441 ∧ (s.finePos - 255997441).toNat < (s.sensor 0).lockout.toNat) := by
  unfold Crossing; decide +kernel

/-- The first premise of `WordsOutOfPlace` at the lowest and the highest word of kinds 0, 4, 5 and 7. -/
theorem test_witness_WordsOutOfPlace_word :
    (0x00000 : BitVec 20).toNat = false.toNat * 524288 + (0 : BitVec 3).toNat * 65536 + (0 : BitVec 16).toNat ∧
    (0xCFFFF : BitVec 20).toNat = true.toNat * 524288 + (4 : BitVec 3).toNat * 65536 + (0xFFFF : BitVec 16).toNat ∧
    (0x50000 : BitVec 20).toNat = false.toNat * 524288 + (5 : BitVec 3).toNat * 65536 + (0 : BitVec 16).toNat ∧
    (0xFFFFF : BitVec 20).toNat = true.toNat * 524288 + (7 : BitVec 3).toNat * 65536 + (0xFFFF : BitVec 16).toNat ∧
    5 ≤ (5 : BitVec 3).toNat ∧ 5 ≤ (7 : BitVec 3).toNat := by simp

theorem test_witness_WordsOutOfPlace :
    (State.reset.port 5).state = .off ∧ parityGood true 0 0xFFFF = true ∧
    ((withPort (part .run) .discarding).port 0).state = .discarding ∧ parityGood false 2 0 = true ∧ parityGood true 3 0 = true ∧
    parityGood false 4 0 = true ∧
    ((withPort (part .run) .idle).port 0).state = .idle ∧ parityGood false 0 0 = false ∧ parityGood true 1 0 = false ∧
    parityGood true 2 0 = false ∧ parityGood false 3 0 = false ∧ parityGood true 4 0 = false ∧
    (5 ≤ (5 : BitVec 3).toNat ∧ parityGood true 5 0 = true ∧ parityGood false 5 0 = false) ∧
    (5 ≤ (7 : BitVec 3).toNat ∧ parityGood false 7 0 = true ∧ parityGood true 7 0 = false) := by decide +kernel

/-- Port 0 IDLE with two exposures, stream 0 OPEN with `held` of its one frame held, `n` free cells. -/
def offered (n held : Nat) (x : StreamState := .opened) : State :=
  let s := (withPort (part .run n) .idle).setExposures 0 [exposure 1 1000, exposure 2 1000]
  s.setStream 0 { s.stream 0 with state := x, framesHeld := held }

/-- The hypotheses on the word and the list that FrameStartAdmits and FrameStartRefused share. -/
def Matched (s : State) : Prop :=
  (s.port 0).state = .idle ∧ parityGood true 1 0x0001 = true ∧ s.exposures 0 = [exposure 1 1000, exposure 2 1000] ∧
  (exposure 1 1000).count = (0x0001 : BitVec 16).extractLsb' 0 8

theorem test_witness_FrameStartAdmits :
    let s := offered 257 0
    Matched s ∧ (s.stream 0).boundPort = 0 ∧ (s.stream 0).state = .opened ∧ (s.stream 0).framesHeld < (s.stream 0).maxHeld.toNat ∧
      s.cbm.reserved + 256 + (s.stream 0).reservation.toNat ≤ s.freeCount := by unfold Matched; decide +kernel

theorem test_witness_FrameStartRefused :
    (∀ s ∈ [offered 257 0 .closed, offered 257 1, offered 256 0], Matched s) ∧ ((offered 257 0 .closed).stream 0).state ≠ .opened ∧
      ¬ ((offered 257 1).stream 0).framesHeld < ((offered 257 1).stream 0).maxHeld.toNat ∧
      ¬ (offered 256 0).cbm.reserved + 256 + ((offered 256 0).stream 0).reservation.toNat ≤ (offered 256 0).freeCount := by
  unfold Matched; decide +kernel

/-- Port 0 IDLE under orphan policy `fwd` and sequence check `check`, with this list. -/
def orphaned (fwd check : Bool) (l : List Exposure) : State :=
  let s := (offered 257 0).setExposures 0 l
  s.setPort 0 { s.port 0 with orphanForward := fwd, seqCheck := check }

theorem test_witness_OrphanFrame :
    (∀ s ∈ [orphaned false true [exposure 2 9], orphaned true true [exposure 2 9]], (s.port 0).state = .idle ∧
      (s.port 0).seqCheck = true ∧ ∀ x ∈ s.exposures 0, x.count ≠ (0x0001 : BitVec 16).extractLsb' 0 8) ∧
    (let s := orphaned false false []; (s.port 0).seqCheck = false ∧ s.exposures 0 = []) ∧
    (let s := orphaned true true [exposure 2 9];
      (s.port 0).orphanForward = true ∧ (s.stream (s.port 0).defaultStream).boundPort = 0 ∧
        (s.stream (s.port 0).defaultStream).state = .opened ∧
        (s.stream (s.port 0).defaultStream).framesHeld < (s.stream (s.port 0).defaultStream).maxHeld.toNat ∧
        s.cbm.reserved + 256 + (s.stream (s.port 0).defaultStream).reservation.toNat ≤ s.freeCount) ∧
    (let s := (orphaned true true [exposure 2 9]).setFree [⟨10, 256⟩];
      ¬ s.cbm.reserved + 256 + (s.stream (s.port 0).defaultStream).reservation.toNat ≤ s.freeCount) ∧
    (let s := (orphaned true true [exposure 2 9]).setPort 0
        { (orphaned true true []).port 0 with defaultStream := 1 };
      (s.stream (s.port 0).defaultStream).boundPort ≠ 0) ∧
    parityGood true 1 0x0001 = true := by decide +kernel

theorem test_witness_MatchSkipsOlder :
    let s := (offered 257 0).setExposures 0 [exposure 1 9, exposure 2 9, exposure 3 9]
    (s.port 0).seqCheck = true ∧ s.exposures 0 = [exposure 1 9] ++ exposure 2 9 :: [exposure 3 9] ∧
      ∀ x ∈ [exposure 1 9], x.count ≠ (exposure 2 9).count := by decide +kernel

/-- Port 0 IN_FRAME on the OPEN stream 0, the reserved total its frame's. -/
def inFrame (a : Option Assembly) (remaining : Nat) (x : StreamState := .opened) : State :=
  let s := withStream (withPort (part .run) .inFrame (some (frame a remaining))) [] x
  (s.setStream 0 { s.stream 0 with inProgress := true, framesHeld := 1 }).setReserved remaining

/-- The hypotheses on the port that the words inside a frame share. -/
def Framed (s : State) (a : Option Assembly) (remaining : Nat) : Prop :=
  (s.port 0).state = .inFrame ∧ (s.port 0).frame = some (frame a remaining)

theorem test_witness_LineStartCounts :
    parityGood false 2 0 = true ∧ Framed (inFrame none 1) none 1 ∧
      (let f := { frame none 1 with lines := 65535 };
        ((withPort (part .run) .inFrame (some f)).port 0).frame = some f) ∧
      ((withPort (part .run) .idle).port 0).state = .idle ∧
      ((withPort (part .run) .discarding).port 0).state = .discarding := by unfold Framed; decide +kernel

theorem test_witness_DataFillsCell :
    (∀ n ∈ [1, 27], Framed (inFrame (some ⟨5, n⟩) 0) (some ⟨5, n⟩) 0 ∧ n < 28) ∧ Memory.wf (inFrame (some ⟨5, 27⟩) 0).cbm.mem = true := by
  unfold Framed; decide +kernel

theorem test_witness_DataTakesNewCell :
    (∀ a ∈ [none, some ⟨5, 28⟩], Framed (inFrame a 1) a 1) ∧ (0 < 1 ∧ (⟨5, 28⟩ : Assembly).words = 28) ∧
      freeCells (inFrame none 1).cbm.free = 10 :: (List.range 299).map (· + 11) ∧ Memory.wf (inFrame none 1).cbm.mem = true := by
  unfold Framed; decide +kernel

theorem test_witness_DataTruncated :
    (∀ a ∈ [none, some ⟨5, 28⟩], Framed (inFrame a 0) a 0) ∧ (⟨5, 28⟩ : Assembly).words = 28 := by unfold Framed; decide +kernel

/-- The hypotheses that FrameEndCloses and FrameStartAborts share. -/
def Ending (s : State) (a : Option Assembly) (remaining : Nat) : Prop :=
  Framed s a remaining ∧ (s.stream 0).state ≠ .closed ∧ s.cbm.reserved - remaining < s.freeCount ∧
  freeCells s.cbm.free = 10 :: (List.range 299).map (· + 11)

theorem test_witness_FrameEndCloses :
    parityGood false 4 0 = true ∧ Ending (inFrame (some ⟨5, 20⟩) 14) (some ⟨5, 20⟩) 14 ∧ Ending (inFrame none 3 .draining) none 3 ∧
    (let s := (inFrame none 3 .draining).setReserved 303;
      Framed s none 3 ∧ (s.stream 0).state = .draining ∧ (s.stream 0).queue = [] ∧ s.freeCount ≤ s.cbm.reserved - 3) := by
  unfold Ending Framed; decide +kernel

/-- R106: a DRAINING stream whose last frame ends with its record lost becomes CLOSED. -/
theorem test_drained_by_loss :
    ∃ t, exec (.frameEnd 0 false 0) ((inFrame none 3 .draining).setReserved 303) = .next t ∧ (t.stream 0).state = .closed ∧
      t.evu.has .cbmRecordLost = true ∧ t.evu.has .cbmStreamClosed = true := ⟨_, rfl, by decide +kernel⟩

theorem test_witness_FrameStartAborts :
    parityGood true 1 0x0001 = true ∧ Ending (inFrame (some ⟨5, 28⟩) 0) (some ⟨5, 28⟩) 0 ∧ Ending (inFrame none 3 .draining) none 3 ∧
    (let s := (inFrame none 3 .draining).setReserved 303;
      Framed s none 3 ∧ (s.stream 0).state = .draining ∧ (s.stream 0).queue = [] ∧ s.freeCount ≤ s.cbm.reserved - 3) ∧
    ((withPort (part .run) .discarding).port 0).state = .discarding := by
  unfold Ending Framed; decide +kernel

theorem test_witness_ExposureExpires :
    let s : State := { (offered 257 0).setExposures 0 [exposure 1 2000, exposure 2 1000] with
      bpt := { State.reset.bpt with lineTime := 1000 } }
    s.exposures 0 = [exposure 1 2000] ++ exposure 2 1000 :: [] ∧ reached s.bpt.lineTime 1000 = true ∧
      ∀ x ∈ [exposure 1 2000] ++ [], reached s.bpt.lineTime x.deadline = false := by decide +kernel

theorem test_witness_RecordQueuedOrLost :
    (let s := withStream ((part .run 4).setReserved 4) [queued 5 .dataFirst 7, queued 6 .dataLast 7, queued 7 .capture 6];
      s.freeCount ≤ s.cbm.reserved ∧ (s.stream 0).queue = [queued 5 .dataFirst 7] ++ queued 6 .dataLast 7 :: [queued 7 .capture 6] ∧
        (queued 6 .dataLast 7).kind.isData = true ∧ (queued 7 .capture 6).kind.isData = false) ∧
    ((part .run).stream 0).state = .closed ∧ ((part .run).stream 0).queue = [] := by decide +kernel

theorem test_witness_CellsAsSent : (req []).length ≤ 56 ∧ ([] : List Byte).length ≤ 56 := by decide

/-- The part in RUN with slot 0 of the active calendar `x`, the slot pointer there. -/
def slotted (s : State) (x : Slot) : State := { s with scd := { s.scd with active := s.scd.active.set 0 x, slotPtr := 0 } }

/-- What CellSlotCarries asks of every slot. -/
def Free (s : State) : Prop := s.flk.tx = none ∧ ¬ (s.scd.slotPtr = 255 ∧ s.scd.swapPending = true)

theorem test_witness_CellSlotCarries :
    (Free State.reset ∧ State.reset.flk.rx ≠ .sync) ∧
    (let s := (slotted (part .run) .mgmt).setOutput [.response false [1, 0, 12]];
      Free s ∧ s.flk.rx = .sync ∧ s.scd.active[s.scd.slotPtr] = .mgmt ∧ s.mge.output = [.response false [1, 0, 12]]) ∧
    (∀ x ∈ [StreamState.opened, .draining],
      let s := slotted (withStream (part .run) [queued 5 .dataOnly 7] x) (.stream 0)
      Free s ∧ s.flk.rx = .sync ∧ s.scd.active[s.scd.slotPtr] = .stream 0 ∧ (s.stream 0).state ≠ .closed ∧
        (s.stream 0).queue = [queued 5 .dataOnly 7] ∧ s.flk.held = false ∧ (s.stream 0).inProgress = false) ∧
    ({ part .run with flk := { State.reset.flk with rx := .sync, held := true } } : State).flk.held = true := by
  unfold Free; decide +kernel

/-- Stream 15 spare-eligible, OPEN and with a cell, the spare pointer at it: the last of the rotation (R138). -/
def spared (x : Slot) : State :=
  let s := slotted (part .run) x
  let s := { s with scd := { s.scd with sparePtr := 15 } }
  s.setStream 15 { s.stream 15 with spare := true, state := .opened, queue := [queued 5 .dataOnly 7] }

theorem test_witness_SpareSlotRotates :
    (let s := slotted (withStream (part .run) [queued 5 .dataOnly 7]) (.stream 0);
      s.flk.tx = none ∧ s.flk.rx = .sync ∧ s.scd.active[s.scd.slotPtr] = .stream 0 ∧ (s.stream 0).state ≠ .closed ∧
        (s.stream 0).queue ≠ [] ∧ s.flk.held = false) ∧
    (let s := slotted (withStream (part .run)) (.stream 0);
      s.flk.tx = none ∧ s.flk.rx = .sync ∧ s.scd.active[s.scd.slotPtr] = .stream 0 ∧ (s.stream 0).queue = []) ∧
    (∀ x ∈ [Slot.none, .mgmt, .stream 3],
      let s := spared x
      s.flk.tx = none ∧ s.flk.rx = .sync ∧ s.scd.active[s.scd.slotPtr] = x ∧ s.mge.output = [] ∧ (s.stream 3).state = .closed ∧
        s.flk.held = false ∧ (s.stream 15).spare = true ∧ (s.stream 15).state ≠ .closed ∧ (s.stream 15).queue ≠ [] ∧
        ∀ j, (s.stream j).spare = true → (15 - (s.scd.sparePtr + 1) : StreamIx).val ≤ (j - (s.scd.sparePtr + 1)).val) ∧
    (let s := slotted (part .run) .none; ∀ i, ¬ (s.stream i).spare = true) ∧
    (((slotted (part .run) .none).setOutput [.event []]).mge.output = [.event []]) := by decide +kernel

theorem test_witness_SlotPointerAndSwap :
    let s : State := { part .run with scd := { State.reset.scd with slotPtr := 255, swapPending := true } }
    s.flk.tx = none ∧ s.scd.slotPtr.val = 255 ∧ s.scd.swapPending = true := by decide +kernel

/-- The part HELD with `n` slots left, the expiry due or not, and this cell in transmission. -/
def holding (n : Nat) (expiry : Bool) (tx : Option TxCell) : State :=
  { part .run with flk := { State.reset.flk with rx := .sync, tx, held := true, timer := n, expiryDue := expiry } }

theorem test_witness_TransmissionEnds :
    (∀ o ∈ [TxOwner.idle, .stream 5, .response true, .event true], ∀ n ∈ [0, 1, 2], ∀ b ∈ [true, false],
      let s := holding n b (some ⟨o, []⟩)
      s.flk.tx = some ⟨o, []⟩ ∧ s.flk.timer = n ∧ s.flk.held = true ∧ s.flk.expiryDue = b) ∧
    (holding 1 true none).flk.tx = none ∧ (holding 1 true none).flk.expiryDue = true := by decide +kernel

/-- R131, R140: the slot ends at which the timer runs out; the next slot's selection may come first, decided under the hold, or the expiry. A
RESUME between them leaves no expiry (R130). -/
theorem test_expiry_either_order :
    let s := withStream (holding 1 false (some ⟨.idle, []⟩)) [queued 5 .dataOnly 7]
    let s := slotted s (.stream 0)
    (∃ t, runs [.transmissionEnd, .cellSlot, .holdExpiry] s = .next t ∧ t.flk.tx.map TxCell.owner = some .idle ∧ t.flk.held = false ∧
      t.evu.has .flkHoldExpired = true) ∧
    (∃ t, runs [.transmissionEnd, .holdExpiry, .cellSlot] s = .next t ∧ t.flk.tx.map TxCell.owner = some (.stream 5) ∧
      t.evu.has .flkHoldExpired = true) ∧
    (takeResume (tickHold s)).flk.expiryDue = false :=
  ⟨⟨_, rfl, by decide +kernel⟩, ⟨_, rfl, by decide +kernel⟩, by decide +kernel⟩

set_option maxRecDepth 20000 in
theorem test_witness_ReceiverChanges :
    BadCell (cell 0 0 [] 1) ∧ BadCell (cell 8 0 []) ∧ BadCell (cell 9 57 []) ∧ 4 ≤ 3 + 1 ∧ 2 + 1 < 4 ∧ State.reset.flk.rx = .search ∧
      (part .run).flk.rx = .sync := by unfold BadCell crcRight; decide +kernel

set_option maxRecDepth 20000 in
theorem test_witness_GoodCellsTaken :
    GoodCell 0 (cell 0 0 []) ∧ GoodCell 9 (cell 9 56 [1, 12]) ∧ GoodCell 10 (cell 10 0 []) ∧ GoodCell 11 (cell 11 0 []) ∧
      14 + 1 < 16 ∧ 16 ≤ 15 + 1 ∧ (asked (part .run) [1, 12]).mge.requests.length < 8 ∧ 8 ≤ (List.replicate 8 (req [])).length := by
  unfold GoodCell crcRight; decide +kernel

theorem test_witness_TakesAnswerOnce :
    isTake .status = true ∧ (asked (part .run) [7, 12]).offers (req [7, 12]) [] := by decide +kernel

/-! A statement about a request asks that the state offers it, which `asked` gives for every request, and then puts a condition on
the request's bytes and on the owner. -/

theorem test_witness_offers (x : Level) (l : List Nat) : (asked (part x) l).offers (req l) [] :=
  ⟨rfl, rfl, show (0 : Nat) < 15 by decide⟩

theorem test_witness_RequestsThatOnlyRead :
    (∀ n ∈ [0, 14, 255], let r := req [1, n]; reqOp r = 0 ∨ 13 < reqOp r) ∧
    (let r := req [1, 1, 12, 0]; reqOp r = 1 ∧ 12 ≤ reqTable r) ∧
    (let r := req [1, 1, 0, 4]; reqTable r < 12 ∧ 4 ≤ reqIndex r) ∧
    (∀ x ∈ [(0, 3), (1, 15), (2, 5), (3, 15), (4, 255), (5, 255), (6, 0), (7, 0), (8, 0), (9, 0), (10, 0), (11, 10)],
      let r := req [1, 1, x.1, x.2];
      reqOp r = 1 ∧ reqTable r = x.1 ∧ reqIndex r = x.2) ∧
    reqOp (req [1, 12]) = 12 := by decide +kernel

theorem test_witness_CountersRead :
    (∀ l ∈ [[1, 4, 11], [1, 4, 8, 16]], let r := req l; reqOp r = 4 ∧ (10 < reqNat r 2 ∨ reqNat r 2 = 8 ∧ 15 < reqNat r 3)) ∧
    (let r := req [1, 4, 10, 255, 2]; reqNat r 2 ≤ 10 ∧ ¬ (reqNat r 2 = 8 ∧ 15 < reqNat r 3) ∧ 1 < reqNat r 4) ∧
    (∀ g ∈ List.range 11, ∀ flag ∈ [0, 1], let r := req [1, 4, g, 15, flag];
      reqOp r = 4 ∧ reqNat r 2 = g ∧ reqNat r 3 = 15 ∧ reqNat r 4 = flag) := by decide +kernel

theorem test_witness_EventsCleared :
    (let r := req [1, 5, 11]; reqOp r = 5 ∧ 10 < reqNat r 2) ∧
    (let r := req [1, 5, 10, 0, 0x40]; reqNat r 2 = 10 ∧ byteAt r 4 &&& ~~~0x3F#8 ≠ 0) ∧
    (let r := req [1, 5, 10, 0, 0x3F]; reqNat r 2 = 10 ∧ byteAt r 4 &&& ~~~0x3F#8 = 0) := by decide +kernel

theorem test_witness_TimingTablesWritten :
    (∀ t ∈ [6, 7, 8], let r := req [1, 2, t, 1]; reqOp r = 2 ∧ reqTable r = t ∧ reqIndex r ≠ 0) ∧
    (let r := req [1, 2, 6, 0, 0, 0x0F, 15, 6, 6, 1];
      reqMask r < 16 ∧ carriedAtMost [1, 1, 1, 1] r 3 1 ∧ carriedValue [1, 1, 1, 1] r 0 = 15) ∧
    (let r := req [1, 2, 6, 0, 0, 0x08, 2]; ¬ carriedAtMost [1, 1, 1, 1] r 3 1) ∧ ¬ reqMask (req [1, 2, 6, 0, 0, 0x10]) < 16 ∧
    reqMask (req [1, 2, 7, 0, 0, 1, 9]) < 2 ∧ 2 ≤ reqMask (req [1, 2, 7, 0, 0, 2]) ∧ reqMask (req [1, 2, 8, 0, 0, 0x3F]) < 64 ∧
    64 ≤ reqMask (req [1, 2, 8, 0, 0, 0x40]) ∧ (part .listen).ccr.engine = none ∧ (part .listen).ccr.queue = [] ∧
    (relaying (txn .start)).ccr.engine ≠ none ∧ (part .standby).lvc.level ≠ .listen := by decide +kernel

theorem test_witness_InputTablesWritten :
    (∀ n ∈ [0, 3, 4, 5, 6], let r := req [1, 2, 2, n]; reqOp r = 2 ∧ reqTable r = 2 ∧ reqIndex r = n) ∧
    (let r := req [1, 2, 0, 3, 0, 0x0F, 1, 6, 1, 0xFF, 0xFF, 0xFF];
      reqTable r = 0 ∧ reqIndex r = 3 ∧ reqMask r < 16 ∧ carriedAtMost [1, 1, 1, 3] r 0 1 ∧ carriedAtMost [1, 1, 1, 3] r 2 1) ∧
    (let r := req [1, 2, 0, 3, 0, 1, 2]; ¬ carriedAtMost [1, 1, 1, 3] r 0 1) ∧
    (let r := req [1, 2, 2, 5, 0, 0x08, 15]; reqMask r < 64 ∧ carriedAtMost [1, 2, 2, 1, 1, 1] r 3 15 ∧ (reqMask r).testBit 3 = true) ∧
    (let r := req [1, 2, 2, 5, 0, 0x08, 16]; ¬ carriedAtMost [1, 2, 2, 1, 1, 1] r 3 15) ∧
    (((withPort (part .run) .idle).port 0).enabled = true ∧ ((part .run).port 5).enabled = false) := by decide +kernel

theorem test_witness_OtherTablesWritten :
    (let r := req [1, 2, 12]; reqOp r = 2 ∧ 12 ≤ reqTable r) ∧
    (∀ t ∈ [1, 3], reqIndex (req [1, 2, t, 16]) = 16 ∧ reqIndex (req [1, 2, t, 15]) = 15) ∧
    (let r := req [1, 2, 1, 15, 0, 0x04, 5]; reqTable r = 1 ∧ reqMask r < 128 ∧ carriedAtMost [1, 1, 1, 4, 1, 2, 1] r 2 5) ∧
    (let r := req [1, 2, 1, 15, 0, 0x04, 6]; ¬ carriedAtMost [1, 1, 1, 4, 1, 2, 1] r 2 5) ∧
    (let r := req [1, 2, 3, 15, 0, 0x01, 5]; reqTable r = 3 ∧ reqMask r < 16 ∧ carriedAtMost [1, 2, 1, 1] r 0 5) ∧
    (let r := req [1, 2, 3, 15, 0, 0x01, 6]; ¬ carriedAtMost [1, 2, 1, 1] r 0 5) ∧
    ((part .run).stream 15).state = .closed ∧ ((withStream (part .run)).stream 0).state ≠ .closed ∧
    (let r := req [1, 2, 4, 255, 0, 1, 17]; reqTable r = 4 ∧ reqMask r < 2 ∧ carriedAtMost [1] r 0 17 ∧ reqIndex r = 255) ∧
    (let r := req [1, 2, 4, 255, 0, 1, 18]; ¬ carriedAtMost [1] r 0 17) ∧ (part .run).scd.swapPending = false ∧
    reqTable (req [1, 2, 5]) = 5 ∧ (let r := req [1, 2, 9, 0, 0, 3]; reqTable r = 9 ∧ reqIndex r = 0 ∧ reqMask r < 4) ∧
    4 ≤ reqMask (req [1, 2, 9, 0, 0, 4]) ∧ (let r := req [1, 2, 10, 0, 0, 1]; reqTable r = 10 ∧ reqIndex r = 0 ∧ reqMask r < 2) ∧
    2 ≤ reqMask (req [1, 2, 10, 0, 0, 2]) ∧ reqIndex (req [1, 2, 10, 1]) ≠ 0 := by decide +kernel

/-- BPT.STALL set, the BELT group's notice on and its enables off: a write of the enables makes the group active. -/
theorem test_witness_EventTableWritten :
    (let r := req [1, 2, 11, 11]; reqOp r = 2 ∧ reqTable r = 11 ∧ 11 ≤ reqIndex r) ∧
    (let r := req [1, 2, 11, 0, 0, 1, 0x10]; ¬ newField [1, 1] r 0 0#8 (BitVec.ofNat 8) &&& ~~~0x0F#8 = 0) ∧
    (let r := req [1, 2, 11, 0, 0, 1, 0x01];
      let s : State := { part .run with evu := { State.reset.evu with
        factors := State.reset.evu.factors.set 0 1, notice := State.reset.evu.notice.set 0 true } }
      let e : Evu := { s.evu with enables := s.evu.enables.set 0 1 }
      reqIndex r = 0 ∧ reqMask r < 4 ∧ carriedAtMost [1, 1] r 1 1 ∧ newField [1, 1] r 0 0#8 (BitVec.ofNat 8) &&& ~~~0x0F#8 = 0 ∧
        s.evu.eventPending = false ∧ s.evu.isActive 0 = false ∧ e.isActive 0 = true ∧ e.reported[0] = false) ∧
    (let r := req [1, 2, 11, 10, 0, 2, 1]; reqIndex r = 10 ∧ carriedAtMost [1, 1] r 1 1 ∧ State.reset.evu.factors[10] = 0) ∧
    (let e : Evu := { State.reset.evu with enables := State.reset.evu.enables.set 0 1, notice := State.reset.evu.notice.set 0 true };
      e.isActive 0 = false ∧ (e.mark .bptStall).isActive 0 = true ∧ (e.mark .bptStall).reported[0] = false ∧ e.eventPending = false ∧
        (e.mark .bptReverse).isActive 0 = false) := by
  decide +kernel

theorem test_witness_CalendarRequests :
    (∀ n ∈ [0, 49], let r := req [1, 3, 0, 250, n]; r.length = 56 ∧ reqOp r = 3 ∧ ¬ (1 ≤ reqNat r 4 ∧ reqNat r 4 ≤ 48)) ∧
    (∀ n ∈ [1, 48], let r := req ([1, 3, 0, 250, n, 0] ++ List.replicate 48 17);
      1 ≤ reqNat r 4 ∧ reqNat r 4 ≤ 48 ∧ ∀ k < reqNat r 4, (byteAt r (6 + k)).toNat ≤ 17) ∧
    ¬ (byteAt (req [1, 3, 0, 250, 1, 0, 18]) 6).toNat ≤ 17 ∧ reqOp (req [1, 8]) = 8 ∧ (req [1, 8]).length = 56 ∧
    (∀ n : Fin 256, State.reset.scd.shadow[n] ≠ .mgmt) ∧ State.reset.scd.swapPending = false ∧
    (let s : State := { State.reset with scd := { State.reset.scd with shadow := State.reset.scd.shadow.set 255 .mgmt } };
      s.scd.shadow[(255 : Fin 256)] = .mgmt) := by decide +kernel

theorem test_witness_StreamsOpenAndClose :
    (∀ a ∈ [0, 1, 2, 3], let r := req [1, 6, 16, a]; reqOp r = 6 ∧ 16 ≤ reqNat r 2 ∧ reqNat r 3 = a) ∧
    (let r := req [1, 6, 15, 3]; reqNat r 2 < 16 ∧ 3 ≤ reqNat r 3) ∧ ((part .run).stream 0).state = .closed ∧
    (let s := withStream (part .run); (s.stream 0).state = .opened ∧ (s.stream 0).queue = [] ∧ (s.stream 0).inProgress = false) ∧
    (((inFrame none 1).stream 0).state = .opened ∧ ((inFrame none 1).stream 0).inProgress = true) ∧
    ((withStream (part .run) [] .draining).stream 0).state = .draining := by decide +kernel

/-- A stream with a frame in progress whose assembly cell is 5 and an open-transmitted frame, `n` free cells. -/
def flushing (n : Nat) (remaining : Nat) : State :=
  let s := (inFrame (some ⟨5, 6⟩) remaining).setFree [⟨10, n⟩]
  s.setStream 0 { s.stream 0 with queue := [queued 6 .dataMid 5], openTx := true, openTxNo := 4 }

theorem test_witness_FlushedStream :
    (let r := req [1, 6, 0, 2]; reqOp r = 6 ∧ reqNat r 2 = 0 ∧ reqNat r 3 = 2) ∧ ((part .run).stream 0).state = .closed ∧
    (∀ s ∈ [flushing 3 0, flushing 0 4],
      (s.stream 0).state ≠ .closed ∧ (s.stream 0).inProgress = true ∧ ((s.port 0).frame.map FrameCtx.stream) = some 0 ∧
        (∀ q : PortIx, q ≠ 0 → (s.port q).frame = none) ∧ (s.stream 0).openTx = true) ∧
    (let s := withStream (part .run) [] .draining;
      (s.stream 0).state ≠ .closed ∧ (s.stream 0).inProgress = false ∧ (s.stream 0).openTx = false) ∧
    (freeCells (flushing 3 0).cbm.free ++ [6] ++ [5] = 10 :: [11, 12, 6, 5] ∧ (flushing 3 0).cbm.reserved - 0 < 5) ∧
    (let s := (flushing 0 4).setReserved 6; (freeCells s.cbm.free ++ [6] ++ [5]).length ≤ s.cbm.reserved - 4) := by decide +kernel

/-- R107, R140: a slot decided after a FLUSH sees the stream's new queue: the FLUSHED record in the stream's own slot, or, where none was queued,
nothing of the stream (R108). -/
theorem test_slot_after_flush :
    let s := asked (slotted (flushing 3 0) (.stream 0)) [1, 6, 0, 2]
    (∃ t, exec .flushStream s = .next t ∧ chooseCell t = .stream 0 false ∧ (t.stream 0).queue.map QCell.kind = [.capture]) ∧
    (∃ t, exec .flushStream (s.setStream 0 { s.stream 0 with openTx := false }) = .next t ∧ chooseCell t = .mgmt ∧ (t.stream 0).queue = []) :=
  ⟨⟨_, rfl, by decide +kernel⟩, ⟨_, rfl, by decide +kernel⟩⟩

theorem test_witness_PortsEnabledAndDisabled :
    (∀ a ∈ [0, 1, 2], let r := req [1, 7, 6, a]; reqOp r = 7 ∧ 6 ≤ reqNat r 2 ∧ reqNat r 3 = a) ∧
    (let r := req [1, 7, 5, 2]; reqNat r 2 < 6 ∧ 2 ≤ reqNat r 3) ∧ ((part .run).port 0).enabled = false ∧
    (let s := (withPort (part .run) .idle).setExposures 0 [exposure 1 9];
      (s.port 0).enabled = true ∧ (s.port 0).state ≠ .inFrame ∧ (s.port 0).frame = none ∧ s.exposures 0 = [exposure 1 9]) ∧
    (let s := (inFrame (some ⟨5, 6⟩) 2).setExposures 0 [exposure 1 9, exposure 2 9];
      (s.port 0).enabled = true ∧ (s.port 0).state = .inFrame ∧ (s.port 0).frame.isSome = true ∧ (s.exposures 0).length = 2) := by
  decide +kernel

theorem test_witness_SetLevelRequest :
    (∀ n ∈ [0, 1, 2, 3], let r := req [1, 9, n]; reqOp r = 9 ∧ reqNat r 2 = n) ∧
    (∀ x ∈ [Level.powering, .emptying, .shutting, .listen, .standby, .run], (part x).lvc.level = x) ∧
    ((part .run).setTrigQueue [entry 1]).trq.queue = [entry 1] := by decide +kernel

theorem test_witness_PresetRelayAndSoftReset :
    reqOp (req [1, 10]) = 10 ∧ reqOp (req [1, 13]) = 13 ∧ (part .run).lvc.level ≠ .listen ∧
    (∀ x ∈ [Level.listen, .standby], (part x).trq.queue = [] ∧ (part x).trq.queue.length ≤ 64) ∧
    (let r := req [1, 11, 7]; reqOp r = 11 ∧ 7 ≤ reqNat r 2) ∧
    (∀ n ∈ [0, 5, 6], let r := req [1, 11, n, 127, 16, 0, 1];
      reqNat r 2 = n ∧ reqNat r 3 ≤ 127 ∧ reqNat r 4 ≤ 16 ∧ reqNat r 5 ≤ 16 ∧ reqNat r 6 ≤ 1 ∧ (reqNat r 2 = 6 → reqNat r 5 = 0)) ∧
    (∀ l ∈ [[1, 11, 0, 128], [1, 11, 0, 0, 17], [1, 11, 0, 0, 0, 17], [1, 11, 0, 0, 0, 0, 2], [1, 11, 6, 0, 0, 1]], let r := req l;
      ¬ (reqNat r 3 ≤ 127 ∧ reqNat r 4 ≤ 16 ∧ reqNat r 5 ≤ 16 ∧ reqNat r 6 ≤ 1 ∧ (reqNat r 2 = 6 → reqNat r 5 = 0))) ∧
    (part .run).ccr.queue.length < 4 ∧ 4 ≤ (List.replicate 4 (relayReq .all)).length := by decide +kernel

theorem test_witness_RelayTakenAndReported :
    (∀ p ∈ [RelayPort.one 0, .all], let s : State := { part .run with ccr := { State.reset.ccr with queue := [relayReq p] } };
      s.ccr.engine = none ∧ s.ccr.queue = [relayReq p] ∧ (relayReq p).aborted = false ∧ ∀ q, (s.port q).enabled = false) ∧
    ({ relayReq .all with aborted := true } : RelayReq).aborted = true ∧
    (let s := withPort (part .run) .idle; (s.port 0).enabled = true ∧ ∀ q, q < (0 : PortIx) → (s.port q).enabled = false) ∧
    (let x := txn .report; (relaying x).ccr.engine = some x ∧ x.phase = .report ∧ (relaying x).responses < 15) := by decide +kernel

theorem test_witness_RelayOpensLine :
    (let s := relaying (txn .deferring);
      s.quiet 0 = true ∧ (s.setExposures 0 [exposure 1 9]).quiet 0 = false ∧ reached s.bpt.lineTime (500 : LineTime) = false ∧
        reached (500 : LineTime) (500 : LineTime) = true) ∧
    (let x := txn .lineCheck;
      (relaying x).ccr.engine = some x ∧ x.freeTicks + 1 < x.timing.busFreeWait.toNat ∧
        x.timing.busFreeWait.toNat ≤ ({ x with freeTicks := 3 } : Txn).freeTicks + 1) ∧
    (let x := txn .start;
      x.highTicks + 1 < x.timing.highLen + 1 ∧ x.timing.highLen + 1 ≤ ({ x with highTicks := 1 } : Txn).highTicks + 1 ∧
        x.phase.stall = some .start ∧ x.holdCount + 1 < x.timing.stallLimit.toNat ∧
        x.timing.stallLimit.toNat ≤ ({ x with holdCount := 9999 } : Txn).holdCount + 1) ∧
    (let x := { txn .stop with lowTicks := 2 }; x.phase.stall = some .stop ∧ x.timing.lowLen < x.lowTicks) := by decide +kernel

theorem test_witness_RelayBit :
    ∀ ph ∈ [RelayPhase.address, .write, .read], ∀ n ∈ [0, 7, 8], let x := { txn ph with bitIx := n };
      (relaying x).ccr.engine = some x ∧ x.phase ∈ [.address, .write, .read] ∧ x.lowTicks = 0 ∧ x.highTicks = 0 ∧ x.holdCount = 0 ∧
        x.bitIx ≤ 8 := by decide +kernel

theorem test_witness_RelayRestartsAndStops :
    ∀ ph ∈ [RelayPhase.restart, .stop], let x := txn ph;
      (relaying x).ccr.engine = some x ∧ x.lowTicks = 0 ∧ x.highTicks = 0 ∧ x.holdCount = 0 ∧ x.phase = ph ∧ x.holdStep = false := by
  decide +kernel

/-- The part in a transition with its target and timer. -/
def moving (s : State) (x target : Level) (settle drain : Option LineTime) : State :=
  { s with lvc := { s.lvc with level := x, target := some target, settle, drain } }

theorem test_witness_TransitionsEnd :
    (let s := moving (part .run) .powering .run (some 0) none;
      s.lvc.level = .powering ∧ s.lvc.target = some .run ∧ s.lvc.settle = some 0 ∧ reached s.bpt.lineTime (0 : LineTime) = true) ∧
    (∀ x ∈ [Level.standby, .listen], let s := moving (part .run) .emptying x none (some 0);
      s.lvc.target = some x ∧ (∀ p, s.exposures p = [] ∧ (s.port p).state ≠ .inFrame)) ∧
    (∀ x ∈ [Level.standby, .listen], let s := moving (inFrame none 1) .emptying x none (some 0);
      s.lvc.level = .emptying ∧ s.lvc.drain = some 0 ∧ reached s.bpt.lineTime (0 : LineTime) = true ∧ (s.port 0).state = .inFrame ∧
        ∀ p, (s.port p).frame.isSome = true ↔ (s.port p).state = .inFrame) ∧
    (let s := moving (part .run) .shutting .listen none none;
      s.lvc.level = .shutting ∧ s.ccr.engine = none ∧ ∀ p, (s.port p).state ≠ .inFrame) ∧
    (let s := moving (inFrame (some ⟨5, 6⟩) 1) .shutting .listen none none;
      s.lvc.level = .shutting ∧ s.ccr.engine = none ∧ ∀ p, (s.port p).frame.isSome = true ↔ (s.port p).state = .inFrame) ∧
    ([5, 4, 3, 2, 1, 0] : List PortIx).Perm (List.finRange 6) := by decide +kernel

/-! The invariants' witness is State.reset, where LawsHoldAtReset states each of them; each step from it answers a next state. -/

theorem test_witness_laws_step : ∃ t, step { State.reset with pending := [.referenceClockPeriod] } = .next t := ⟨_, rfl⟩

end Sys2Proof.Tests
end

section
/-! PROOFS. Power-on and the soft reset: the values they give by the named reads, and the laws at reset. -/

namespace Sys2Proof.Machine

/-! ### Power-on values by their named reads -/

theorem State.reset_sensor (n : SensorIx) : State.reset.sensor n = .reset := by
  simp [State.sensor, State.reset, Trq.reset]

theorem State.reset_planEntry (i : PlanIx) : State.reset.planEntry i = .reset := by
  simp [State.planEntry, State.reset, Trq.reset]

theorem State.reset_stage (p : PortIx) : State.reset.stage p = .reset := by
  simp [State.stage, State.reset, Trq.reset]

theorem State.reset_port (p : PortIx) : State.reset.port p = .reset p := by
  simp [State.port, State.reset]

theorem State.reset_exposures (p : PortIx) : State.reset.exposures p = [] := by
  simp [State.exposures, State.reset]

theorem State.reset_stream (i : StreamIx) : State.reset.stream i = .reset i := by
  simp [State.stream, State.reset, Cbm.reset]

theorem State.reset_wiresOf (p : PortIx) : State.reset.wiresOf p = .released := by
  simp [State.wiresOf, State.reset, Ccr.reset]

theorem State.reset_freeCells : freeCells State.reset.cbm.free = List.range 262144 := freeCells_allCells

theorem Scd.reset_active (i : Fin 256) : Scd.reset.active[i] = if i = 0 then Slot.mgmt else Slot.none := by
  by_cases h : i = 0
  · subst h; rfl
  · have hv : ¬ 0 = i.val := fun e => h (Fin.ext e.symm)
    simp [Scd.reset, h, hv]

theorem Scd.reset_shadow (i : Fin 256) : Scd.reset.shadow[i] = Slot.none := by
  simp [Scd.reset]

/-- Every group's registers of EVU after power-on (R191). -/
theorem Evu.reset_group (g : GroupIx) :
    Evu.reset.factors[g] = 0 ∧ Evu.reset.enables[g] = 0 ∧ Evu.reset.notice[g] = false ∧ Evu.reset.reported[g] = false := by
  simp [Evu.reset]

/-- Settles O3: POWER_ON answers the reset state, with the DRAM and the waiting commands of the state before. -/
theorem powerOnState : Obligations.PowerOnState := by
  intro s
  refine ⟨_, rfl, rfl, rfl, rfl, rfl, rfl, State.reset_sensor, State.reset_planEntry, State.reset_stage, rfl, rfl, rfl, rfl, rfl,
    State.reset_port, State.reset_exposures, State.reset_freeCells, rfl, rfl, fun i => ⟨0, State.reset_stream i⟩, rfl,
    Scd.reset_active, Scd.reset_shadow, rfl, rfl, rfl, rfl, rfl, rfl, rfl, rfl, State.reset_wiresOf, Evu.reset_group, rfl, rfl⟩

/-! ### The laws at reset -/

/-- No port holds a frame after power-on, and none is IN_FRAME (R63). -/
theorem framesMatch_reset : FramesMatch State.reset := by
  intro p
  simp [State.reset_port, Port.reset]

theorem State.reset_queuedCells : State.reset.queuedCells = [] := by
  simp [State.queuedCells, State.reset_stream, Stream.reset]

theorem State.reset_assemblyCells : State.reset.assemblyCells = [] := by
  simp [State.assemblyCells, State.assemblyOf, State.reset_port, Port.reset]

/-- Every buffer cell is free after power-on (R112). -/
theorem bufferLaw_reset : BufferLaw State.reset := by
  refine ⟨framesMatch_reset, ?_⟩
  have hsend : State.reset.sendingCells = [] := rfl
  rw [State.reset_freeCells, State.reset_queuedCells, State.reset_assemblyCells, hsend]
  simp

theorem State.reset_remainingOf (p : PortIx) : State.reset.remainingOf p = 0 := by
  simp [State.remainingOf, State.reset_port, Port.reset]

theorem reservedLaw_reset : ReservedLaw State.reset := by
  refine ⟨framesMatch_reset, ?_, Nat.zero_le _⟩
  have hres : State.reset.cbm.reserved = 0 := rfl
  have hrem : State.reset.remainingOf = fun _ => 0 := funext State.reset_remainingOf
  simp [hrem, hres]

theorem streamLaw_reset : StreamLaw State.reset := by
  refine ⟨framesMatch_reset, ?_, ?_, ?_⟩ <;> simp [State.reset_port, State.reset_stream, Port.reset, Stream.reset]

theorem portLaw_reset : PortLaw State.reset :=
  ⟨framesMatch_reset, by simp [LevelLaw, State.reset, Lvc.reset], fun p h => absurd (by rw [State.reset_port]; rfl) h⟩

/-- Slot 0 of the active calendar is a MGMT slot after power-on (R147). -/
theorem calendarLaw_reset : CalendarLaw State.reset := ⟨⟨0, rfl⟩, nofun⟩

theorem relayLaw_reset : RelayLaw State.reset := fun p h => absurd (State.reset_wiresOf p) h

theorem triggerLaw_reset : TriggerLaw State.reset := ⟨Nat.zero_le _, fun _ => rfl⟩

theorem exposureLaw_reset : ExposureLaw State.reset := by
  intro p
  simp [State.reset_exposures]

theorem queueLaw_reset : QueueLaw State.reset := ⟨Nat.zero_le _, Nat.zero_le _, Nat.zero_le _, nofun⟩

/-- No event cell exists after power-on, and no group is reported (R191). -/
theorem eventLaw_reset : EventLaw State.reset :=
  ⟨rfl, fun g h => by
    obtain ⟨-, -, -, hrep⟩ := Evu.reset_group g
    exact absurd (hrep.symm.trans h) Bool.false_ne_true⟩

theorem linkLaw_reset : LinkLaw State.reset := by
  simp [LinkLaw, State.reset, Flk.reset]

theorem memoryLaw_reset : MemoryLaw State.reset := ⟨Memory.wf_reset, nofun⟩

/-- Settles O60, law by law. -/
theorem lawsHoldAtReset : Obligations.LawsHoldAtReset :=
  ⟨bufferLaw_reset, reservedLaw_reset, streamLaw_reset, portLaw_reset, calendarLaw_reset, relayLaw_reset, triggerLaw_reset,
    exposureLaw_reset, queueLaw_reset, eventLaw_reset, linkLaw_reset, memoryLaw_reset⟩

/-! ### The soft reset -/

theorem TrigPolarity.inactiveLevel_eq (x : TrigPolarity) : x.inactiveLevel = (x == .activeLow) := by
  cases x <;> rfl

/-- The free list after a soft reset: every cell ascending, but one in transmission for a stream (R112). -/
theorem freeCells_softCbm (s : State) :
    freeCells (softCbm s.flk.tx s.cbm).free = (List.range 262144).filter (fun k => decide (k ∉ s.sendingCells)) := by
  unfold softCbm State.sendingCells
  rcases s.flk.tx with _ | ⟨_ | index | _ | _, bytes⟩
  case some.stream => simpa [TxOwner.cell] using freeCells_allBut index
  all_goals simpa [TxOwner.cell] using freeCells_allCells

/-- The cell in transmission keeps its bytes, its buffer cell and its place; EVU awaits its end no more (R191). -/
theorem softTx_keeps (x : TxCell) :
    (softTx x).bytes = x.bytes ∧ (softTx x).owner.cell = x.owner.cell ∧ (softTx x).owner ≠ .event true := by
  rcases x with ⟨_ | _ | _ | _, bytes⟩ <;> simp [softTx, TxOwner.cell]

/-- EVU after the soft reset but for CONTROL.SOFT_RESET has no factor set (R191). -/
theorem softEvu_has (e : Evu) (f : Factor) : (softEvu e).has f = false := by
  simp [softEvu, Evu.has, Evu.reset]

/-- No group is in the active set right after EVU's registers are cleared. -/
theorem softEvu_isActive (e : Evu) (g : GroupIx) : (softEvu e).isActive g = false := by
  simp [softEvu, Evu.isActive, Evu.summaryBit, Evu.reset]

/-- CONTROL.SOFT_RESET brings its group into the active set just if its enable and the group's notice enable are on. -/
theorem softEvu_mark_isActive (e : Evu) :
    ((softEvu e).mark .ctlSoftReset).isActive 10 = (e.enables[(10 : GroupIx)].getLsbD 4 && e.notice[(10 : GroupIx)]) := by
  have bit4 : ∀ b : BitVec 8, ((0#8 ||| 1#8 <<< 4) &&& b != 0) = b.getLsbD 4 := by decide
  have mask : ((softEvu e).mark .ctlSoftReset).factors[(10 : GroupIx)] = 0#8 ||| 1#8 <<< 4 := by
    simp [softEvu, Evu.mark, Evu.reset, Factor.ctlSoftReset]
  unfold Evu.isActive Evu.summaryBit
  rw [mask, bit4]
  rfl

/-- A factor set where no group is active, reported or pending: an event cell is created just if its group becomes active (R187). -/
theorem setFactor_of_quiet (f : Factor) (s : State) (hact : s.evu.isActive f.group = false) (hrep : s.evu.reported[f.group] = false)
    (hpend : s.evu.eventPending = false) :
    setFactor f s =
      if (s.evu.mark f).isActive f.group then createEvent { s with evu := s.evu.mark f } else { s with evu := s.evu.mark f } := by
  unfold setFactor judgeEvent
  simp only [hact, Bool.not_false, Bool.and_true]
  split
  · rename_i hnow
    have hrep' : (s.evu.mark f).reported[f.group] = false := hrep
    have news : (s.evu.mark f).hasNews = true :=
      List.any_eq_true.2 ⟨f.group, List.mem_finRange _, by simp [hnow, hrep']⟩
    have hpend' : (s.evu.mark f).eventPending = false := hpend
    simp [news, hpend']
  · rfl

/-- Every block after its part of the soft reset, before EVU sets CONTROL.SOFT_RESET (R164, R191). -/
def softResetBlocks (s : State) : State :=
  { bpt := softBpt s.bpt, trq := softTrq s.cpr s.trq, cpr := s.cpr.map softPort, xcr := { lists := Vector.replicate 6 [] }
    cbm := softCbm s.flk.tx s.cbm, flk := softFlk s.flk, scd := softScd s.scd, mge := .reset, ccr := softCcr s.ccr
    evu := softEvu s.evu, lvc := softLvc s.lvc, pending := s.pending }

theorem softResetAll_eq (s : State) : softResetAll s = setFactor .ctlSoftReset (softResetBlocks s) := rfl

theorem softResetBlocks_sensor (s : State) (n : SensorIx) :
    (softResetBlocks s).sensor n = { s.sensor n with filter := { (s.sensor n).filter with run := 0 }, lastReg := none } := by
  simp [softResetBlocks, State.sensor, softTrq, Filter.soft]

theorem softResetBlocks_stage (s : State) (p : PortIx) :
    (softResetBlocks s).stage p = ⟨0, 0, 0, (s.port p).polarity == .activeLow⟩ := by
  simp [softResetBlocks, State.stage, State.port, softTrq, Stage.reset, TrigPolarity.inactiveLevel_eq]

theorem softResetBlocks_port (s : State) (p : PortIx) : (softResetBlocks s).port p = softPort (s.port p) := by
  simp [softResetBlocks, State.port]

theorem softResetBlocks_exposures (s : State) (p : PortIx) : (softResetBlocks s).exposures p = [] := by
  simp [softResetBlocks, State.exposures]

theorem softResetBlocks_stream (s : State) (i : StreamIx) : (softResetBlocks s).stream i = softStream (s.stream i) := by
  simp [softResetBlocks, State.stream, softCbm]

theorem softResetBlocks_wiresOf (s : State) (p : PortIx) : (softResetBlocks s).wiresOf p = ⟨false, false⟩ := by
  simp [softResetBlocks, State.wiresOf, softCcr, Wires.released]

/-- The cell in transmission goes on through the soft reset (R116, R191). -/
theorem softFlk_tx (s t : State) (h : t.flk = softFlk s.flk) :
    t.flk.tx.map TxCell.bytes = s.flk.tx.map TxCell.bytes ∧ t.sendingCells = s.sendingCells ∧ t.eventsSending = 0 := by
  unfold State.sendingCells State.eventsSending
  rw [h]
  unfold softFlk
  rcases s.flk.tx with _ | x
  · exact ⟨rfl, rfl, rfl⟩
  · obtain ⟨hbytes, hcell, hlive⟩ := softTx_keeps x
    simp only [Option.map_some, hbytes, hcell, true_and]
    split
    · simp_all
    · rfl

/-- CONTROL.SOFT_RESET makes an event cell just if its enable and the CONTROL notice enable are on (R191). -/
theorem softReset_event (s : State) :
    let t := setFactor .ctlSoftReset (softResetBlocks s)
    let on := s.evu.enables[(10 : GroupIx)].getLsbD 4 = true ∧ s.evu.notice[(10 : GroupIx)] = true
    (¬ on ∧ t.mge.output = [] ∧ t.evu.eventPending = false) ∨
      (on ∧ t.evu.eventPending = true ∧ ∃ payload, t.mge.output = [.event payload]) := by
  intro t on
  have hact : ((softResetBlocks s).evu.mark .ctlSoftReset).isActive Factor.ctlSoftReset.group = true ↔ on :=
    (congrArg (· = true) (softEvu_mark_isActive s.evu)).to_iff.trans (by simp [on])
  have ht : t = _ := setFactor_of_quiet .ctlSoftReset (softResetBlocks s) (softEvu_isActive s.evu _)
    (by simp [softResetBlocks, softEvu, Evu.reset]) rfl
  by_cases hon : on
  · rw [if_pos (hact.2 hon)] at ht
    rw [ht]
    exact .inr ⟨hon, rfl, _, rfl⟩
  · rw [if_neg (mt hact.1 hon)] at ht
    rw [ht]
    exact .inl ⟨hon, rfl, rfl⟩

/-- Settles O4: the blocks as their reset rules leave them, then CONTROL.SOFT_RESET set. -/
theorem softResetState : Obligations.SoftResetState := by
  intro s hpend hdue
  have hexec : exec .softResetCarriedOut s = .next (setFactor .ctlSoftReset (softResetBlocks s)) := by
    simp [exec, execSoftResetCarriedOut, hpend, hdue, softResetAll_eq]
  obtain ⟨hbytes, hsend, hlive⟩ :=
    softFlk_tx s (setFactor .ctlSoftReset (softResetBlocks s)) (setFactor_flk .ctlSoftReset (softResetBlocks s))
  have hhas (f : Factor) : (setFactor .ctlSoftReset (softResetBlocks s)).evu.has f = decide (f = .ctlSoftReset) := by
    have h0 : (softResetBlocks s).evu.has f = false := softEvu_has s.evu f
    simp [(setFactor_raised .ctlSoftReset (softResetBlocks s)).factors f, h0]
  have hreported (g : GroupIx) : (softResetBlocks s).evu.reported[g] = false := by
    simp [softResetBlocks, softEvu, Evu.reset]
  refine ⟨_, hexec, ?_⟩
  simp only [setFactor_bpt, setFactor_trq, setFactor_sensor, setFactor_stage, setFactor_port, setFactor_exposures, setFactor_cbm,
    setFactor_stream, setFactor_flk, setFactor_scd, setFactor_mge_requests, setFactor_mge_resetPending, setFactor_mge_resetDue,
    setFactor_mge_dropped, setFactor_ccr, setFactor_wiresOf, setFactor_evu_enables, setFactor_evu_notice, setFactor_evu_reported,
    setFactor_lvc, setFactor_pending] at hbytes ⊢
  exact ⟨rfl, rfl, rfl, rfl, rfl, softResetBlocks_sensor s, softResetBlocks_stage s, rfl, rfl, rfl, rfl, rfl, softResetBlocks_port s,
    softResetBlocks_exposures s, freeCells_softCbm s, rfl, rfl, softResetBlocks_stream s, rfl, hbytes, hsend, hlive, rfl, rfl, rfl, rfl,
    rfl, softReset_event s, rfl, softResetBlocks_wiresOf s, hhas, rfl, rfl, hreported, rfl, rfl⟩

end Sys2Proof.Machine
end

section
/-! PROOFS. The Belt Position Tracker: the prescalers, the input filters, and belt ticks with and without an encoder edge. -/

namespace Sys2Proof.Machine

/-! ### Reference periods (R1, R2) -/

/-- Below its limit a prescaler counts modulo 2^k, and shows a tick just as it comes round (R1). -/
theorem Prescaler.period_eq (k : Nat) (x : Prescaler) (h : x.count < 2 ^ k) :
    x.period k = { count := (x.count + 1) % 2 ^ k, tick := decide ((x.count + 1) % 2 ^ k = 0) } := by
  unfold Prescaler.period
  split
  · rename_i hle
    have heq : x.count + 1 = 2 ^ k := by omega
    simp [heq]
  · rename_i hlt
    have hmod : (x.count + 1) % 2 ^ k = x.count + 1 := Nat.mod_eq_of_lt (by omega)
    simp [hmod]

/-- A prescaler that starts below its limit, after `n` more periods. -/
def Prescaler.after (k n : Nat) (x : Prescaler) : Prescaler :=
  { count := (x.count + n) % 2 ^ k, tick := decide ((x.count + n) % 2 ^ k = 0) }

theorem Prescaler.period_after (k n : Nat) (x : Prescaler) : (x.after k n).period k = x.after k (n + 1) := by
  rw [Prescaler.period_eq k _ (Nat.mod_lt _ (Nat.two_pow_pos k))]
  simp [Prescaler.after, Nat.add_assoc]

/-- Commands carried out in two stretches. -/
theorem runs_append (cs ds : List Instr) (s t : State) (h : runs cs s = .next t) : runs (cs ++ ds) s = runs ds t := by
  induction cs generalizing s with
  | nil => cases h; rfl
  | cons c cs ih =>
    cases hc : exec c s with
    | next u =>
      simp only [runs, hc] at h
      simp only [List.cons_append, runs, hc]
      exact ih u h
    | fault r => nomatch r
    | refused r => simp [runs, hc] at h

/-- The state after `n` reference periods, where each prescaler started below its limit. -/
def State.afterPeriods (n : Nat) (s : State) : State :=
  { s with bpt := { s.bpt with
    lineTime := s.bpt.lineTime + BitVec.ofNat 48 n
    beltPre := s.bpt.beltPre.after s.bpt.tickCode n
    trigPre := s.bpt.trigPre.after s.trq.tickCode n
    relayPre := s.bpt.relayPre.after s.ccr.tickCode n } }

/-- The first period, from prescalers below their limits. -/
theorem exec_period_first (s : State) (hbelt : s.bpt.beltPre.count < 2 ^ s.bpt.tickCode)
    (htrig : s.bpt.trigPre.count < 2 ^ s.trq.tickCode) (hrelay : s.bpt.relayPre.count < 2 ^ s.ccr.tickCode) :
    exec .referenceClockPeriod s = .next (s.afterPeriods 1) := by
  simp only [exec, execReferenceClockPeriod, State.afterPeriods, Prescaler.after, Prescaler.period_eq _ _ hbelt,
    Prescaler.period_eq _ _ htrig, Prescaler.period_eq _ _ hrelay]
  rfl

/-- One period more. -/
theorem exec_period_next (n : Nat) (s : State) : exec .referenceClockPeriod (s.afterPeriods n) = .next (s.afterPeriods (n + 1)) := by
  simp [exec, execReferenceClockPeriod, State.afterPeriods, Prescaler.period_after, BitVec.ofNat_add, BitVec.add_assoc]

/-- Settles O5, by induction on the number of periods. -/
theorem periodsCountLineTime : Obligations.PeriodsCountLineTime := by
  refine ⟨fun s => ⟨_, rfl, rfl⟩, fun n s hbelt htrig hrelay => ?_⟩
  change runs _ s = .next (s.afterPeriods (n + 1))
  induction n with
  | zero => simp [runs, exec_period_first s hbelt htrig hrelay]
  | succ n ih =>
    rw [List.replicate_succ', runs_append _ _ _ _ ih]
    simp [runs, exec_period_next]

/-! ### Input filters (R4) -/

/-- A differing sample that does not complete the run only lengthens it (R4). -/
theorem filterSample_differs {d : Nat} {b : Bool} {f : Filter} (h : f.level ≠ b) (hr : f.run + 1 ≠ 2 ^ d) :
    filterSample d b f = ({ f with run := f.run + 1 }, false) := by
  unfold filterSample
  rw [if_neg (fun e => h e.symm), if_neg hr]

/-- Settles O6: the run of differing samples by induction on its length, the other clauses by the laws of one sample. -/
theorem filterAcceptsAfterDepth : Obligations.FilterAcceptsAfterDepth := by
  refine ⟨fun d n b hpos hle => ?_, filterSample_same, filterSample_accepts⟩
  clear hpos
  induction n with
  | zero => simp [(Nat.two_pow_pos d).ne]
  | succ n ih =>
    have hlt : n ≠ 2 ^ d := by omega
    rw [Function.iterate_succ_apply', ih (by omega), if_neg hlt]
    have hdiff : (Filter.mk (!b) n).level ≠ b := by simp
    by_cases hlast : n + 1 = 2 ^ d
    · simp [filterSample_accepted hdiff hlast, hlast]
    · simp [filterSample_differs hdiff hlast, hlast]

/-! ### Steps that touch BPT and raise factors -/

/-- The step from `s` to `t` raised the factors `fs`, left BPT as `b`, and changed no other block. -/
structure BeltStep (fs : List Factor) (b : Bpt) (s t : State) : Prop where
  raised : Raised fs s t
  rest : t.withReportsOf s = { s with bpt := b }

theorem BeltStep.bpt_eq {fs : List Factor} {b : Bpt} {s t : State} (h : BeltStep fs b s t) : t.bpt = b :=
  congrArg State.bpt h.rest

theorem BeltStep.trans {fs gs : List Factor} {b c : Bpt} {s t u : State} (h : BeltStep fs b s t) (k : BeltStep gs c t u) :
    BeltStep (fs ++ gs) c s u where
  raised := h.raised.trans k.raised
  rest := by
    calc u.withReportsOf s = (u.withReportsOf t).withReportsOf s := rfl
      _ = { t.withReportsOf s with bpt := c } := by rw [k.rest]; rfl
      _ = { s with bpt := c } := by rw [h.rest]

theorem BeltStep.perm {fs gs : List Factor} {b : Bpt} {s t : State} (h : BeltStep fs b s t) (hm : ∀ f, f ∈ fs ↔ f ∈ gs) :
    BeltStep gs b s t := ⟨h.raised.perm hm, h.rest⟩

theorem BeltStep.write (b : Bpt) (s : State) : BeltStep [] b s { s with bpt := b } :=
  ⟨(Raised.refl s).congr rfl rfl rfl rfl, rfl⟩

theorem setFactor_beltStep (f : Factor) (s : State) : BeltStep [f] s.bpt s (setFactor f s) :=
  ⟨setFactor_raised f s, setFactor_withReports f s⟩

theorem countBpt_beltStep (old : BitVec 32) (upd : Bpt → BitVec 32 → Bpt) (s : State) :
    BeltStep (wrapsAt old .bptWrap) (upd s.bpt (old + 1)) s (countBpt old upd s) := by
  refine ⟨countBpt_raised old upd s, ?_⟩
  apply State.ext_blocks <;> simp

/-! ### The interval counter and the stall (R8, R9) -/

/-- What a stall does: the interval invalid, the counter, and the factor with the counter's wrap (R9). -/
theorem takeStall_beltStep (s : State) :
    BeltStep (.bptStall :: wrapsAt s.bpt.stalls .bptWrap) { s.bpt with intervalValid := false, stalls := s.bpt.stalls + 1 } s
      (takeStall s) := by
  have hfactor := (BeltStep.write { s.bpt with intervalValid := false } s).trans (setFactor_beltStep .bptStall _)
  have hcount := hfactor.trans (countBpt_beltStep s.bpt.stalls (fun b n => { b with stalls := n }) _)
  simpa [takeStall] using hcount

/-- BPT after the interval counter's decrement, with the stall it may bring (R8, R9). -/
def Bpt.counted (b : Bpt) : Bpt :=
  { b with
    interval := if b.interval = 0 then 0 else b.interval - 1
    intervalValid := b.intervalValid && decide (b.interval ≠ 1)
    stalls := if b.interval = 1 then b.stalls + 1 else b.stalls }

/-- The factors of the interval counter's decrement: those of a stall, just if it comes from 1 to 0 (R9). -/
def Bpt.stallFactors (b : Bpt) : List Factor := if b.interval = 1 then .bptStall :: wrapsAt b.stalls .bptWrap else []

theorem countInterval_beltStep (s : State) : BeltStep s.bpt.stallFactors s.bpt.counted s (countInterval s) := by
  have hdec := BeltStep.write { s.bpt with interval := if s.bpt.interval = 0 then 0 else s.bpt.interval - 1 } s
  by_cases hone : s.bpt.interval = 1
  · simpa [countInterval, Bpt.stallFactors, Bpt.counted, hone] using hdec.trans (takeStall_beltStep _)
  · simp only [countInterval, Bpt.stallFactors, Bpt.counted, hone, ne_eq, not_false_eq_true, decide_true, Bool.and_true]
    exact hdec

/-! ### Encoder edges (R10, R11) -/

theorem forwardEdge_beltStep (s : State) :
    BeltStep (wrapsAt s.bpt.forwardEdges .bptWrap)
      { s.bpt with
        p := s.bpt.p + 1, lastDir := .forward, fraction := 0, interval := Config.intervalLoad
        lastInterval :=
          if s.bpt.lastDir = .forward ∧ s.bpt.interval ≠ 0 then BitVec.ofNat 24 (max s.bpt.elapsed 1) else s.bpt.lastInterval
        intervalValid := decide (s.bpt.lastDir = .forward ∧ s.bpt.interval ≠ 0)
        forwardEdges := s.bpt.forwardEdges + 1 } s (forwardEdge s) := by
  have hcount := (BeltStep.write
    { s.bpt with
      p := s.bpt.p + 1, lastDir := .forward
      lastInterval :=
        if s.bpt.lastDir = .forward ∧ s.bpt.interval ≠ 0 then BitVec.ofNat 24 (max s.bpt.elapsed 1) else s.bpt.lastInterval
      intervalValid := decide (s.bpt.lastDir = .forward ∧ s.bpt.interval ≠ 0)
      fraction := 0, interval := Config.intervalLoad } s).trans
    (countBpt_beltStep s.bpt.forwardEdges (fun x n => { x with forwardEdges := n }) _)
  exact hcount

theorem reverseEdge_beltStep (s : State) :
    BeltStep (.bptReverse :: wrapsAt s.bpt.reverseEdges .bptWrap)
      { s.bpt with
        p := s.bpt.p - 1, lastDir := .reverse, intervalValid := false, fraction := 0, interval := Config.intervalLoad
        reverseEdges := s.bpt.reverseEdges + 1 } s (reverseEdge s) := by
  have hcount := (BeltStep.write
    { s.bpt with
      p := s.bpt.p - 1, lastDir := .reverse, intervalValid := false, fraction := 0, interval := Config.intervalLoad } s).trans
    (countBpt_beltStep s.bpt.reverseEdges (fun x n => { x with reverseEdges := n }) _)
  have hfactor := hcount.trans (setFactor_beltStep .bptReverse _)
  rw [hcount.bpt_eq] at hfactor
  exact hfactor.perm (by simp [or_comm])

/-! ### The belt tick (R12) -/

/-- BPT with both samples of a belt tick taken (R12, step 1). -/
def Bpt.sampled (step dir : Bool) (b : Bpt) : Bpt :=
  { b with
    stepFilter := (filterSample b.stepDepth step b.stepFilter).1
    dirFilter := (filterSample b.dirDepth dir b.dirFilter).1 }

/-- The state of a belt tick after the samples and the interval counter (R12, steps 1 and 2). -/
def State.ticked (step dir : Bool) (s : State) : State :=
  if s.tracking then countInterval { s with bpt := s.bpt.sampled step dir } else { s with bpt := s.bpt.sampled step dir }

theorem tracking_iff (s : State) : s.tracking = true ↔ s.lvc.level ≠ .listen := by
  simp [State.tracking]

theorem ticked_beltStep_tracking {s : State} (step dir : Bool) (h : s.lvc.level ≠ .listen) :
    BeltStep s.bpt.stallFactors (s.bpt.sampled step dir).counted s (s.ticked step dir) := by
  unfold State.ticked
  rw [if_pos ((tracking_iff s).2 h)]
  have hcount := (BeltStep.write (s.bpt.sampled step dir) s).trans (countInterval_beltStep _)
  exact hcount

theorem ticked_beltStep_listen {s : State} (step dir : Bool) (h : s.lvc.level = .listen) :
    BeltStep [] (s.bpt.sampled step dir) s (s.ticked step dir) := by
  unfold State.ticked
  rw [if_neg (fun ht => (tracking_iff s).1 ht h)]
  exact BeltStep.write _ s

/-- Steps 3 and 4 of a belt tick: an accepted rising transition of the step line while BPT tracks is an edge; without one the fraction is
interpolated while the interval is valid (R7, R12, R14). -/
theorem beltWork_eq (step dir : Bool) (s : State) :
    beltWork step dir s =
      if (filterSample s.bpt.stepDepth step s.bpt.stepFilter).2 && step && s.tracking then
        if (s.ticked step dir).bpt.isForward then forwardEdge (s.ticked step dir) else reverseEdge (s.ticked step dir)
      else if (s.ticked step dir).bpt.intervalValid then
        { s.ticked step dir with bpt := { (s.ticked step dir).bpt with fraction := (s.ticked step dir).bpt.interpolated } }
      else s.ticked step dir := rfl

theorem beltWork_edge {s : State} (dir : Bool) (htrack : s.lvc.level ≠ .listen) (hlow : s.bpt.stepFilter.level = false)
    (hrun : s.bpt.stepFilter.run + 1 = 2 ^ s.bpt.stepDepth) :
    beltWork true dir s =
      if (s.ticked true dir).bpt.isForward then forwardEdge (s.ticked true dir) else reverseEdge (s.ticked true dir) := by
  have hacc : (filterSample s.bpt.stepDepth true s.bpt.stepFilter).2 = true :=
    (filterSample_accepts _ _ _).2 ⟨by simp [hlow], hrun⟩
  rw [beltWork_eq, if_pos (by simp [hacc, (tracking_iff s).2 htrack])]

theorem beltWork_noEdge {s : State} (step dir : Bool)
    (h : ¬ (step = true ∧ (filterSample s.bpt.stepDepth step s.bpt.stepFilter).2 = true ∧ s.lvc.level ≠ .listen)) :
    beltWork step dir s =
      if (s.ticked step dir).bpt.intervalValid then
        { s.ticked step dir with bpt := { (s.ticked step dir).bpt with fraction := (s.ticked step dir).bpt.interpolated } }
      else s.ticked step dir := by
  rw [beltWork_eq, if_neg]
  rw [← tracking_iff] at h
  simpa [and_assoc, and_left_comm] using h

/-- An edge moves P, so F is delivered to TRQ (R12 step 5, R15). -/
theorem deliverF_of_p_ne {s u : State} (h : u.bpt.p ≠ s.bpt.p) : deliverF s.finePos u = changeOfF u := by
  unfold deliverF State.finePos
  rw [if_neg]
  intro e
  have hp := congrArg (fun x : BitVec 40 => x.extractLsb' 8 32) e
  simp only [BitVec.extractLsb'_append_eq_left] at hp
  exact h hp

theorem Bpt.isForward_eq (b : Bpt) : b.isForward = (b.dirFilter.level == (b.polarity == .forwardHigh)) := by
  unfold Bpt.isForward
  cases b.polarity <;> cases b.dirFilter.level <;> rfl

/-- After this tick's decrement the counter stands above 0 just if it stood above 1 (R8, R10). -/
theorem Bpt.counted_interval_ne_zero (b : Bpt) : b.counted.interval ≠ 0 ↔ 1 < b.interval.toNat := by
  simp only [Bpt.counted]
  split <;> bv_omega

/-- The elapsed ticks at an edge, counting this tick's decrement (R8, R10). -/
theorem Bpt.counted_elapsed (b : Bpt) (h : 1 < b.interval.toNat) : b.counted.elapsed = 16777215 - (b.interval.toNat - 1) := by
  have hne : b.interval ≠ 0 := by bv_omega
  simp only [Bpt.counted, Bpt.elapsed, Config.intervalLoad, if_neg hne]
  bv_omega

/-- A measured interval is at least one tick, since the counter has been decremented at least once. -/
theorem Bpt.counted_measured (b : Bpt) (h : 1 < b.interval.toNat) :
    max b.counted.elapsed 1 = 16777215 - (b.interval.toNat - 1) := by
  rw [Bpt.counted_elapsed b h]
  have hlt := b.interval.isLt
  omega

/-- A belt tick with a forward edge (R10). -/
theorem beltWork_forward (s : State) (dir : Bool) (htrack : s.lvc.level ≠ .listen) (hlow : s.bpt.stepFilter.level = false)
    (hrun : s.bpt.stepFilter.run + 1 = 2 ^ s.bpt.stepDepth)
    (hdir : (filterSample s.bpt.dirDepth dir s.bpt.dirFilter).1.level = (s.bpt.polarity == .forwardHigh)) :
    BeltStep (s.bpt.stallFactors ++ wrapsAt s.bpt.forwardEdges .bptWrap)
      { s.bpt with
        stepFilter := { level := true, run := 0 }
        dirFilter := (filterSample s.bpt.dirDepth dir s.bpt.dirFilter).1
        p := s.bpt.p + 1, lastDir := .forward, fraction := 0, interval := 16777215
        intervalValid := decide (s.bpt.lastDir = .forward ∧ 1 < s.bpt.interval.toNat)
        lastInterval :=
          if s.bpt.lastDir = .forward ∧ 1 < s.bpt.interval.toNat then BitVec.ofNat 24 (16777215 - (s.bpt.interval.toNat - 1))
          else s.bpt.lastInterval
        forwardEdges := s.bpt.forwardEdges + 1
        stalls := if s.bpt.interval = 1 then s.bpt.stalls + 1 else s.bpt.stalls } s (beltWork true dir s) := by
  have htick := ticked_beltStep_tracking true dir htrack
  have hfwd : (s.ticked true dir).bpt.isForward = true := by
    rw [htick.bpt_eq, Bpt.isForward_eq]
    exact beq_iff_eq.2 hdir
  have hedge := htick.trans (forwardEdge_beltStep _)
  rw [htick.bpt_eq] at hedge
  rw [beltWork_edge dir htrack hlow hrun, if_pos hfwd]
  have hstep : (s.bpt.sampled true dir).stepFilter = { level := true, run := 0 } := by
    simp [Bpt.sampled, filterSample_accepted (by simp [hlow] : s.bpt.stepFilter.level ≠ true) hrun]
  have hne : (s.bpt.sampled true dir).counted.interval ≠ 0 ↔ 1 < s.bpt.interval.toNat := Bpt.counted_interval_ne_zero _
  have hmeasured :
      (if s.bpt.lastDir = .forward ∧ (s.bpt.sampled true dir).counted.interval ≠ 0 then
        BitVec.ofNat 24 (max (s.bpt.sampled true dir).counted.elapsed 1) else s.bpt.lastInterval) =
      if s.bpt.lastDir = .forward ∧ 1 < s.bpt.interval.toNat then BitVec.ofNat 24 (16777215 - (s.bpt.interval.toNat - 1))
      else s.bpt.lastInterval := by
    refine ite_congr (propext (and_congr_right' hne)) (fun ⟨_, hgt⟩ => ?_) (fun _ => rfl)
    exact congrArg (BitVec.ofNat 24) (Bpt.counted_measured (s.bpt.sampled true dir) hgt)
  have hvalid : decide (s.bpt.lastDir = .forward ∧ 1 < s.bpt.interval.toNat) =
      decide (s.bpt.lastDir = .forward ∧ (s.bpt.sampled true dir).counted.interval ≠ 0) :=
    decide_eq_decide.2 (and_congr_right' hne.symm)
  rw [← hstep, ← hmeasured, hvalid]
  exact hedge

/-- A belt tick with a reverse edge (R11). -/
theorem beltWork_reverse (s : State) (dir : Bool) (htrack : s.lvc.level ≠ .listen) (hlow : s.bpt.stepFilter.level = false)
    (hrun : s.bpt.stepFilter.run + 1 = 2 ^ s.bpt.stepDepth)
    (hdir : (filterSample s.bpt.dirDepth dir s.bpt.dirFilter).1.level = (s.bpt.polarity == .forwardLow)) :
    BeltStep (s.bpt.stallFactors ++ (.bptReverse :: wrapsAt s.bpt.reverseEdges .bptWrap))
      { s.bpt with
        stepFilter := { level := true, run := 0 }
        dirFilter := (filterSample s.bpt.dirDepth dir s.bpt.dirFilter).1
        p := s.bpt.p - 1, lastDir := .reverse, fraction := 0, interval := 16777215, intervalValid := false
        reverseEdges := s.bpt.reverseEdges + 1
        stalls := if s.bpt.interval = 1 then s.bpt.stalls + 1 else s.bpt.stalls } s (beltWork true dir s) := by
  have htick := ticked_beltStep_tracking true dir htrack
  have hrev : ¬ (s.ticked true dir).bpt.isForward = true := by
    rw [htick.bpt_eq, Bpt.isForward_eq]
    change ¬ ((filterSample s.bpt.dirDepth dir s.bpt.dirFilter).1.level == (s.bpt.polarity == .forwardHigh)) = true
    rw [hdir]
    cases s.bpt.polarity <;> simp
  have hedge := htick.trans (reverseEdge_beltStep _)
  rw [htick.bpt_eq] at hedge
  have hstep : (s.bpt.sampled true dir).stepFilter = { level := true, run := 0 } := by
    simp [Bpt.sampled, filterSample_accepted (by simp [hlow] : s.bpt.stepFilter.level ≠ true) hrun]
  rw [beltWork_edge dir htrack hlow hrun, if_neg hrev, ← hstep]
  exact hedge

/-- Settles O7, an edge of each direction. -/
theorem encoderEdges : Obligations.EncoderEdges := by
  refine ⟨fun s dir htrack hlow hrun hdir => ?_, fun s dir htrack hlow hrun hdir => ?_⟩
  · have hstep := beltWork_forward s dir htrack hlow hrun hdir
    have hp : (beltWork true dir s).bpt.p ≠ s.bpt.p := by
      rw [hstep.bpt_eq]
      change s.bpt.p + 1 ≠ s.bpt.p
      bv_omega
    exact ⟨_, congrArg Host.Outcome.next (deliverF_of_p_ne hp), hstep.raised, hstep.rest⟩
  · have hstep := beltWork_reverse s dir htrack hlow hrun hdir
    have hp : (beltWork true dir s).bpt.p ≠ s.bpt.p := by
      rw [hstep.bpt_eq]
      change s.bpt.p - 1 ≠ s.bpt.p
      bv_omega
    exact ⟨_, congrArg Host.Outcome.next (deliverF_of_p_ne hp), hstep.raised, hstep.rest⟩

/-! ### A tick without an edge (R12, R14) -/

/-- The interpolated fraction from the counter itself (R8, R14). -/
theorem Bpt.interpolated_eq (b : Bpt) :
    b.interpolated = BitVec.ofNat 8 (min 255 (256 * (16777215 - b.interval.toNat) / b.lastInterval.toNat)) := by
  have helapsed : b.elapsed = 16777215 - b.interval.toNat := by
    simp only [Bpt.elapsed, Config.intervalLoad]
    bv_omega
  rw [Bpt.interpolated, helapsed]

/-- BPT at the end of a tick without an edge. -/
def Bpt.withFraction (b : Bpt) : Bpt :=
  { b with
    fraction :=
      if b.intervalValid then BitVec.ofNat 8 (min 255 (256 * (16777215 - b.interval.toNat) / b.lastInterval.toNat)) else b.fraction }

theorem beltWork_noEdge_beltStep {s : State} {step dir : Bool} {fs : List Factor} {b : Bpt}
    (h : ¬ (step = true ∧ (filterSample s.bpt.stepDepth step s.bpt.stepFilter).2 = true ∧ s.lvc.level ≠ .listen))
    (htick : BeltStep fs b s (s.ticked step dir)) : BeltStep fs b.withFraction s (beltWork step dir s) := by
  rw [beltWork_noEdge step dir h, htick.bpt_eq, Bpt.interpolated_eq, Bpt.withFraction]
  split
  · simpa using htick.trans (BeltStep.write _ _)
  · exact htick

/-- Settles O8: a tick counts the interval down unless the level is settled LISTEN, and then interpolates; STALL is that count alone. -/
theorem tickWithoutEdge : Obligations.TickWithoutEdge := by
  refine ⟨fun s step dir hno => ?_, fun s htrack hone => ?_⟩
  · intro counts stalls after valid
    by_cases htrack : s.lvc.level = .listen
    · have hstep := beltWork_noEdge_beltStep (dir := dir) hno (ticked_beltStep_listen step dir htrack)
      have hstalls : ¬ stalls := fun h => h.1 htrack
      have hafter : after = (s.bpt.sampled step dir).interval := if_neg (fun h => h.1 htrack)
      have hvalid : valid = (s.bpt.sampled step dir).intervalValid := by simp [valid, hstalls, Bpt.sampled]
      refine ⟨beltWork step dir s, rfl, ?_, ?_⟩
      · rw [if_neg hstalls]
        exact hstep.raised
      · rw [if_neg hstalls, hafter, hvalid]
        exact hstep.rest
    · have hstep := beltWork_noEdge_beltStep (dir := dir) hno (ticked_beltStep_tracking step dir htrack)
      have hstalls : stalls ↔ s.bpt.interval = 1 := and_iff_right htrack
      have hafter : after = (s.bpt.sampled step dir).counted.interval := by
        simp only [after, counts, Bpt.counted, Bpt.sampled, htrack, ne_eq, not_false_eq_true, true_and, ite_not]
        split <;> simp_all
      have hvalid : valid = (s.bpt.sampled step dir).counted.intervalValid := by
        simp only [valid, hstalls]
        rfl
      refine ⟨beltWork step dir s, rfl, ?_, ?_⟩
      · simp only [hstalls]
        exact hstep.raised
      · simp only [hstalls, hafter, hvalid]
        exact hstep.rest
  · have hstep := countInterval_beltStep s
    have hexec : exec .stall s = .next (countInterval s) := by
      simp [exec, execStall, (tracking_iff s).2 htrack, hone]
    refine ⟨_, hexec, ?_, ?_⟩
    · simpa [Bpt.stallFactors, hone] using hstep.raised
    · simpa [Bpt.counted, hone] using hstep.rest

end Sys2Proof.Machine
end

section
/-! PROOFS. Requests: what a take does, the values a WRITE carries, and the rows that BPT, TRQ, CPR and CCR answer. -/

namespace Sys2Proof.Machine

/-! ### Takes (R149, R152) -/

@[simp] theorem State.popped_bpt (s : State) (rest : List Request) : (s.popped rest).bpt = s.bpt := rfl
@[simp] theorem State.popped_trq (s : State) (rest : List Request) : (s.popped rest).trq = s.trq := rfl
@[simp] theorem State.popped_port (s : State) (rest : List Request) (p : PortIx) : (s.popped rest).port p = s.port p := rfl
@[simp] theorem State.popped_ccr (s : State) (rest : List Request) : (s.popped rest).ccr = s.ccr := rfl
@[simp] theorem State.popped_lvc (s : State) (rest : List Request) : (s.popped rest).lvc = s.lvc := rfl

/-- A row takes the request at the head that it accepts: the owner answers on the state without it. -/
theorem takeRow_offers {s : State} {r : Request} {rest : List Request} (h : s.offers r rest) (isReset : Bool) {accepts : Request → Bool}
    (ha : accepts r = true) (owner : Request → State → Answer) :
    takeRow isReset accepts owner s = placeResponse isReset r (owner r (s.popped rest)) := by
  obtain ⟨hreq, hpend, hroom⟩ := h
  have hmay : s.mayTake = true := by simp [State.mayTake, hpend, Config.responseMax, hroom]
  simp only [takeRow, hreq, ha, hmay, Bool.and_self, if_true]
  rfl

/-- The same for a row that takes the requests of one operation. -/
theorem takeRow_op {s : State} {r : Request} {rest : List Request} {op : Nat} (h : s.offers r rest) (isReset : Bool) (hop : reqOp r = op)
    (owner : Request → State → Answer) :
    takeRow isReset (fun q => reqOp q == op) owner s = placeResponse isReset r (owner r (s.popped rest)) :=
  takeRow_offers (accepts := fun q => reqOp q == op) h isReset (beq_iff_eq.2 hop) owner

theorem placeResponse_refuse (r : Request) (x : Status) (s : State) (hx : x ≠ .ok) :
    placeResponse false r (refuse x s) = s.placed (reply r x.code) := by
  simp [placeResponse, responsePayload, refuse, hx, State.placed, reply, reqTag]

theorem placeResponse_okay (r : Request) (s : State) : placeResponse false r (okay s) = s.placed (reply r 0) := by
  simp [placeResponse, responsePayload, okay, State.placed, reply, reqTag, Status.code]

/-! ### The values of a WRITE (R154) -/

/-- The bytes that the selected ones of the fields `k`, `k + 1`, … below the `n`-th take. -/
def widthFrom (ws : List Nat) (k mask n : Nat) : Nat :=
  (((ws.zipIdx k).take n).map (fun (w, m) => if mask.testBit m then w else 0)).sum

theorem widthBelow_eq (ws : List Nat) (mask n : Nat) : widthBelow ws mask n = widthFrom ws 0 mask n := rfl

theorem widthFrom_cons (w : Nat) (ws : List Nat) (k mask n : Nat) :
    widthFrom (w :: ws) k mask (n + 1) = (if mask.testBit k then w else 0) + widthFrom ws (k + 1) mask n := by
  simp [widthFrom]

/-- Fields below the first one looked at are not among them. -/
theorem lookup_takeFields_lt (ws : List Nat) (k m mask : Nat) (bytes : List Byte) (h : m < k) :
    (takeFields ws k mask bytes).lookup m = none := by
  induction ws generalizing k bytes with
  | nil => rfl
  | cons w ws ih =>
    have hne : (m == k) = false := by simp; omega
    unfold takeFields
    split
    · simpa [List.lookup, hne] using ih (k + 1) _ (by omega)
    · exact ih (k + 1) _ (by omega)

/-- The value found for a field: the field's bytes, after those of the selected fields before it. -/
theorem lookup_takeFields (ws : List Nat) (k n mask : Nat) (bytes : List Byte) (hn : n < ws.length) :
    (takeFields ws k mask bytes).lookup (k + n) =
      if mask.testBit (k + n) then some (ofBe ((bytes.drop (widthFrom ws k mask n)).take (ws.getD n 0))) else none := by
  induction ws generalizing k n bytes with
  | nil => simp at hn
  | cons w ws ih =>
    unfold takeFields
    cases n with
    | zero =>
      split
      · rename_i hbit
        simp [List.lookup, hbit, widthFrom]
      · rename_i hbit
        simpa [hbit] using lookup_takeFields_lt ws (k + 1) k mask bytes (by omega)
    | succ n =>
      have hrest := fun b => ih (k + 1) n b (by simpa using hn)
      rw [show k + 1 + n = k + (n + 1) by omega] at hrest
      rw [widthFrom_cons]
      split
      · rename_i hbit
        have hne : (k + (n + 1) == k) = false := by simp
        simp [List.lookup, hne, hrest, List.drop_drop]
      · rename_i hbit
        simp [hrest]

/-- What a WRITE carries for a field of the table. -/
theorem lookup_reqFields (ws : List Nat) (r : Request) (n : Nat) (hn : n < ws.length) :
    (reqFields ws r).lookup n = if (reqMask r).testBit n then some (carriedValue ws r n) else none := by
  have h := lookup_takeFields ws 0 n (reqMask r) (reqValues r) hn
  rw [Nat.zero_add] at h
  exact h

theorem stored_reqFields {α : Type} (ws : List Nat) (r : Request) (n : Nat) (hn : n < ws.length) (old : α) (f : Nat → α) :
    stored (reqFields ws r) n old f = newField ws r n old f := by
  unfold stored newField
  rw [lookup_reqFields ws r n hn]
  cases (reqMask r).testBit n <;> rfl

theorem carries_reqFields (ws : List Nat) (r : Request) (n : Nat) (hn : n < ws.length) :
    carries (reqFields ws r) n = (reqMask r).testBit n := by
  unfold carries
  rw [lookup_reqFields ws r n hn]
  cases (reqMask r).testBit n <;> rfl

theorem not_fieldAtMost (ws : List Nat) (r : Request) (n limit : Nat) (hn : n < ws.length) :
    (!fieldAtMost (reqFields ws r) n limit) = true ↔ ¬ carriedAtMost ws r n limit := by
  unfold fieldAtMost carriedAtMost
  rw [lookup_reqFields ws r n hn]
  cases (reqMask r).testBit n <;> simp

theorem not_maskBelow (n : Nat) (r : Request) : (!maskBelow n r) = true ↔ ¬ reqMask r < 2 ^ n := by
  simp [maskBelow]

/-- A number of `bytes.length` bytes (R113). -/
theorem ofBe_lt (bytes : List Byte) : ofBe bytes < 256 ^ bytes.length := by
  have key : ∀ (l : List Byte) (acc : Nat), l.foldl (fun acc b => acc * 256 + b.toNat) acc < (acc + 1) * 256 ^ l.length := by
    intro l
    induction l with
    | nil => simp
    | cons b l ih =>
      intro acc
      have hb := b.isLt
      calc _ < (acc * 256 + b.toNat + 1) * 256 ^ l.length := ih _
        _ ≤ ((acc + 1) * 256) * 256 ^ l.length := Nat.mul_le_mul_right _ (by omega)
        _ = (acc + 1) * 256 ^ (b :: l).length := by rw [List.length_cons, Nat.pow_succ]; ring
  simpa [ofBe] using key bytes 0

/-- The value of a field fits the field's bytes. -/
theorem carriedValue_lt (ws : List Nat) (r : Request) (n : Nat) : carriedValue ws r n < 256 ^ ws.getD n 0 := by
  refine (ofBe_lt _).trans_le (Nat.pow_le_pow_right (by omega) ?_)
  simp

theorem reqMask_lt (r : Request) : reqMask r < 65536 := by
  have h := ofBe_lt [byteAt r 4, byteAt r 5]
  simpa [reqMask] using h

/-- A field made the same way from every value that fits it. -/
theorem newField_congr {α : Type} (ws : List Nat) (r : Request) (n : Nat) (old : α) {f g : Nat → α}
    (h : ∀ v < 256 ^ ws.getD n 0, f v = g v) : newField ws r n old f = newField ws r n old g := by
  unfold newField
  rw [h _ (carriedValue_lt ws r n)]

theorem clamp_zero (hi : Nat) : clamp 0 hi = min hi := by
  funext x
  simp [clamp]

/-- A numeric field of 16 bits clamped from below (00_scope.md, Clamped and refused). -/
theorem newField_clamp16 (ws : List Nat) (r : Request) (n : Nat) (old : BitVec 16) (hw : ws.getD n 0 = 2) :
    newField ws r n old (fun v => BitVec.ofNat 16 (clamp 1 65535 v)) = newField ws r n old (fun v => BitVec.ofNat 16 (max 1 v)) := by
  refine newField_congr ws r n old fun v hv => ?_
  rw [hw] at hv
  rw [clamp, Nat.min_eq_right (by omega)]

/-- A numeric field of 8 bits clamped from below. -/
theorem newField_clamp8 (ws : List Nat) (r : Request) (n : Nat) (old : BitVec 8) (hw : ws.getD n 0 = 1) :
    newField ws r n old (fun v => BitVec.ofNat 8 (clamp 1 255 v)) = newField ws r n old (fun v => BitVec.ofNat 8 (max 1 v)) := by
  refine newField_congr ws r n old fun v hv => ?_
  rw [hw] at hv
  rw [clamp, Nat.min_eq_right (by omega)]

/-! ### WRITE to BELT, TRIGGER and RELAY (R18, R21, R155) -/

theorem writesTable_of {r : Request} {code : Nat} (hop : reqOp r = 2) (ht : reqTable r = code) : writesTable code r = true := by
  simp [writesTable, hop, ht, opWrite]

theorem storeBelt_reqFields (r : Request) (b : Bpt) :
    storeBelt (reqFields [1, 1, 1, 1] r) b =
      { b with
        tickCode := newField [1, 1, 1, 1] r 0 b.tickCode (min 14)
        beltPre := if (reqMask r).testBit 0 then ⟨0, false⟩ else b.beltPre
        stepDepth := newField [1, 1, 1, 1] r 1 b.stepDepth (min 5)
        stepFilter := if (reqMask r).testBit 1 then { b.stepFilter with run := 0 } else b.stepFilter
        dirDepth := newField [1, 1, 1, 1] r 2 b.dirDepth (min 5)
        dirFilter := if (reqMask r).testBit 2 then { b.dirFilter with run := 0 } else b.dirFilter
        polarity := newField [1, 1, 1, 1] r 3 b.polarity (fun n => if n = 0 then .forwardHigh else .forwardLow) } := by
  simp [storeBelt, stored_reqFields, carries_reqFields, clamp_zero, Prescaler.reset]

theorem storeTiming_reqFields (r : Request) (t : RelayTiming) :
    storeTiming (reqFields [1, 1, 1, 2, 2, 1] r) t =
      { lowLen := newField [1, 1, 1, 2, 2, 1] r 1 t.lowLen (min 63)
        highLen := newField [1, 1, 1, 2, 2, 1] r 2 t.highLen (min 63)
        stallLimit := newField [1, 1, 1, 2, 2, 1] r 3 t.stallLimit (fun n => BitVec.ofNat 16 (max 1 n))
        busFreeWait := newField [1, 1, 1, 2, 2, 1] r 4 t.busFreeWait (fun n => BitVec.ofNat 16 (max 1 n))
        deferLimit := newField [1, 1, 1, 2, 2, 1] r 5 t.deferLimit (fun n => BitVec.ofNat 8 (max 1 n)) } := by
  simp [storeTiming, stored_reqFields, clamp_zero, newField_clamp16, newField_clamp8]

/-- The rows of the management tables take the WRITE at the head and answer it. -/
theorem exec_writeBelt {s : State} {r : Request} {rest : List Request} (h : s.offers r rest) (hop : reqOp r = 2) (ht : reqTable r = 6) :
    exec .writeBelt s = .next (placeResponse false r (answerWriteBelt r (s.popped rest))) :=
  congrArg Host.Outcome.next (takeRow_offers h false (writesTable_of hop ht) answerWriteBelt)

theorem exec_writeTrigger {s : State} {r : Request} {rest : List Request} (h : s.offers r rest) (hop : reqOp r = 2)
    (ht : reqTable r = 7) : exec .writeTrigger s = .next (placeResponse false r (answerWriteTrigger r (s.popped rest))) :=
  congrArg Host.Outcome.next (takeRow_offers h false (writesTable_of hop ht) answerWriteTrigger)

theorem exec_writeRelay {s : State} {r : Request} {rest : List Request} (h : s.offers r rest) (hop : reqOp r = 2) (ht : reqTable r = 8) :
    exec .writeRelay s = .next (placeResponse false r (answerWriteRelay r (s.popped rest))) :=
  congrArg Host.Outcome.next (takeRow_offers h false (writesTable_of hop ht) answerWriteRelay)

/-- Settles O37, table by table and check by check. -/
theorem timingTablesWritten : Obligations.TimingTablesWritten := by
  intro s r rest hoffer hop mask
  refine ⟨fun ht => ?_, fun ht => ?_, fun ht => ?_⟩
  · intro w good
    have hgood : (!maskBelow 4 r || !fieldAtMost (reqFields w r) 3 1) = true ↔ ¬ good := by
      rw [not_and_or, Bool.or_eq_true, not_maskBelow, not_fieldAtMost w r 3 1 (by decide)]
      rfl
    have hwritable : (!(s.popped rest).lvc.level.beltWritable) = true ↔ s.lvc.level ≠ .listen := by
      simp [Level.beltWritable]
    rw [exec_writeBelt hoffer hop ht, answerWriteBelt]
    refine ⟨fun hi => ?_, fun hi hlevel => ?_, fun hi hlevel hbad => ?_, fun hi hlevel hok => ?_⟩
    · rw [if_pos hi, placeResponse_refuse r .badIndex _ nofun]; rfl
    · rw [if_neg (not_not.2 hi), if_pos (hwritable.2 hlevel), placeResponse_refuse r .state _ nofun]; rfl
    · rw [if_neg (not_not.2 hi), if_neg (mt hwritable.1 (not_not.2 hlevel)), if_pos (hgood.2 hbad),
        placeResponse_refuse r .badValue _ nofun]; rfl
    · rw [if_neg (not_not.2 hi), if_neg (mt hwritable.1 (not_not.2 hlevel)), if_neg (mt hgood.1 (not_not.2 hok)),
        placeResponse_okay, storeBelt_reqFields]; rfl
  · intro allowed
    have hwritable : (!(s.popped rest).lvc.level.trigWritable) = true ↔ ¬ allowed := by
      simp [Level.trigWritable, allowed]
    have hmask : (!maskBelow 1 r) = true ↔ 2 ≤ mask := (not_maskBelow 1 r).trans Nat.not_lt
    rw [exec_writeTrigger hoffer hop ht, answerWriteTrigger]
    refine ⟨fun hi => ?_, fun hi hlevel => ?_, fun hi hlevel hbad => ?_, fun hi hlevel hok => ?_⟩
    · rw [if_pos hi, placeResponse_refuse r .badIndex _ nofun]; rfl
    · rw [if_neg (not_not.2 hi), if_pos (hwritable.2 hlevel), placeResponse_refuse r .state _ nofun]; rfl
    · rw [if_neg (not_not.2 hi), if_neg (mt hwritable.1 (not_not.2 hlevel)), if_pos (hmask.2 hbad),
        placeResponse_refuse r .badValue _ nofun]; rfl
    · rw [if_neg (not_not.2 hi), if_neg (mt hwritable.1 (not_not.2 hlevel)), if_neg (mt hmask.1 (Nat.not_le.2 hok)),
        placeResponse_okay, stored_reqFields [1] r 0 (by decide), carries_reqFields [1] r 0 (by decide), clamp_zero]; rfl
  · intro w busy
    have hbusy : ((s.popped rest).ccr.engine.isSome || !(s.popped rest).ccr.queue.isEmpty) = true ↔ busy := by
      simp [busy, Option.isSome_iff_ne_none]
    have hmask : (!maskBelow 6 r) = true ↔ 64 ≤ mask := (not_maskBelow 6 r).trans Nat.not_lt
    rw [exec_writeRelay hoffer hop ht, answerWriteRelay]
    refine ⟨fun hi => ?_, fun hi hb => ?_, fun hi hfree hbad => ?_, fun hi hfree hok => ?_⟩
    · rw [if_pos hi, placeResponse_refuse r .badIndex _ nofun]; rfl
    · rw [if_neg (not_not.2 hi), if_pos (hbusy.2 hb), placeResponse_refuse r .busy _ nofun]; rfl
    · rw [if_neg (not_not.2 hi), if_neg (mt hbusy.1 hfree), if_pos (hmask.2 hbad), placeResponse_refuse r .badValue _ nofun]; rfl
    · rw [if_neg (not_not.2 hi), if_neg (mt hbusy.1 hfree), if_neg (mt hmask.1 (Nat.not_le.2 hok)), placeResponse_okay,
        storeTiming_reqFields, stored_reqFields w r 0 (by decide), carries_reqFields w r 0 (by decide), clamp_zero]; rfl

/-! ### WRITE to SENSOR and PORT (R23, R61) -/

theorem exec_writeSensor {s : State} {r : Request} {rest : List Request} (h : s.offers r rest) (hop : reqOp r = 2)
    (ht : reqTable r = 0) : exec .writeSensor s = .next (placeResponse false r (answerWriteSensor r (s.popped rest))) :=
  congrArg Host.Outcome.next (takeRow_offers h false (writesTable_of hop ht) answerWriteSensor)

theorem exec_writePort {s : State} {r : Request} {rest : List Request} (h : s.offers r rest) (hop : reqOp r = 2) (ht : reqTable r = 2) :
    exec .writePort s = .next (placeResponse false r (answerWritePort r (s.popped rest))) :=
  congrArg Host.Outcome.next (takeRow_offers h false (writesTable_of hop ht) answerWritePort)

theorem storeSensor_reqFields (r : Request) (x : Sensor) :
    storeSensor (reqFields [1, 1, 1, 3] r) x =
      { x with
        enabled := newField [1, 1, 1, 3] r 0 x.enabled (fun v => v == 1)
        depth := newField [1, 1, 1, 3] r 1 x.depth (min 5)
        filter := if (reqMask r).testBit 1 then { x.filter with run := 0 } else x.filter
        transition := newField [1, 1, 1, 3] r 2 x.transition (fun v => if v = 0 then .rising else .falling)
        lockout := newField [1, 1, 1, 3] r 3 x.lockout (BitVec.ofNat 24) } := by
  simp [storeSensor, stored_reqFields, carries_reqFields, clamp_zero]

theorem streamOf_eq : streamOf = Fin.ofNat 16 := rfl

theorem storePort_reqFields (r : Request) (x : Port) :
    storePort (reqFields [1, 2, 2, 1, 1, 1] r) x =
      { x with
        polarity := newField [1, 2, 2, 1, 1, 1] r 0 x.polarity (fun v => if v = 0 then .activeHigh else .activeLow)
        rearmGap := newField [1, 2, 2, 1, 1, 1] r 1 x.rearmGap (BitVec.ofNat 16)
        exposureTimeout := newField [1, 2, 2, 1, 1, 1] r 2 x.exposureTimeout (fun v => BitVec.ofNat 16 (max 1 v))
        defaultStream := newField [1, 2, 2, 1, 1, 1] r 3 x.defaultStream (Fin.ofNat 16)
        orphanForward := newField [1, 2, 2, 1, 1, 1] r 4 x.orphanForward (fun v => v == 1)
        seqCheck := newField [1, 2, 2, 1, 1, 1] r 5 x.seqCheck (fun v => v == 1) } := by
  simp [storePort, stored_reqFields, newField_clamp16, streamOf_eq]

/-- The mask names a field other than field 2 (R61, check 1). -/
theorem namesLockedField_iff (r : Request) : namesLockedField r = true ↔ ∃ m, m ≠ 2 ∧ (reqMask r).testBit m = true := by
  have hbit (m : Nat) : (reqMask r &&& 0xFFFB).testBit m = ((reqMask r).testBit m && decide (m ≠ 2)) := by
    by_cases hm : m < 16
    · have : ∀ k < 16, Nat.testBit 0xFFFB k = decide (k ≠ 2) := by decide
      rw [Nat.testBit_and, this m hm]
    · have hhigh : (reqMask r).testBit m = false :=
        Nat.testBit_lt_two_pow ((reqMask_lt r).trans_le (Nat.pow_le_pow_right (n := 2) (by omega) (by omega : 16 ≤ m)))
      simp [Nat.testBit_and, hhigh]
  rw [namesLockedField, bne_iff_ne, Ne, ← not_iff_not, not_not, not_exists]
  constructor
  · intro h m hm
    have := hbit m
    simp_all
  · intro h
    refine Nat.eq_of_testBit_eq fun m => ?_
    rw [hbit, Nat.zero_testBit]
    by_cases hm : m = 2
    · simp [hm]
    · have := h m
      simp_all

theorem answerWriteSensor_at (s : State) (r : Request) (n : SensorIx) (h : reqIndex r = n.val) :
    answerWriteSensor r s =
      if !maskBelow 4 r || !fieldAtMost (reqFields [1, 1, 1, 3] r) 0 1 || !fieldAtMost (reqFields [1, 1, 1, 3] r) 2 1 then
        refuse .badValue s
      else okay (s.setSensor n (storeSensor (reqFields [1, 1, 1, 3] r) (s.sensor n))) := by
  have hlt : reqIndex r < 4 := h ▸ n.isLt
  have hn : (⟨reqIndex r, hlt⟩ : SensorIx) = n := Fin.ext h
  rw [answerWriteSensor, dif_pos hlt, hn]

theorem answerWritePort_at (s : State) (r : Request) (p : PortIx) (h : reqIndex r = p.val) :
    answerWritePort r s =
      if (s.port p).enabled && namesLockedField r then refuse .state s
      else if !maskBelow 6 r || !fieldAtMost (reqFields [1, 2, 2, 1, 1, 1] r) 0 1 || !fieldAtMost (reqFields [1, 2, 2, 1, 1, 1] r) 3 15 ||
          !fieldAtMost (reqFields [1, 2, 2, 1, 1, 1] r) 4 1 || !fieldAtMost (reqFields [1, 2, 2, 1, 1, 1] r) 5 1 then
        refuse .badValue s
      else
        let x := storePort (reqFields [1, 2, 2, 1, 1, 1] r) (s.port p)
        okay (if carries (reqFields [1, 2, 2, 1, 1, 1] r) 0 then
          (s.setPort p x).setStage p { s.stage p with out := x.polarity == .activeLow } else s.setPort p x) := by
  have hlt : reqIndex r < 6 := h ▸ p.isLt
  have hp : (⟨reqIndex r, hlt⟩ : PortIx) = p := Fin.ext h
  simp only [answerWritePort, dif_pos hlt, hp, State.setPort_port_self, State.setPort_stage, TrigPolarity.inactiveLevel_eq]

/-- Settles O38, table by table and check by check. -/
theorem inputTablesWritten : Obligations.InputTablesWritten := by
  intro s r rest hoffer hop mask
  refine ⟨fun ht => ?_, fun ht => ?_⟩
  · intro w good
    have hgood : (!maskBelow 4 r || !fieldAtMost (reqFields w r) 0 1 || !fieldAtMost (reqFields w r) 2 1) = true ↔ ¬ good := by
      rw [not_and_or, not_and_or, Bool.or_eq_true, Bool.or_eq_true, not_maskBelow, not_fieldAtMost w r 0 1 (by decide),
        not_fieldAtMost w r 2 1 (by decide), or_assoc]
      rfl
    rw [exec_writeSensor hoffer hop ht]
    refine ⟨fun hi => ?_, fun n hn => ?_⟩
    · rw [answerWriteSensor, dif_neg (Nat.not_lt.2 hi), placeResponse_refuse r .badIndex _ nofun]; rfl
    · rw [answerWriteSensor_at _ r n hn]
      refine ⟨fun hbad => ?_, fun hok => ?_⟩
      · rw [if_pos (hgood.2 hbad), placeResponse_refuse r .badValue _ nofun]; rfl
      · rw [if_neg (mt hgood.1 (not_not.2 hok)), placeResponse_okay, storeSensor_reqFields]; rfl
  · intro w good
    have hgood : (!maskBelow 6 r || !fieldAtMost (reqFields w r) 0 1 || !fieldAtMost (reqFields w r) 3 15 ||
        !fieldAtMost (reqFields w r) 4 1 || !fieldAtMost (reqFields w r) 5 1) = true ↔ ¬ good := by
      simp only [good, Bool.or_eq_true, not_maskBelow, not_fieldAtMost w r 0 1 (by decide), not_fieldAtMost w r 3 15 (by decide),
        not_fieldAtMost w r 4 1 (by decide), not_fieldAtMost w r 5 1 (by decide), not_and_or, or_assoc]
      rfl
    rw [exec_writePort hoffer hop ht]
    refine ⟨fun hi => ?_, fun p hp => ?_⟩
    · rw [answerWritePort, dif_neg (Nat.not_lt.2 hi), placeResponse_refuse r .badIndex _ nofun]; rfl
    · intro locked stored
      have hlocked : (((s.popped rest).port p).enabled && namesLockedField r) = true ↔ locked := by
        rw [Bool.and_eq_true, namesLockedField_iff, State.popped_port]
      rw [answerWritePort_at _ r p hp]
      refine ⟨fun hl => ?_, fun hl hbad => ?_, fun hl hok => ?_⟩
      · rw [if_pos (hlocked.2 hl), placeResponse_refuse r .state _ nofun]; rfl
      · rw [if_neg (mt hlocked.1 hl), if_pos (hgood.2 hbad), placeResponse_refuse r .badValue _ nofun]; rfl
      · rw [if_neg (mt hlocked.1 hl), if_neg (mt hgood.1 (not_not.2 hok)), placeResponse_okay, storePort_reqFields,
          carries_reqFields w r 0 (by decide)]
        cases (reqMask r).testBit 0 <;> rfl

end Sys2Proof.Machine
end

section
/-! PROOFS. BELT_PRESET, RELAY and SOFT_RESET at their owners. -/

namespace Sys2Proof.Machine

/-! ### BELT_PRESET (R17) -/

/-- On an empty Trigger Queue a change of F has no effect (R33). -/
theorem changeOfF_of_empty (s : State) (h : s.trq.queue = []) : changeOfF s = s := by
  rw [changeOfF, h, fireDue, ← h, State.setTrigQueue_self]

theorem deliverF_of_empty (old : FinePos) (s : State) (h : s.trq.queue = []) : deliverF old s = s := by
  rw [deliverF, changeOfF_of_empty s h, ite_self]

/-- A preset where no trigger is queued: BPT and the lockout states, and the factor. -/
theorem presetBelt_of_empty (value : BitVec 32) (s : State) (h : s.trq.queue = []) :
    Raised [.bptPreset] s (presetBelt value s) ∧
      (presetBelt value s).withReportsOf s = { s with
        bpt := { s.bpt with p := value, fraction := 0, intervalValid := false, lastDir := .none, interval := 16777215 }
        trq := { s.trq with sensors := s.trq.sensors.map (fun x => { x with lastReg := none }) } } := by
  have hstep := (BeltStep.write { enterListen s.bpt with p := value, fraction := 0 } s).trans (setFactor_beltStep .bptPreset _)
  have hpreset : presetBelt value s =
      clearLockout (setFactor .bptPreset { s with bpt := { enterListen s.bpt with p := value, fraction := 0 } }) := by
    rw [presetBelt, deliverF_of_empty]
    simpa [clearLockout] using h
  rw [hpreset]
  refine ⟨hstep.raised.congr rfl rfl rfl rfl, ?_⟩
  exact congrArg clearLockout hstep.rest

/-! ### RELAY (R161) -/

/-- The relay request of a RELAY that names one port, or all of them (R161, R167). -/
theorem relayRequest_eq (r : Request) (port : RelayPort)
    (hport : (∃ p : PortIx, port = .one p ∧ reqNat r 2 = p.val) ∨ port = .all ∧ reqNat r 2 = 6) :
    relayRequest r =
      { tag := byteAt r 0, port, addr := BitVec.ofNat 7 (reqNat r 3), bytes := (r.drop 7).take (reqNat r 4)
        readCount := reqNat r 5, deferred := reqNat r 6 == 1, aborted := false } := by
  have hname : (if reqNat r 2 = 6 then RelayPort.all else .one (portOf (reqNat r 2))) = port := by
    obtain ⟨p, rfl, hp⟩ | ⟨rfl, hall⟩ := hport
    · have hlt := p.isLt
      rw [if_neg (by omega), hp]
      exact congrArg RelayPort.one (Fin.ext (Nat.mod_eq_of_lt hlt))
    · rw [if_pos hall]
  rw [relayRequest, hname]
  rfl

theorem placeResponse_queued (r : Request) (s : State) :
    placeResponse false r { status := .queued, data := [], after := s } = s.placed (reply r 1) := by
  simp [placeResponse, responsePayload, State.placed, reply, reqTag, Status.code]

/-- Settles O47, request by request and check by check. -/
theorem presetRelayAndSoftReset : Obligations.PresetRelayAndSoftReset := by
  intro s r rest hoffer
  refine ⟨fun hop => ?_, fun hop => ?_, fun hop => ?_⟩
  · have hexec : exec .beltPreset s = .next (placeResponse false r (answerBeltPreset r (s.popped rest))) :=
      congrArg Host.Outcome.next (takeRow_op hoffer false hop answerBeltPreset)
    rw [hexec, answerBeltPreset, State.popped_lvc]
    refine ⟨fun hlisten hstandby => ?_, fun hlevel hlaw => ?_⟩
    · rw [if_neg (not_or.2 ⟨hlisten, hstandby⟩), placeResponse_refuse r .state _ nofun]; rfl
    · have hempty : (s.popped rest).trq.queue = [] := hlaw.2 (by rintro hrun; simp [hrun] at hlevel)
      obtain ⟨hraised, hrest⟩ := presetBelt_of_empty (BitVec.ofNat 32 (ofBe ((reqValues r).take 4))) _ hempty
      rw [if_pos hlevel, placeResponse_okay]
      exact ⟨_, rfl, hraised, hrest⟩
  · intro accepted good
    have hexec : exec .relay s = .next (placeResponse false r (answerRelay r (s.popped rest))) :=
      congrArg Host.Outcome.next (takeRow_op hoffer false hop answerRelay)
    have haccepted : (!s.lvc.level.relayAccepted) = true ↔ ¬ accepted := by
      simp only [accepted]
      cases s.lvc.level <;> decide
    have hgood : (127 < reqNat r 3 ∨ 16 < reqNat r 4 ∨ 16 < reqNat r 5 ∨ 1 < reqNat r 6 ∨ (reqNat r 2 = 6 ∧ reqNat r 5 ≠ 0)) ↔ ¬ good := by
      simp only [good, not_and_or, Nat.not_le, Classical.not_imp]
    rw [hexec, answerRelay, State.popped_lvc, State.popped_ccr, Config.relayMax]
    refine ⟨fun hi => ?_, fun hi hlevel => ?_, fun hi hlevel hfull => ?_, fun hi hlevel hroom hbad => ?_,
      fun port hport hlevel hroom hok => ?_⟩
    · rw [if_pos (by omega), placeResponse_refuse r .badIndex _ nofun]; rfl
    · rw [if_neg (by omega), if_pos (haccepted.2 hlevel), placeResponse_refuse r .state _ nofun]; rfl
    · rw [if_neg (by omega), if_neg (mt haccepted.1 (not_not.2 hlevel)), if_pos hfull, placeResponse_refuse r .busy _ nofun]; rfl
    · rw [if_neg (by omega), if_neg (mt haccepted.1 (not_not.2 hlevel)), if_neg (Nat.not_le.2 hroom), if_pos (hgood.2 hbad),
        placeResponse_refuse r .badValue _ nofun]; rfl
    · intro request
      have hi : ¬ 6 < reqNat r 2 := by
        obtain ⟨p, -, hp⟩ | ⟨-, hall⟩ := hport
        · have := p.isLt
          omega
        · omega
      rw [if_neg hi, if_neg (mt haccepted.1 (not_not.2 hlevel)), if_neg (Nat.not_le.2 hroom), if_neg (mt hgood.1 (not_not.2 hok)),
        placeResponse_queued, relayRequest_eq r port hport]; rfl
  · have hexec : exec .softReset s = .next (placeResponse true r (answerSoftReset r (s.popped rest))) :=
      congrArg Host.Outcome.next (takeRow_op hoffer true hop answerSoftReset)
    rw [hexec]
    rfl

end Sys2Proof.Machine
end

section
/-! PROOFS. The ends of the level transitions: work done port by port, the start of SHUTTING at the relay, records handed over in the
same order by the part and by the statement, and the four commands. -/

namespace Sys2Proof.Machine

/-! ### Work done port by port -/

/-- Each port once: work that touches port `p`'s own view alone has been done once to every port named. -/
theorem foldl_ports {α : Type} (view : State → PortIx → α) (work : PortIx → State → State) (g : PortIx → α → α)
    (hwork : ∀ p s q, view (work p s) q = if q = p then g p (view s q) else view s q) {ports : List PortIx} (hnodup : ports.Nodup)
    (s : State) (q : PortIx) :
    view (ports.foldl (fun t p => work p t) s) q = if q ∈ ports then g q (view s q) else view s q := by
  induction ports generalizing s with
  | nil => simp
  | cons p rest ih =>
    obtain ⟨hp, hrest⟩ := List.nodup_cons.1 hnodup
    rw [List.foldl_cons, ih hrest, hwork]
    by_cases hq : q = p
    · subst hq
      simp [hp]
    · simp [hq]

/-- What the work at each port leaves alone is left alone by all of it. -/
theorem foldl_keeps {α : Type} (view : State → α) (work : PortIx → State → State) (hwork : ∀ p s, view (work p s) = view s)
    (ports : List PortIx) (s : State) : view (ports.foldl (fun t p => work p t) s) = view s := by
  induction ports generalizing s with
  | nil => rfl
  | cons p rest ih => rw [List.foldl_cons, ih, hwork]

theorem portOrder_nodup (order : List PortIx) : (portOrder order).Nodup := by
  refine List.Nodup.append (List.nodup_reverse.2 (List.nodup_dedup _)) ((List.nodup_finRange 6).filter _) ?_
  intro p hp hq
  simp only [List.mem_reverse, List.mem_dedup] at hp
  simp [hp] at hq

theorem mem_portOrder (order : List PortIx) (p : PortIx) : p ∈ portOrder order := by
  simp [portOrder, em]

/-- An order that names every port once stands as it is (log 8). -/
theorem portOrder_of_perm {order : List PortIx} (h : order.Perm (List.finRange 6)) : portOrder order = order := by
  have hnodup : order.Nodup := h.nodup_iff.2 (List.nodup_finRange 6)
  have hall : ∀ p, p ∈ order := fun p => h.mem_iff.2 (List.mem_finRange p)
  simp [portOrder, (List.nodup_reverse.2 hnodup).dedup, hall]

theorem forPorts_view {α : Type} (view : State → PortIx → α) (work : PortIx → State → State) (g : PortIx → α → α)
    (hwork : ∀ p s q, view (work p s) q = if q = p then g p (view s q) else view s q) (order : List PortIx) (s : State) (q : PortIx) :
    view (forPorts order work s) q = g q (view s q) := by
  rw [forPorts, foldl_ports view work g hwork (portOrder_nodup order), if_pos (mem_portOrder order q)]

theorem allPorts_view {α : Type} (view : State → PortIx → α) (work : PortIx → State → State) (g : PortIx → α → α)
    (hwork : ∀ p s q, view (work p s) q = if q = p then g p (view s q) else view s q) (s : State) (q : PortIx) :
    view ((List.finRange 6).foldl (fun t p => work p t) s) q = g q (view s q) := by
  rw [foldl_ports view work g hwork (List.nodup_finRange 6), if_pos (List.mem_finRange q)]

theorem State.setPortState_port (s : State) (p : PortIx) (x : PortState) (q : PortIx) :
    (s.setPortState p x).port q = if q = p then { s.port q with state := x } else s.port q := by
  rw [State.setPortState, State.setPort_port]
  split
  · rename_i h
    rw [h]
  · rfl

/-! ### SHUTTING at the relay (R182) -/

/-- Once SHUTTING has begun, a walk gives each port still to come ABORTED (R182). -/
theorem walkOn_aborted (s : State) (ports : List PortIx) (x : Txn) (h : x.abortRest = true) :
    walkOn s ports x = { x with outcomes := x.outcomes ++ List.replicate ports.length RelayResult.aborted }.enter .report := by
  induction ports generalizing x with
  | nil => simp [walkOn]
  | cons p rest ih => simp [walkOn, h, ih, List.replicate_succ]

theorem portsAfter_length (p : PortIx) : (portsAfter p).length = 5 - p.val := by
  revert p
  decide

/-- A deferred transaction ends ABORTED when SHUTTING begins, and so do the sub-transactions still to come (R182). -/
theorem shut_deferring (x : Txn) (s : State) (h : x.phase = .deferring) :
    ∃ y, x.shut s = y ∧ y.phase = .report ∧ y.req = x.req ∧ ((∃ p, x.req.port = .one p) → y.resultData = [7, 0, 0]) ∧
      (x.req.port = .all → y.outcomes = x.outcomes ++ List.replicate (6 - x.port.val) .aborted) := by
  refine ⟨_, rfl, ?_⟩
  have hshut : x.shut s = { x with abortRest := true }.finish .aborted s := if_pos h
  rw [hshut]
  cases hport : x.req.port with
  | one p => simp [Txn.finish, hport, Txn.enter, Txn.resultData, RelayResult.code, RelayResult.detail]
  | all =>
    have hlen : 6 - x.port.val = (5 - x.port.val) + 1 := by omega
    simp [Txn.finish, hport, walkOn_aborted, Txn.enter, portsAfter_length, hlen, List.replicate_succ]

theorem relayShut_abortMarking {s t : State} (h : t.ccr = s.ccr) : RelayShut s (abortMarking t) := by
  have hccr : (abortMarking t).ccr = { s.ccr with
      queue := s.ccr.queue.map (fun r => { r with aborted := true }), engine := s.ccr.engine.map (fun x => x.shut t) } := by
    rw [← h]
    rfl
  unfold RelayShut
  rw [hccr]
  refine ⟨rfl, fun hnone => by simp [hnone], fun x hx hphase => ?_, fun x hx hphase => ?_⟩
  · simp [hx, Txn.shut, hphase]
  · obtain ⟨y, hy, hspec⟩ := shut_deferring x t hphase
    exact ⟨y, by simp [hx, hy], hspec⟩

/-! ### SETTLE_EXPIRY and DRAIN_COMPLETE (R194, R195) -/

/-- A port at the end of POWERING (R48). -/
def Port.settled (x : Port) : Port := if x.enabled = true ∧ x.state = .off then { x with state := .idle } else x

theorem settlePort_port (p : PortIx) (s : State) (q : PortIx) :
    (settlePort p s).port q = if q = p then (s.port q).settled else s.port q := by
  unfold settlePort Port.settled
  by_cases hq : q = p
  · subst hq
    split <;> simp_all [State.setPortState_port]
  · split <;> simp [State.setPortState_port, hq]

/-- The settling of the ports changes the ports alone. -/
theorem settleAll_rest (ports : List PortIx) (s : State) :
    ports.foldl (fun u p => settlePort p u) s = { s with cpr := (ports.foldl (fun u p => settlePort p u) s).cpr } := by
  have hwork (p : PortIx) (u : State) : { settlePort p u with cpr := s.cpr } = { u with cpr := s.cpr } := by
    unfold settlePort
    split <;> rfl
  have hkeeps := foldl_keeps (fun u => { u with cpr := s.cpr }) settlePort hwork ports s
  exact congrArg (fun u : State => { u with cpr := (ports.foldl (fun u p => settlePort p u) s).cpr }) hkeeps

theorem drained_iff (s : State) : s.drained = true ↔ ∀ p, s.exposures p = [] ∧ (s.port p).state ≠ .inFrame := by
  simp [State.drained]

/-- A factor set on a state whose reports are those of `s`. -/
theorem setFactor_from {s u : State} (f : Factor) (hevu : u.evu = s.evu) (hmge : u.mge = s.mge) :
    Raised [f] s (setFactor f u) ∧ (setFactor f u).withReportsOf s = u := by
  refine ⟨(setFactor_raised f u).congr hevu.symm hmge.symm rfl rfl, ?_⟩
  rw [State.withReportsOf, ← hevu, ← hmge]
  exact setFactor_withReports f u

/-- SETTLE_EXPIRY where the deadline is reached (R194). -/
theorem settleExpiry_spec (s : State) (x : Level) (d : LineTime) (hlevel : s.lvc.level = .powering) (htarget : s.lvc.target = some x)
    (hsettle : s.lvc.settle = some d) (hreached : reached s.bpt.lineTime d = true) :
    ∃ t, exec .settleExpiry s = .next t ∧ Raised [.ctlLevelReached] s t ∧
      t.withReportsOf s = { s with cpr := t.cpr, lvc := { s.lvc with level := x, target := none, settle := none } } ∧
      ∀ p, t.port p = (s.port p).settled := by
  have hexpired : expired s.lvc.settle s = true := by rw [hsettle]; exact hreached
  have hexec : exec .settleExpiry s = .next (setFactor .ctlLevelReached ((List.finRange 6).foldl (fun u p => settlePort p u)
      { s with lvc := { s.lvc with level := x, target := none, settle := none } })) := by
    simp [exec, execSettleExpiry, hlevel, hexpired, htarget]
  have hport (p : PortIx) := allPorts_view State.port settlePort (fun _ => Port.settled) settlePort_port
    { s with lvc := { s.lvc with level := x, target := none, settle := none } } p
  have hrest := settleAll_rest (List.finRange 6) { s with lvc := { s.lvc with level := x, target := none, settle := none } }
  rw [hexec]
  generalize (List.finRange 6).foldl (fun u p => settlePort p u)
    { s with lvc := { s.lvc with level := x, target := none, settle := none } } = u at hport hrest
  obtain ⟨hraised, hreports⟩ := setFactor_from (s := s) (u := u) .ctlLevelReached (by rw [hrest]) (by rw [hrest])
  refine ⟨_, rfl, hraised, ?_, fun p => (setFactor_port _ _ _).trans (hport p)⟩
  rw [hreports, setFactor_cpr]
  exact hrest

/-- The arrival at a settled level (R192). -/
theorem arrive_spec (x : Level) (s : State) :
    Raised [.ctlLevelReached] s (arrive x s) ∧
      (arrive x s).withReportsOf s =
        { s with lvc := { s.lvc with level := x, target := none, settle := none, drain := none } } :=
  setFactor_from (u := { s with lvc := { s.lvc with level := x, target := none, settle := none, drain := none } }) .ctlLevelReached rfl rfl

/-- DRAIN_COMPLETE (R195). -/
theorem drainComplete_spec (s : State) (hlevel : s.lvc.level = .emptying)
    (hdrained : ∀ p, s.exposures p = [] ∧ (s.port p).state ≠ .inFrame) : exec .drainComplete s = .next (endEmptying s) := by
  simp [exec, execDrainComplete, hlevel, (drained_iff s).2 hdrained]

/-! ### The port of a frame that ends (R57) -/

theorem State.setFrame_port (s : State) (p : PortIx) (f : Option FrameCtx) (q : PortIx) :
    (s.setFrame p f).port q = if q = p then { s.port q with frame := f } else s.port q := by
  rw [State.setFrame, State.setPort_port]
  split
  · rename_i h
    rw [h]
  · rfl

/-- A frame's last cells change nothing of the ports but the frame's context. -/
theorem endFrameCells_setFrame_port (p : PortIx) (f : FrameCtx) (g : Option FrameCtx) (s : State) (q : PortIx) :
    ((endFrameCells p f s).setFrame p g).port q = (s.setFrame p g).port q := by
  have hport (k : PortIx) : (endFrameCells p f s).port k = (commitCell p true f s).port k := rfl
  simp only [State.setFrame_port, hport]
  cases hasm : f.assembly with
  | none => rw [commitCell_none p true f s hasm]
  | some a =>
    rw [commitCell_some p true f s a hasm, State.setFrame_port, enqueue_port]
    split <;> rfl

theorem finishFrame_port (p : PortIx) (f : FrameCtx) (s : State) (q : PortIx) :
    (finishFrame p f s).port q = if q = p then { s.port q with frame := none } else s.port q := by
  rw [finishFrame, closeIfDrained_port, State.setFrame_port, issueCapture_port, ← State.setFrame_port, endFrameCells_setFrame_port,
    State.setFrame_port]

theorem abortFrame_port (p : PortIx) (s : State) (q : PortIx) :
    (abortFrame p s).port q = if q = p then { s.port q with frame := none } else s.port q := by
  unfold abortFrame
  split
  · rename_i hnone
    split
    · rename_i hq
      rw [hq, ← hnone]
    · rfl
  · exact finishFrame_port p _ s q

/-! ### Two states that hand over the same records -/

/-- CBM is the same in both states, and so is every factor that `watched` names. -/
structure SameRecords (watched : Factor → Prop) (s v : State) : Prop where
  cbm : s.cbm = v.cbm
  factors : ∀ f, watched f → s.evu.has f = v.evu.has f

variable {watched : Factor → Prop}

theorem SameRecords.refl (s : State) : SameRecords watched s s := ⟨rfl, fun _ _ => rfl⟩

theorem SameRecords.stream {s v : State} (h : SameRecords watched s v) (i : StreamIx) : s.stream i = v.stream i := by
  rw [State.stream, State.stream, h.cbm]

theorem SameRecords.freeCount {s v : State} (h : SameRecords watched s v) : s.freeCount = v.freeCount := by
  rw [State.freeCount, State.freeCount, h.cbm]

/-- A change of one state elsewhere. -/
theorem SameRecords.left {s s' v : State} (h : SameRecords watched s v) (hcbm : s'.cbm = s.cbm) (hevu : s'.evu = s.evu) :
    SameRecords watched s' v := ⟨hcbm.trans h.cbm, fun f hf => by rw [hevu]; exact h.factors f hf⟩

/-- A factor that nobody watches, raised in one state. -/
theorem SameRecords.raised_left {fs : List Factor} {s s' v : State} (h : SameRecords watched s v) (hcbm : s'.cbm = s.cbm)
    (hraised : Raised fs s s') (hfs : ∀ f ∈ fs, ¬ watched f) : SameRecords watched s' v := by
  refine ⟨hcbm.trans h.cbm, fun f hf => ?_⟩
  have hnot : f ∉ fs := fun hm => hfs f hm hf
  rw [hraised.factors f, h.factors f hf, decide_eq_false hnot, Bool.or_false]

/-- The same factors raised in both, with CBM left the same. -/
theorem SameRecords.raised {fs : List Factor} {s s' v v' : State} (h : SameRecords watched s v) (hcbm : s'.cbm = v'.cbm)
    (hs : Raised fs s s') (hv : Raised fs v v') : SameRecords watched s' v' :=
  ⟨hcbm, fun f hf => by rw [hs.factors, hv.factors, h.factors f hf]⟩

theorem setStream_cbm_congr {s v : State} (h : s.cbm = v.cbm) (i : StreamIx) (x : Stream) :
    (s.setStream i x).cbm = (v.setStream i x).cbm := by
  rw [State.setStream, State.setStream, h]

theorem closeLost_cbm_congr {s v : State} (h : s.cbm = v.cbm) (i : StreamIx) (f : BitVec 8) :
    (closeLost i f s).cbm = (closeLost i f v).cbm := by
  have hstream : s.stream i = v.stream i := by rw [State.stream, State.stream, h]
  simp only [closeLost, hstream]
  split <;> exact setStream_cbm_congr h i _

theorem loseRecord_cbm_congr {s v : State} (h : s.cbm = v.cbm) (i : StreamIx) (f : BitVec 8) (closing : Bool) :
    (loseRecord i f closing s).cbm = (loseRecord i f closing v).cbm := by
  have hstream : s.stream i = v.stream i := by rw [State.stream, State.stream, h]
  have hcount : (setFactor .cbmRecordLost (countStream i Stream.recordsLost (fun x n => { x with recordsLost := n }) s)).cbm =
      (setFactor .cbmRecordLost (countStream i Stream.recordsLost (fun x n => { x with recordsLost := n }) v)).cbm := by
    simp [h, hstream]
  unfold loseRecord
  cases closing
  · exact hcount
  · exact closeLost_cbm_congr hcount i f

theorem handRecord_cbm_congr {s v : State} (h : s.cbm = v.cbm) (i : StreamIx) (kind : CellKind) (payload : List Byte) (f : BitVec 8)
    (closing : Bool) : (handRecord i kind payload f closing s).cbm = (handRecord i kind payload f closing v).cbm := by
  have hstream : s.stream i = v.stream i := by rw [State.stream, State.stream, h]
  have hcount : s.freeCount = v.freeCount := by rw [State.freeCount, State.freeCount, h]
  unfold handRecord
  rw [hstream, hcount, h]
  split
  · split
    · simp [enqueue, State.setStream, State.setMem, State.setFree, State.stream, h]
    · exact loseRecord_cbm_congr h i f closing
  · exact loseRecord_cbm_congr h i f closing

/-- The same record handed over in both. -/
theorem SameRecords.of_handRecord {s v : State} (h : SameRecords watched s v) (i : StreamIx) (kind : CellKind) (payload : List Byte)
    (f : BitVec 8) (closing : Bool) :
    SameRecords watched (handRecord i kind payload f closing s) (handRecord i kind payload f closing v) := by
  have hs := handRecord_raised i kind payload f closing s
  rw [h.stream, h.freeCount, h.cbm] at hs
  exact h.raised (handRecord_cbm_congr h.cbm i kind payload f closing) hs (handRecord_raised i kind payload f closing v)

theorem SameRecords.of_closeIfDrained {s v : State} (h : SameRecords watched s v) (i : StreamIx) :
    SameRecords watched (closeIfDrained i s) (closeIfDrained i v) := by
  by_cases hd : (v.stream i).state = .draining ∧ (v.stream i).queue = [] ∧ (v.stream i).inProgress = false
  · obtain ⟨hstate, hqueue, hprogress⟩ := hd
    rw [closeIfDrained_of i v hstate hqueue hprogress, ← h.stream] at *
    rw [closeIfDrained_of i s hstate hqueue hprogress]
    have hraised (u : State) (x : Stream) : Raised [.cbmStreamClosed] u (setFactor .cbmStreamClosed (u.setStream i x)) :=
      (setFactor_raised .cbmStreamClosed (u.setStream i x)).congr rfl rfl rfl rfl
    refine h.raised ?_ (hraised s _) (hraised v _)
    simpa using setStream_cbm_congr h.cbm i _
  · rw [closeIfDrained_of_not i v hd, closeIfDrained_of_not i s (by rwa [h.stream])]
    exact h

/-! ### An aborted frame (R57, R97-R100, R106) -/

theorem closeLost_inProgress (i : StreamIx) (f : BitVec 8) (s : State) :
    ((closeLost i f s).stream i).inProgress = (s.stream i).inProgress := by
  simp only [closeLost]
  split <;> simp

theorem handRecord_inProgress (i : StreamIx) (kind : CellKind) (payload : List Byte) (f : BitVec 8) (closing : Bool) (s : State) :
    ((handRecord i kind payload f closing s).stream i).inProgress = (s.stream i).inProgress := by
  have hlost : ((loseRecord i f closing s).stream i).inProgress = (s.stream i).inProgress := by
    cases closing
    · rw [loseRecord_stream_open]
    · simp [loseRecord, closeLost_inProgress]
  unfold handRecord
  split
  · split
    · simp
    · exact hlost
  · exact hlost

/-- CBM's part of the end of a frame, before its record (R97, R98). -/
def endedCells (f : FrameCtx) (s : State) : State :=
  (s.setReserved (s.cbm.reserved - f.remaining)).setStream f.stream
    { s.stream f.stream with queue := (s.stream f.stream).queue ++ f.lastCell, inProgress := false }

theorem commitKind_last (committed : Bool) : commitKind committed true = if committed then .dataLast else .dataOnly := by
  cases committed <;> rfl

theorem endFrameCells_cbm (p : PortIx) (f : FrameCtx) (s : State) : (endFrameCells p f s).cbm = (endedCells f s).cbm := by
  unfold endFrameCells endedCells FrameCtx.lastCell
  cases hasm : f.assembly with
  | none => simp [commitCell_none p true f s hasm, State.setStream, State.setReserved, State.stream]
  | some a =>
    simp [commitCell_some p true f s a hasm, commitKind_last, State.setStream, State.setReserved, State.stream, enqueue]

/-- The flags of an ABORTED record (R57, R78, R119). -/
theorem abortedFlags (matched parity checksumBad truncated : Bool) :
    StatusFlags.byte { partPresent := matched, parity, checksumBad, truncated, aborted := true, orphan := !matched } =
      ((if matched then 0x88 else 0x0C) ||| (if parity then 0x40 else 0) ||| (if checksumBad then 0x20 else 0) |||
        (if truncated then 0x10 else 0) : Byte) := by
  revert matched parity checksumBad truncated
  decide

/-- The context of a frame as an abort leaves it (R57). -/
def FrameCtx.abortedAt (l : LineTime) (f : FrameCtx) : FrameCtx := { f with endL := some l, aborted := true, rxChecksum := 0 }

theorem abortFrame_none {p : PortIx} {s : State} (h : (s.port p).frame = none) : abortFrame p s = s := by
  rw [abortFrame, h]

theorem abortFrame_some {p : PortIx} {s : State} {f : FrameCtx} (h : (s.port p).frame = some f) :
    abortFrame p s = finishFrame p (f.abortedAt s.lineTime) s := by
  rw [abortFrame, h]
  rfl

/-- The 49 bytes of an ABORTED record (R79, R81, R119). -/
theorem frameRecord_aborted (p : PortIx) (f : FrameCtx) (l now : LineTime) :
    (frameRecord p (f.abortedAt l) now).payload = abortedBytes p f l := by
  have hsum : be 2 (0 : BitVec 16).toNat = [0, 0] := by decide
  simp only [CaptureRecord.payload, frameRecord, abortedBytes, FrameCtx.abortedAt, Option.getD_some]
  cases f.exposure with
  | none =>
    have hflags := abortedFlags false f.parity f.checksumBad f.truncated
    have hpart : be 4 (BitVec.allOnes 32).toNat = List.replicate 4 0xFF := by decide
    have hfireF : be 5 (BitVec.allOnes 40).toNat = List.replicate 5 0xFF := by decide
    have hfireL : be 6 (BitVec.allOnes 48).toNat = List.replicate 6 0xFF := by decide
    simp only [Option.map_none, Option.getD_none, Option.isSome_none, Option.isNone_none, Bool.not_false] at hflags ⊢
    rw [hflags, hpart, hfireF, hfireL, hsum]
    simp [List.replicate]
  | some e =>
    have hflags := abortedFlags true f.parity f.checksumBad f.truncated
    simp only [Option.map_some, Option.getD_some, Option.isSome_some, Option.isNone_some, Bool.not_true] at hflags ⊢
    rw [hflags, hsum]
    simp

/-- A stream whose frame has ended closes if it is draining and empty (R106). -/
theorem closeIfDrained_of_ended (i : StreamIx) (s : State) (h : (s.stream i).inProgress = false) :
    closeIfDrained i s =
      if (s.stream i).state = .draining ∧ (s.stream i).queue = [] then
        setFactor .cbmStreamClosed (s.setStream i { s.stream i with state := .closed })
      else s := by
  simp [closeIfDrained, h]

theorem frameAborted_none {p : PortIx} {s : State} (h : (s.port p).frame = none) : frameAborted p s = s := by
  rw [frameAborted, h]

theorem frameAborted_some {p : PortIx} {s : State} {f : FrameCtx} (h : (s.port p).frame = some f) :
    frameAborted p s = closeIfDrained f.stream
      (handRecord f.stream .capture (abortedBytes p f s.bpt.lineTime) f.frameNo true (endedCells f s)) := by
  have hprogress := handRecord_inProgress f.stream .capture (abortedBytes p f s.bpt.lineTime) f.frameNo true (endedCells f s)
  have hended : ((endedCells f s).stream f.stream).inProgress = false := by simp [endedCells]
  rw [hended] at hprogress
  rw [frameAborted, h, closeIfDrained_of_ended _ _ hprogress]
  rfl

/-- An abort of the part and the abort of the statement hand over the same record. -/
theorem SameRecords.of_abortFrame {s v : State} (h : SameRecords watched s v) (p : PortIx) (hframe : (s.port p).frame = (v.port p).frame)
    (hline : s.lineTime = v.bpt.lineTime) : SameRecords watched (abortFrame p s) (frameAborted p v) := by
  cases hs : (s.port p).frame with
  | none =>
    rw [abortFrame_none hs, frameAborted_none (hframe ▸ hs)]
    exact h
  | some f =>
    rw [abortFrame_some hs, frameAborted_some (hframe ▸ hs), ← hline]
    have hcells : SameRecords watched (endFrameCells p (f.abortedAt s.lineTime) s) (endedCells f v) := by
      refine ⟨?_, fun g hg => by rw [endFrameCells_evu]; exact h.factors g hg⟩
      rw [endFrameCells_cbm]
      simp only [endedCells, FrameCtx.abortedAt, FrameCtx.lastCell, h.stream, h.cbm]
      exact setStream_cbm_congr (by simp [State.setReserved, h.cbm]) _ _
    have hrecord := hcells.of_handRecord f.stream .capture (abortedBytes p f s.lineTime) f.frameNo true
    have hissue : issueCapture f.stream (frameRecord p (f.abortedAt s.lineTime) (endFrameCells p (f.abortedAt s.lineTime) s).lineTime) true
        (endFrameCells p (f.abortedAt s.lineTime) s) =
        handRecord f.stream .capture (abortedBytes p f s.lineTime) f.frameNo true (endFrameCells p (f.abortedAt s.lineTime) s) := by
      rw [issueCapture, frameRecord_aborted]
      rfl
    have hfinish : finishFrame p (f.abortedAt s.lineTime) s =
        closeIfDrained f.stream ((handRecord f.stream .capture (abortedBytes p f s.lineTime) f.frameNo true
          (endFrameCells p (f.abortedAt s.lineTime) s)).setFrame p none) := by
      rw [← hissue]
      rfl
    rw [hfinish]
    exact (hrecord.left (State.setFrame_cbm ..) (State.setFrame_evu ..)).of_closeIfDrained f.stream

/-! ### Exposure lists removed with LEVEL_DOWN (R75, R84) -/

theorem exposureRecord_payload (p : PortIx) (e : Exposure) (l : LineTime) :
    (exposureRecord p e .levelDown l).payload = exposureMissing p e 7 l := rfl

/-- The removal of a list by the part and the missing records of the statement. -/
theorem SameRecords.of_removeAll {s v : State} (h : SameRecords watched s v) (p : PortIx) (list : List Exposure)
    (hwrap : ¬ watched (.camWrap p)) :
    SameRecords watched (removeAll p .levelDown list s) (handMissing (listMissing p list 7 s.lineTime) v) := by
  induction list generalizing s v with
  | nil => exact h.left rfl rfl
  | cons e rest ih =>
    have hcount : SameRecords watched (countPort p Port.missing (fun x n => { x with missing := n }) (s.setExposures p rest)) v := by
      refine (h.left (State.setExposures_cbm ..) (State.setExposures_evu ..)).raised_left (by simp)
        (countPort_raised p Port.missing (fun x n => { x with missing := n }) (s.setExposures p rest)) ?_
      intro f hf
      unfold wrapsAt at hf
      split at hf <;> simp_all
    have hrecord := hcount.of_handRecord e.stream .missing (exposureMissing p e 7 s.lineTime) (v.stream e.stream).frameCounter false
    have hclose : closeExposure p .levelDown s.lineTime e (s.setExposures p rest) =
        handRecord e.stream .missing (exposureMissing p e 7 s.lineTime) (v.stream e.stream).frameCounter false
          (countPort p Port.missing (fun x n => { x with missing := n }) (s.setExposures p rest)) := by
      rw [← hcount.stream, closeExposure, issueMissing, exposureRecord_payload]
      rfl
    rw [← hclose] at hrecord
    have hrest := ih hrecord
    rw [closeExposure_lineTime, State.setExposures_lineTime] at hrest
    exact hrest

/-! ### What a port does at a forced drain and at power-off (R48, R195) -/

/-- The blocks that a frame's end and a list's removal leave alone. -/
def State.beside (s : State) : Bpt × Trq × Flk × Scd × Ccr × Lvc := (s.bpt, s.trq, s.flk, s.scd, s.ccr, s.lvc)

theorem removeAll_beside (p : PortIx) (cause : Cause) (list : List Exposure) (s : State) :
    (removeAll p cause list s).beside = s.beside := by
  induction list generalizing s with
  | nil => rfl
  | cons e rest ih =>
    rw [removeAll, ih]
    simp [State.beside]

/-- A port with its Exposure List. -/
def State.portView (s : State) (p : PortIx) : Port × List Exposure := (s.port p, s.exposures p)

/-- A port and its list at a forced drain: the frame aborted, the exposures counted missing (R195). -/
def forcedView (x : Port × List Exposure) : Port × List Exposure :=
  ({ x.1 with
      state := if x.1.state = .inFrame then .discarding else x.1.state
      frame := if x.1.state = .inFrame then none else x.1.frame
      missing := x.1.missing + BitVec.ofNat 32 x.2.length }, [])

theorem forcePort_view (p : PortIx) (s : State) (q : PortIx) :
    (forcePort p s).portView q = if q = p then forcedView (s.portView q) else s.portView q := by
  unfold forcePort State.portView forcedView
  simp only [removeAll_port, removeAll_exposures]
  by_cases hq : q = p
  · subst hq
    by_cases hin : (s.port q).state = .inFrame <;> simp [hin, State.setPortState_port, abortFrame_port]
  · by_cases hin : (s.port p).state = .inFrame <;> simp [hin, hq, State.setPortState_port, abortFrame_port]

theorem forcePort_beside (p : PortIx) (s : State) : (forcePort p s).beside = s.beside := by
  rw [forcePort, removeAll_beside]
  split
  · simp [State.beside]
  · rfl

/-- A port when camera power goes off (R48). -/
def Port.poweredOff (x : Port) : Port := { x with state := .off, frame := if x.state = .inFrame then none else x.frame }

theorem powerOffPort_port (p : PortIx) (s : State) (q : PortIx) :
    (powerOffPort p s).port q = if q = p then (s.port q).poweredOff else s.port q := by
  unfold powerOffPort Port.poweredOff
  by_cases hq : q = p
  · subst hq
    by_cases hin : (s.port q).state = .inFrame <;> simp [hin, State.setPortState_port, abortFrame_port]
  · by_cases hin : (s.port p).state = .inFrame <;> simp [hin, hq, State.setPortState_port, abortFrame_port]

theorem powerOffPort_beside (p : PortIx) (s : State) : ((powerOffPort p s).beside, (powerOffPort p s).xcr) = (s.beside, s.xcr) := by
  rw [powerOffPort]
  split
  · simp [State.beside]
  · rfl

/-- A port that is not IN_FRAME only changes its state. -/
theorem powerOffPort_of_not_inFrame {p : PortIx} {s : State} (h : (s.port p).state ≠ .inFrame) :
    powerOffPort p s = s.setPortState p .off := by
  rw [powerOffPort, if_neg h]

/-! ### The ports in their order (R195, R196) -/

theorem frameAborted_cpr (p : PortIx) (s : State) : (frameAborted p s).cpr = s.cpr ∧ (frameAborted p s).bpt = s.bpt := by
  cases h : (s.port p).frame with
  | none => rw [frameAborted_none h]; exact ⟨rfl, rfl⟩
  | some f =>
    rw [frameAborted_some h]
    simp [endedCells]

theorem handMissing_cpr (records : List (StreamIx × List Byte)) (s : State) :
    (handMissing records s).cpr = s.cpr ∧ (handMissing records s).bpt = s.bpt := by
  induction records generalizing s with
  | nil => exact ⟨rfl, rfl⟩
  | cons r rest ih =>
    have hrest := ih (handRecord r.1 .missing r.2 (s.stream r.1).frameCounter false s)
    rw [handRecord_cpr, handRecord_bpt] at hrest
    exact hrest

/-- The abort of a port that may be IN_FRAME. -/
theorem SameRecords.of_abortIf {s v : State} (h : SameRecords watched s v) (p : PortIx) (hport : s.port p = v.port p)
    (hbpt : s.bpt = v.bpt) (hmatch : (s.port p).frame.isSome = true ↔ (s.port p).state = .inFrame) :
    SameRecords watched (if (s.port p).state = .inFrame then abortFrame p s else s) (frameAborted p v) := by
  split
  · exact h.of_abortFrame p (by rw [hport]) (congrArg Bpt.lineTime hbpt)
  · rename_i hout
    have hnone : (s.port p).frame = none := by simpa using mt hmatch.1 hout
    rw [frameAborted_none (hport ▸ hnone)]
    exact h

theorem SameRecords.of_powerOffPort {s v : State} (h : SameRecords watched s v) (p : PortIx) (hport : s.port p = v.port p)
    (hbpt : s.bpt = v.bpt) (hmatch : (s.port p).frame.isSome = true ↔ (s.port p).state = .inFrame) :
    SameRecords watched (powerOffPort p s) (frameAborted p v) :=
  (h.of_abortIf p hport hbpt hmatch).left (State.setPortState_cbm ..) (State.setPortState_evu ..)

theorem SameRecords.of_forcePort {s v : State} (h : SameRecords watched s v) (p : PortIx) (hport : s.port p = v.port p)
    (hbpt : s.bpt = v.bpt) (hmatch : (s.port p).frame.isSome = true ↔ (s.port p).state = .inFrame) (hwrap : ¬ watched (.camWrap p)) :
    SameRecords watched (forcePort p s) (handMissing (listMissing p (s.exposures p) 7 s.bpt.lineTime) (frameAborted p v)) := by
  have habort := h.of_abortIf p hport hbpt hmatch
  unfold forcePort
  split
  · rename_i hin
    rw [if_pos hin] at habort
    have hlist := (habort.left (State.setPortState_cbm p .discarding _) (State.setPortState_evu ..)).of_removeAll p
      (((abortFrame p s).setPortState p .discarding).exposures p) hwrap
    have hline : s.lineTime = s.bpt.lineTime := rfl
    simpa [hline] using hlist
  · rename_i hout
    rw [if_neg hout] at habort
    exact habort.of_removeAll p (s.exposures p) hwrap

theorem State.beside_bpt {s t : State} (h : s.beside = t.beside) : s.bpt = t.bpt := congrArg Prod.fst h

/-- The forcing port by port, against the aborts and missing records of the state `s₀` before it (R195). -/
theorem SameRecords.of_forcePorts {s₀ : State} (hframes : FramesMatch s₀) (hwrap : ∀ p, ¬ watched (.camWrap p)) {ports : List PortIx}
    (hnodup : ports.Nodup) {s v : State} (h : SameRecords watched s v) (hs : ∀ p ∈ ports, s.portView p = s₀.portView p)
    (hsb : s.bpt = s₀.bpt) (hv : v.cpr = s₀.cpr) (hvb : v.bpt = s₀.bpt) :
    SameRecords watched (ports.foldl (fun t p => forcePort p t) s)
      (ports.foldl (fun u p => handMissing (listMissing p (s₀.exposures p) 7 s₀.bpt.lineTime) (frameAborted p u)) v) := by
  induction ports generalizing s v with
  | nil => exact h
  | cons p rest ih =>
    obtain ⟨hp, hrest⟩ := List.nodup_cons.1 hnodup
    obtain ⟨hport, hlist⟩ := Prod.mk.inj (hs p List.mem_cons_self)
    have hvport : v.port p = s₀.port p := by rw [State.port, hv]; rfl
    have hstep := h.of_forcePort p (hport.trans hvport.symm) (hsb.trans hvb.symm) (hport ▸ hframes p) (hwrap p)
    rw [hlist, hsb] at hstep
    obtain ⟨hac, hab⟩ := frameAborted_cpr p v
    obtain ⟨hmc, hmb⟩ := handMissing_cpr (listMissing p (s₀.exposures p) 7 s₀.bpt.lineTime) (frameAborted p v)
    refine ih hrest hstep (fun q hq => ?_) ((State.beside_bpt (forcePort_beside p s)).trans hsb) (hmc.trans (hac.trans hv))
      (hmb.trans (hab.trans hvb))
    have hne : q ≠ p := fun e => hp (e ▸ hq)
    rw [forcePort_view, if_neg hne]
    exact hs q (List.mem_cons_of_mem p hq)

/-- The power-off port by port, against the aborts of the state `s₀` before it (R48, R196). -/
theorem SameRecords.of_powerOffPorts {s₀ : State} (hframes : FramesMatch s₀) {ports : List PortIx} (hnodup : ports.Nodup) {s v : State}
    (h : SameRecords watched s v) (hs : ∀ p ∈ ports, s.port p = s₀.port p) (hsb : s.bpt = s₀.bpt) (hv : v.cpr = s₀.cpr)
    (hvb : v.bpt = s₀.bpt) :
    SameRecords watched (ports.foldl (fun t p => powerOffPort p t) s) (ports.foldl (fun u p => frameAborted p u) v) := by
  induction ports generalizing s v with
  | nil => exact h
  | cons p rest ih =>
    obtain ⟨hp, hrest⟩ := List.nodup_cons.1 hnodup
    have hport := hs p List.mem_cons_self
    have hvport : v.port p = s₀.port p := by rw [State.port, hv]; rfl
    have hstep := h.of_powerOffPort p (hport.trans hvport.symm) (hsb.trans hvb.symm) (hport ▸ hframes p)
    obtain ⟨hac, hab⟩ := frameAborted_cpr p v
    have hbeside := congrArg Prod.fst (powerOffPort_beside p s)
    refine ih hrest hstep (fun q hq => ?_) ((State.beside_bpt hbeside).trans hsb) (hac.trans hv) (hab.trans hvb)
    have hne : q ≠ p := fun e => hp (e ▸ hq)
    rw [powerOffPort_port, if_neg hne]
    exact hs q (List.mem_cons_of_mem p hq)

/-- Where no port is IN_FRAME, power-off hands over no record. -/
theorem powerOffPorts_no_frame (ports : List PortIx) (s : State) (h : ∀ p, (s.port p).state ≠ .inFrame) :
    let t := ports.foldl (fun u p => powerOffPort p u) s
    t.cbm = s.cbm ∧ t.evu = s.evu ∧ t.mge = s.mge := by
  induction ports generalizing s with
  | nil => exact ⟨rfl, rfl, rfl⟩
  | cons p rest ih =>
    have hstep := powerOffPort_of_not_inFrame (h p)
    rw [List.foldl_cons, hstep]
    refine ih (s.setPortState p .off) fun q => ?_
    rw [State.setPortState_port]
    split
    · nofun
    · exact h q

/-! ### DRAIN_EXPIRY (R195) -/

/-- The end of EMPTYING at STANDBY, or where SHUTTING begins (R195). -/
theorem endEmptying_standby {s : State} (h : s.lvc.target ≠ some .listen) : endEmptying s = arrive .standby s := if_neg h

theorem endEmptying_listen {s : State} (h : s.lvc.target = some .listen) : endEmptying s = enterShutting s := if_pos h

/-- The end of EMPTYING leaves every block but LVC, CCR, EVU and MGE alone. -/
theorem endEmptying_rest (s : State) :
    (endEmptying s).bpt = s.bpt ∧ (endEmptying s).trq = s.trq ∧ (endEmptying s).cpr = s.cpr ∧ (endEmptying s).xcr = s.xcr ∧
      (endEmptying s).cbm = s.cbm ∧ (endEmptying s).flk = s.flk ∧ (endEmptying s).scd = s.scd := by
  unfold endEmptying
  split
  · exact ⟨rfl, rfl, rfl, rfl, rfl, rfl, rfl⟩
  · simp [arrive]

theorem endEmptying_has (s : State) (f : Factor) :
    (endEmptying s).evu.has f = (s.evu.has f || decide (f = .ctlLevelReached ∧ s.lvc.target ≠ some .listen)) := by
  by_cases h : s.lvc.target = some .listen
  · have hevu : (endEmptying s).evu = s.evu := by rw [endEmptying_listen h]; rfl
    simp [hevu, h]
  · rw [endEmptying_standby h, (arrive_spec .standby s).1.factors f]
    simp [h]

theorem drainExpiry_spec (s : State) (order : List PortIx) (d : LineTime) (hlevel : s.lvc.level = .emptying)
    (hdrain : s.lvc.drain = some d) (hreached : reached s.bpt.lineTime d = true)
    (hbusy : ∃ p, s.exposures p ≠ [] ∨ (s.port p).state = .inFrame) :
    exec (.drainExpiry order) s = .next (endEmptying (setFactor .ctlLevelForced (forPorts order forcePort s))) := by
  have hexpired : expired s.lvc.drain s = true := by rw [hdrain]; exact hreached
  have hnot : s.drained = false := by
    rw [← Bool.not_eq_true, drained_iff]
    rintro hall
    obtain ⟨p, hlist | hin⟩ := hbusy
    · exact hlist (hall p).1
    · exact (hall p).2 hin
  simp [exec, execDrainExpiry, hlevel, hexpired, hnot]

/-- What the forcing of every port leaves (R195). -/
theorem forcePorts_spec (s : State) (order : List PortIx) :
    (forPorts order forcePort s).beside = s.beside ∧ ∀ p, (forPorts order forcePort s).portView p = forcedView (s.portView p) :=
  ⟨foldl_keeps State.beside forcePort forcePort_beside _ s,
    forPorts_view State.portView forcePort (fun _ => forcedView) forcePort_view order s⟩

/-- The records of the forcing, where the order names every port once; the wrap of a port's missing counter is not one of them. -/
theorem forcePorts_sameRecords {order : List PortIx} {s : State} (hframes : FramesMatch s) (hperm : order.Perm (List.finRange 6)) :
    SameRecords (fun f => ∀ p, f ≠ .camWrap p) (forPorts order forcePort s)
      (order.foldl (fun u p => handMissing (listMissing p (s.exposures p) 7 s.bpt.lineTime) (frameAborted p u)) s) := by
  rw [forPorts, portOrder_of_perm hperm]
  exact (SameRecords.refl s).of_forcePorts hframes (fun p h => h p rfl) (hperm.nodup_iff.2 (List.nodup_finRange 6)) (fun _ _ => rfl)
    rfl rfl rfl

/-- A port after the forcing, where it held a frame just while IN_FRAME. -/
theorem forcedView_of_match (x : Port × List Exposure) (h : x.1.frame.isSome = true ↔ x.1.state = .inFrame) :
    forcedView x = ({ x.1 with
      state := if x.1.state = .inFrame then .discarding else x.1.state
      frame := none, missing := x.1.missing + BitVec.ofNat 32 x.2.length }, []) := by
  have hframe : (if x.1.state = .inFrame then none else x.1.frame) = none := by
    split
    · rfl
    · rename_i hout
      simpa using mt h.1 hout
  rw [forcedView, hframe]

/-- The forced end of a drain (R195). -/
theorem drainExpiry_forced (s : State) (order : List PortIx) (hframes : FramesMatch s) :
    let t := endEmptying (setFactor .ctlLevelForced (forPorts order forcePort s))
    t.bpt = s.bpt ∧ t.trq = s.trq ∧ t.flk = s.flk ∧ t.scd = s.scd ∧ t.evu.has .ctlLevelForced = true ∧
      (∀ p, t.exposures p = [] ∧
        t.port p = { s.port p with
          state := if (s.port p).state = .inFrame then .discarding else (s.port p).state
          frame := none, missing := (s.port p).missing + BitVec.ofNat 32 (s.exposures p).length }) ∧
      (s.lvc.target = some .standby → t.evu.has .ctlLevelReached = true ∧ t.ccr = s.ccr ∧
        t.lvc = { s.lvc with level := .standby, target := none, settle := none, drain := none }) ∧
      (s.lvc.target = some .listen → RelayShut s t ∧
        t.lvc = { s.lvc with level := .shutting, target := some .listen, settle := none, drain := none }) ∧
      (order.Perm (List.finRange 6) →
        let v := order.foldl
          (fun u p => handMissing (listMissing p (s.exposures p) 7 s.bpt.lineTime) (frameAborted p u)) s
        t.cbm = v.cbm ∧
        ∀ f : Factor, (∀ p, f ≠ .camWrap p) → t.evu.has f =
          (v.evu.has f || decide (f = .ctlLevelForced) || decide (f = .ctlLevelReached ∧ s.lvc.target ≠ some .listen))) := by
  obtain ⟨hbeside, hview⟩ := forcePorts_spec s order
  have hsame := forcePorts_sameRecords (order := order) hframes
  generalize forPorts order forcePort s = u at *
  simp only [State.beside, Prod.mk.injEq] at hbeside
  obtain ⟨hbpt, htrq, hflk, hscd, hccr, hlvc⟩ := hbeside
  obtain ⟨ebpt, etrq, ecpr, excr, ecbm, eflk, escd⟩ := endEmptying_rest (setFactor .ctlLevelForced u)
  dsimp only
  have hhas (f : Factor) : (endEmptying (setFactor .ctlLevelForced u)).evu.has f =
      (u.evu.has f || decide (f = .ctlLevelForced) || decide (f = .ctlLevelReached ∧ s.lvc.target ≠ some .listen)) := by
    rw [endEmptying_has, (setFactor_raised .ctlLevelForced u).factors f, setFactor_lvc, hlvc]
    simp
  refine ⟨?_, ?_, ?_, ?_, ?_, fun p => ?_, fun htarget => ?_, fun htarget => ?_, fun hperm => ?_⟩
  · rw [ebpt, setFactor_bpt, hbpt]
  · rw [etrq, setFactor_trq, htrq]
  · rw [eflk, setFactor_flk, hflk]
  · rw [escd, setFactor_scd, hscd]
  · simp [hhas]
  · have hp := (hview p).trans (forcedView_of_match _ (hframes p))
    obtain ⟨hport, hlist⟩ := Prod.mk.inj hp
    have hportEq : (endEmptying (setFactor .ctlLevelForced u)).port p = u.port p := by rw [State.port, ecpr, setFactor_cpr]; rfl
    have hlistEq : (endEmptying (setFactor .ctlLevelForced u)).exposures p = u.exposures p := by
      rw [State.exposures, excr, setFactor_xcr]; rfl
    exact ⟨hlistEq.trans hlist, hportEq.trans hport⟩
  · have hne : (setFactor .ctlLevelForced u).lvc.target ≠ some .listen := by simp [hlvc, htarget]
    have harrive := endEmptying_standby hne
    refine ⟨by simp [hhas, htarget], ?_, ?_⟩
    · rw [harrive, arrive, setFactor_ccr, setFactor_ccr, hccr]
    · rw [harrive, arrive, setFactor_lvc, setFactor_lvc, hlvc]
  · have heq : (setFactor .ctlLevelForced u).lvc.target = some .listen := by simp [hlvc, htarget]
    rw [endEmptying_listen heq]
    refine ⟨relayShut_abortMarking ?_, ?_⟩
    · rw [setFactor_ccr, hccr]
    · rw [enterShutting, setFactor_lvc, hlvc]
      rfl
  · have hrec := hsame hperm
    refine ⟨?_, fun f hf => ?_⟩
    · rw [ecbm, setFactor_cbm, hrec.cbm]
    · rw [hhas, hrec.factors f hf]

/-! ### SHUTTING_END (R196) -/

/-- The end of the pulses and gaps changes the trigger stages alone (R41). -/
theorem clearStages_rest (s : State) : clearStages s = { s with trq := { s.trq with stages := (clearStages s).trq.stages } } := by
  have hkeeps := foldl_keeps (fun u : State => { u with trq := { u.trq with stages := s.trq.stages } })
    (fun p u => u.setStage p (clearStage (u.port p) (u.stage p))) (fun _ _ => rfl) (List.finRange 6) s
  exact congrArg (fun u : State => { u with trq := { u.trq with stages := (clearStages s).trq.stages } }) hkeeps

theorem clearStages_stage (s : State) (p : PortIx) : (clearStages s).stage p = clearStage (s.port p) (s.stage p) := by
  have hview := allPorts_view (fun u q => (u.port q, u.stage q)) (fun p u => u.setStage p (clearStage (u.port p) (u.stage p)))
    (fun _ x => (x.1, clearStage x.1 x.2))
    (fun p u q => by
      by_cases hq : q = p
      · subst hq; simp
      · simp [hq]) s p
  exact congrArg Prod.snd hview

/-- The end of SHUTTING, once camera power is off and the ports are OFF (R13, R41, R196). -/
def endShutting (u : State) : State := arrive .listen { clearStages u with bpt := enterListen (clearStages u).bpt }

/-- Camera power off, and the ports powered off in the given order (R48, R196). -/
def camerasOff (order : List PortIx) (s : State) : State := forPorts order powerOffPort { s with lvc := { s.lvc with power := false } }

theorem shuttingEnd_spec (s : State) (order : List PortIx) (hlevel : s.lvc.level = .shutting)
    (hengine : ∀ x, s.ccr.engine = some x → x.phase = .report) :
    exec (.shuttingEnd order) s = .next (endShutting (camerasOff order s)) := by
  have hfree : s.linesFree = true := by
    unfold State.linesFree
    split
    · rfl
    · rename_i x hx
      simp [hengine x hx]
  change Host.Outcome.next (if s.lvc.level = .shutting ∧ s.linesFree = true then endShutting (camerasOff order s) else s) = _
  rw [if_pos ⟨hlevel, hfree⟩]

/-- The end of SHUTTING leaves the ports, XCR, CBM, CCR, FLK and SCD alone. -/
theorem endShutting_rest (u : State) :
    (endShutting u).cpr = u.cpr ∧ (endShutting u).xcr = u.xcr ∧ (endShutting u).cbm = u.cbm ∧ (endShutting u).ccr = u.ccr ∧
      (endShutting u).flk = u.flk ∧ (endShutting u).scd = u.scd := by
  rw [endShutting, arrive, clearStages_rest]
  simp

theorem endShutting_lvc (u : State) :
    (endShutting u).lvc = { u.lvc with level := .listen, target := none, settle := none, drain := none } := by
  rw [endShutting, arrive, clearStages_rest, setFactor_lvc]

theorem endShutting_bpt (u : State) :
    (endShutting u).bpt = { u.bpt with intervalValid := false, lastDir := .none, interval := 16777215 } := by
  rw [endShutting, arrive, clearStages_rest, setFactor_bpt]
  rfl

theorem endShutting_trq (u : State) : (endShutting u).trq = { u.trq with stages := (endShutting u).trq.stages } := by
  rw [endShutting, arrive, clearStages_rest, setFactor_trq]

theorem endShutting_stage (u : State) (p : PortIx) :
    (endShutting u).stage p = { u.stage p with pulse := 0, gap := 0, out := (u.port p).polarity == .activeLow } := by
  rw [endShutting, arrive, setFactor_stage, ← TrigPolarity.inactiveLevel_eq]
  exact clearStages_stage u p

theorem endShutting_raised {s u : State} (hevu : u.evu = s.evu) (hmge : u.mge = s.mge) :
    Raised [.ctlLevelReached] s (endShutting u) := by
  rw [endShutting, clearStages_rest]
  exact (arrive_spec .listen { u with
    trq := { u.trq with stages := (clearStages u).trq.stages }, bpt := enterListen u.bpt }).1.congr hevu.symm hmge.symm rfl rfl

theorem endShutting_has (u : State) (f : Factor) : (endShutting u).evu.has f = (u.evu.has f || decide (f = .ctlLevelReached)) := by
  simpa using (endShutting_raised (s := u) rfl rfl).factors f

/-- What the power-off leaves (R48). -/
theorem camerasOff_spec (order : List PortIx) (s : State) :
    ((camerasOff order s).beside, (camerasOff order s).xcr) =
        ({ s with lvc := { s.lvc with power := false } }.beside, s.xcr) ∧
      ∀ p, (camerasOff order s).port p = (s.port p).poweredOff :=
  ⟨foldl_keeps (fun u => (u.beside, u.xcr)) powerOffPort powerOffPort_beside _ _,
    forPorts_view State.port powerOffPort (fun _ => Port.poweredOff) powerOffPort_port order _⟩

/-- Where no port is IN_FRAME, the power-off hands over no record. -/
theorem camerasOff_no_frame (order : List PortIx) {s : State} (h : ∀ p, (s.port p).state ≠ .inFrame) :
    (camerasOff order s).cbm = s.cbm ∧ (camerasOff order s).evu = s.evu ∧ (camerasOff order s).mge = s.mge :=
  powerOffPorts_no_frame (portOrder order) _ h

/-- The records of the power-off, where the order names every port once. -/
theorem camerasOff_sameRecords {order : List PortIx} {s : State} (hframes : FramesMatch s) (hperm : order.Perm (List.finRange 6)) :
    SameRecords (fun _ => True) (camerasOff order s) (order.foldl (fun u p => frameAborted p u) s) := by
  have hbase : SameRecords (fun _ => True) { s with lvc := { s.lvc with power := false } } s := (SameRecords.refl s).left rfl rfl
  rw [camerasOff, forPorts, portOrder_of_perm hperm]
  exact hbase.of_powerOffPorts hframes (hperm.nodup_iff.2 (List.nodup_finRange 6)) (fun _ _ => rfl) rfl rfl rfl

/-- A port at power-off, where it held a frame just while IN_FRAME. -/
theorem poweredOff_of_match (x : Port) (h : x.frame.isSome = true ↔ x.state = .inFrame) :
    x.poweredOff = { x with state := .off, frame := none } := by
  unfold Port.poweredOff
  split
  · rfl
  · rename_i hout
    have hnone : x.frame = none := by simpa using mt h.1 hout
    rw [hnone]

/-- SHUTTING_END, the ports of `order` powered off (R196). -/
theorem shuttingEnd_ports (s : State) (order : List PortIx) (hframes : FramesMatch s) :
    let t := endShutting (camerasOff order s)
    t.xcr = s.xcr ∧ t.ccr = s.ccr ∧ t.flk = s.flk ∧ t.scd = s.scd ∧
      t.lvc = { s.lvc with level := .listen, target := none, settle := none, drain := none, power := false } ∧
      t.bpt = { s.bpt with intervalValid := false, lastDir := .none, interval := 16777215 } ∧
      t.trq = { s.trq with stages := t.trq.stages } ∧
      (∀ p, t.stage p = { s.stage p with pulse := 0, gap := 0, out := (s.port p).polarity == .activeLow }) ∧
      (∀ p, t.port p = { s.port p with state := .off, frame := none }) ∧ t.evu.has .ctlLevelReached = true ∧
      ((∀ p, (s.port p).state ≠ .inFrame) → t.cbm = s.cbm ∧ Raised [.ctlLevelReached] s t) ∧
      (order.Perm (List.finRange 6) →
        let v := order.foldl (fun u p => frameAborted p u) s
        t.cbm = v.cbm ∧ ∀ f : Factor, t.evu.has f = (v.evu.has f || decide (f = .ctlLevelReached))) := by
  obtain ⟨hbeside, hports⟩ := camerasOff_spec order s
  have hquiet := camerasOff_no_frame order (s := s)
  have hsame := camerasOff_sameRecords (order := order) hframes
  generalize camerasOff order s = u at *
  simp only [State.beside, Prod.mk.injEq] at hbeside
  obtain ⟨⟨hbpt, htrq, hflk, hscd, hccr, hlvc⟩, hxcr⟩ := hbeside
  obtain ⟨ecpr, excr, ecbm, eccr, eflk, escd⟩ := endShutting_rest u
  have hport (p : PortIx) : u.port p = { s.port p with state := .off, frame := none } :=
    (hports p).trans (poweredOff_of_match _ (hframes p))
  refine ⟨excr.trans hxcr, eccr.trans hccr, eflk.trans hflk, escd.trans hscd, ?_, ?_, ?_, fun p => ?_, fun p => ?_, ?_, fun hidle => ?_,
    fun hperm => ?_⟩
  · rw [endShutting_lvc, hlvc]
  · rw [endShutting_bpt, hbpt]
  · rw [← htrq]
    exact endShutting_trq u
  · have hstage : u.stage p = s.stage p := by rw [State.stage, htrq]; rfl
    rw [endShutting_stage, hport, hstage]
  · have hcpr : (endShutting u).port p = u.port p := by rw [State.port, ecpr]; rfl
    exact hcpr.trans (hport p)
  · simp [endShutting_has]
  · obtain ⟨hcbm, hevu, hmge⟩ := hquiet hidle
    exact ⟨ecbm.trans hcbm, endShutting_raised hevu hmge⟩
  · have hrec := hsame hperm
    refine ⟨ecbm.trans hrec.cbm, fun f => ?_⟩
    rw [endShutting_has, hrec.factors f trivial]

/-- DRAIN_COMPLETE on the way to STANDBY or to LISTEN (R195). -/
theorem drainComplete_targets (s : State) (hlevel : s.lvc.level = .emptying)
    (hdrained : ∀ p, s.exposures p = [] ∧ (s.port p).state ≠ .inFrame) :
    (s.lvc.target = some .standby → ∃ t, exec .drainComplete s = .next t ∧ Raised [.ctlLevelReached] s t ∧
      t.withReportsOf s = { s with lvc := { s.lvc with level := .standby, target := none, settle := none, drain := none } }) ∧
    (s.lvc.target = some .listen → ∃ t, exec .drainComplete s = .next t ∧ RelayShut s t ∧
      t = { s with
        lvc := { s.lvc with level := .shutting, target := some .listen, settle := none, drain := none }, ccr := t.ccr }) := by
  rw [drainComplete_spec s hlevel hdrained]
  refine ⟨fun htarget => ⟨_, rfl, ?_⟩, fun htarget => ⟨_, rfl, ?_⟩⟩
  · rw [endEmptying_standby (by simp [htarget])]
    exact arrive_spec .standby s
  · rw [endEmptying_listen htarget]
    exact ⟨relayShut_abortMarking rfl, rfl⟩

/-- Settles O52: each expiry is its successor state, and that state is read block by block; the records of the ports are those of the
statement's own fold because each port's work touches that port alone. -/
theorem transitionsEnd : Obligations.TransitionsEnd := by
  refine ⟨settleExpiry_spec, drainComplete_targets, ?_, ?_⟩
  · intro s order d hlevel hdrain hreached hbusy hframes
    exact ⟨_, drainExpiry_spec s order d hlevel hdrain hreached hbusy, drainExpiry_forced s order hframes⟩
  · intro s order hlevel hengine hframes
    exact ⟨_, shuttingEnd_spec s order hlevel hengine, shuttingEnd_ports s order hframes⟩

end Sys2Proof.Machine
end

section
/-! PROOFS. The laws of the part kept by its shared operations: `LawStep`, and one lemma for each operation that a command is made of. -/

namespace Sys2Proof.Machine

/-! ### The DRAM's bytes in place (R88, R113) -/

/-- A memory in canonical form whose bytes are payload bytes of buffer cells: `MemoryLaw` as a law of the memory. -/
def Memory.InCells (m : List Host.Cell) : Prop := Memory.wf m = true ∧ ∀ x ∈ m, x.1 < 262144 * 64 ∧ 8 ≤ x.1 % 64

theorem mem_writeByte {m : List Host.Cell} {a : Nat} {v : Byte} {x : Host.Cell} (h : x ∈ writeByte m a v) : x.1 = a ∨ x ∈ m := by
  induction m with
  | nil =>
    simp only [writeByte] at h
    split at h
    · nomatch h
    · exact .inl (by rw [List.mem_singleton.1 h])
  | cons c rest ih =>
    simp only [writeByte] at h
    split at h
    · split at h
      · exact .inr h
      · exact (List.mem_cons.1 h).imp (fun e => by rw [e]) id
    · split at h
      · split at h
        · exact .inr (List.mem_cons_of_mem _ h)
        · exact (List.mem_cons.1 h).imp (fun e => by rw [e]) (List.mem_cons_of_mem _)
      · obtain rfl | hrest := List.mem_cons.1 h
        · exact .inr List.mem_cons_self
        · exact (ih hrest).imp_right (List.mem_cons_of_mem _)

theorem mem_writeBytes {m : List Host.Cell} {a : Nat} {vs : List Byte} {x : Host.Cell} (h : x ∈ writeBytes m a vs) :
    (a ≤ x.1 ∧ x.1 < a + vs.length) ∨ x ∈ m := by
  induction vs generalizing m a with
  | nil => exact .inr h
  | cons v vs ih =>
    obtain hin | hm := ih h
    · exact .inl (by simp only [List.length_cons]; omega)
    · exact (mem_writeByte hm).imp_left (fun e => by simp only [List.length_cons]; omega)

theorem Memory.InCells.writePayload {m : List Host.Cell} (h : Memory.InCells m) {k : Nat} (hk : k < 262144) (payload : List Byte) :
    Memory.InCells (writePayload m k payload) := by
  refine ⟨Memory.wf_writePayload h.1 k payload, fun x hx => ?_⟩
  obtain hin | hm := mem_writeBytes hx
  · simp only [payloadAddr, padPayload_length] at hin
    omega
  · exact h.2 x hm

theorem Memory.InCells.writeWord {m : List Host.Cell} (h : Memory.InCells m) {k n : Nat} (hk : k < 262144) (hn : n < 28)
    (value : BitVec 16) : Memory.InCells (writeWord m k n value) := by
  refine ⟨Memory.wf_writeWord h.1 k n value, fun x hx => ?_⟩
  obtain hin | hm := mem_writeBytes hx
  · simp only [payloadAddr, be, List.length_cons, List.length_nil] at hin
    omega
  · exact h.2 x hm

/-! ### Cells in range -/

/-- The buffer cell that a frame context fills. -/
def fillingCell (f : Option FrameCtx) : Option Nat := (f.bind FrameCtx.assembly).map Assembly.index

/-- Every cell that the part holds is a cell of the buffer: what `BufferLaw` says of each of the four places (R88), in a form that an operation
keeps also while it moves a cell. -/
structure CellsInRange (s : State) : Prop where
  free : ∀ k ∈ freeCells s.cbm.free, k < 262144
  queued : ∀ i, ∀ c ∈ (s.stream i).queue, c.index < 262144
  filling : ∀ p k, fillingCell (s.port p).frame = some k → k < 262144
  sending : ∀ x, s.flk.tx = some x → ∀ k ∈ x.owner.cell, k < 262144

/-- The DRAM in its form, and the cells that may be written or freed next in range. -/
structure CellLaw (s : State) : Prop where
  memory : Memory.InCells s.cbm.mem
  cells : CellsInRange s

theorem BufferLaw.cellsInRange {s : State} (h : BufferLaw s) : CellsInRange s := by
  have hall : ∀ k ∈ freeCells s.cbm.free ++ s.queuedCells ++ s.assemblyCells ++ s.sendingCells, k < 262144 := fun k hk =>
    List.mem_range.1 (h.2.mem_iff.1 hk)
  refine ⟨fun k hk => hall k ?_, fun i c hc => hall c.index ?_, fun p k hk => hall k ?_, fun x hx k hk => hall k ?_⟩
  · simp [hk]
  · have hq : c.index ∈ s.queuedCells := List.mem_flatMap.2 ⟨i, List.mem_finRange i, List.mem_map_of_mem hc⟩
    simp [hq]
  · have ha : k ∈ s.assemblyCells := List.mem_filterMap.2 ⟨p, List.mem_finRange p, hk⟩
    simp [ha]
  · have hs : k ∈ s.sendingCells := by simpa [State.sendingCells, hx] using hk
    simp [hs]

/-! ### Steps that keep the laws -/

/-- What the laws see of FLK. -/
def Flk.lawView (x : Flk) : RxState × Nat × Nat × Bool × Nat × Bool × Option TxCell :=
  (x.rx, x.goodRun, x.badRun, x.held, x.timer, x.expiryDue, x.tx)

/-- The step from `s` to `t` keeps each of the laws, and no response joined the output queue. -/
structure LawStep (s t : State) : Prop where
  trigger : TriggerLaw s → TriggerLaw t
  exposure : ExposureLaw s → ExposureLaw t
  queue : QueueLaw s → QueueLaw t
  responses : t.responses ≤ s.responses
  event : EventLaw s → EventLaw t
  link : LinkLaw s → LinkLaw t
  cell : CellLaw s → CellLaw t

theorem LawStep.refl (s : State) : LawStep s s := ⟨id, id, id, Nat.le_refl _, id, id, id⟩

theorem LawStep.trans {s t u : State} (h : LawStep s t) (k : LawStep t u) : LawStep s u where
  trigger := k.trigger ∘ h.trigger
  exposure := k.exposure ∘ h.exposure
  queue := k.queue ∘ h.queue
  responses := k.responses.trans h.responses
  event := k.event ∘ h.event
  link := k.link ∘ h.link
  cell := k.cell ∘ h.cell

theorem LawStep.ite {s t u : State} {c : Prop} [Decidable c] (ht : c → LawStep s t) (hu : ¬ c → LawStep s u) :
    LawStep s (if c then t else u) := by
  split
  · exact ht ‹_›
  · exact hu ‹_›

theorem foldl_lawStep {α : Type} (f : State → α → State) (h : ∀ s a, LawStep s (f s a)) (l : List α) (s : State) :
    LawStep s (l.foldl f s) := by
  induction l generalizing s with
  | nil => exact LawStep.refl s
  | cons a rest ih => exact (h s a).trans (ih _)

/-- A group is active just if it has an enabled factor set, and its notice enable (R185, R186). -/
theorem Evu.isActive_iff (e : Evu) (g : GroupIx) :
    e.isActive g = true ↔ (∃ b : Fin 8, e.has ⟨g, b⟩ = true ∧ e.enables[g].getLsbD b.val = true) ∧ e.notice[g] = true := by
  have key : ∀ x y : BitVec 8, (x &&& y != 0) = true ↔ ∃ b : Fin 8, x.getLsbD b.val = true ∧ y.getLsbD b.val = true := by
    intro x y
    rw [bne_iff_ne, Ne, ← not_iff_not, not_not]
    constructor
    · rintro h ⟨b, hx, hy⟩
      have hand : (x &&& y).getLsbD b.val = true := by rw [BitVec.getLsbD_and, hx, hy, Bool.and_self]
      simp [h] at hand
    · intro h
      refine BitVec.eq_of_getLsbD_eq fun i hi => ?_
      have := fun hx hy => h ⟨⟨i, hi⟩, hx, hy⟩
      simpa using this
  rw [Evu.isActive, Bool.and_eq_true]
  exact and_congr_left' (key _ _)

/-- Factors only added, and at most one event cell made where none was pending: the event law stays. -/
theorem EventLaw.of_raised {fs : List Factor} {s t : State} (h : EventLaw s) (hr : Raised fs s t) (htx : t.flk.tx = s.flk.tx) :
    EventLaw t := by
  obtain ⟨hcount, hrep⟩ := h
  have hsend : t.eventsSending = s.eventsSending := by rw [State.eventsSending, State.eventsSending, htx]
  refine ⟨?_, fun g hg => ?_⟩
  · rw [hsend]
    obtain ⟨hout, hpend⟩ | ⟨hfree, hpend, payload, hout⟩ := hr.cell
    · rw [State.eventsQueued, hout, hpend]
      exact hcount
    · rw [hfree] at hcount
      have hqueued : t.eventsQueued = s.eventsQueued + 1 := by simp [State.eventsQueued, hout, OutCell.isResponse]
      simp only [Bool.false_eq_true, if_false] at hcount
      simp only [hqueued, hpend, if_true]
      omega
  · rw [hr.reported] at hg
    obtain ⟨⟨b, hb, hen⟩, hnotice⟩ := (Evu.isActive_iff _ g).1 (hrep g hg)
    refine (Evu.isActive_iff _ g).2 ⟨⟨b, ?_, ?_⟩, ?_⟩
    · rw [hr.factors, hb, Bool.true_or]
    · rw [hr.enables, hen]
    · rw [hr.notice, hnotice]

theorem responses_of_raised {fs : List Factor} {s t : State} (hr : Raised fs s t) : t.responses = s.responses := by
  obtain ⟨hout, -⟩ | ⟨-, -, payload, hout⟩ := hr.cell
  · rw [State.responses, hout]; rfl
  · simp [State.responses, hout, OutCell.isResponse]

/-- A step that raises factors, changes the link within its law, and leaves alone what the other laws see. -/
theorem LawStep.of_raised_link {fs : List Factor} {s t : State} (hr : Raised fs s t) (hqueue : t.trq.queue = s.trq.queue)
    (hlevel : t.lvc.level = s.lvc.level) (hlists : t.xcr = s.xcr) (hrelay : t.ccr.queue.length ≤ s.ccr.queue.length)
    (htx : t.flk.tx = s.flk.tx) (hlink : LinkLaw s → LinkLaw t) (hcell : CellLaw s → CellLaw t) : LawStep s t := by
  refine ⟨fun h => ?_, fun h p => ?_, fun ⟨hreq, hresp, hrel, hlen⟩ => ?_, (responses_of_raised hr).le, fun h => h.of_raised hr htx,
    hlink, hcell⟩
  · rw [TriggerLaw, hqueue, hlevel]
    exact h
  · rw [State.exposures, hlists]
    exact h p
  · refine ⟨?_, ?_, by omega, ?_⟩
    · rw [hr.requests]; exact hreq
    · rw [responses_of_raised hr]; exact hresp
    · rw [hr.requests]; exact hlen

theorem LinkLaw.congr {s t : State} (h : LinkLaw s) (hflk : t.flk.lawView = s.flk.lawView) : LinkLaw t := by
  simp only [Flk.lawView, Prod.mk.injEq] at hflk
  obtain ⟨hrx, hgood, hbad, hheld, htimer, hdue, -⟩ := hflk
  rw [LinkLaw, hrx, hgood, hbad, hheld, htimer, hdue]
  exact h

/-- A step that raises factors and leaves alone what the other laws see. -/
theorem LawStep.of_raised {fs : List Factor} {s t : State} (hr : Raised fs s t) (hqueue : t.trq.queue = s.trq.queue)
    (hlevel : t.lvc.level = s.lvc.level) (hlists : t.xcr = s.xcr) (hrelay : t.ccr.queue.length ≤ s.ccr.queue.length)
    (hflk : t.flk.lawView = s.flk.lawView) (hcell : CellLaw s → CellLaw t) : LawStep s t := by
  have htx : t.flk.tx = s.flk.tx := by
    simp only [Flk.lawView, Prod.mk.injEq] at hflk
    tauto
  exact LawStep.of_raised_link hr hqueue hlevel hlists hrelay htx (fun h => h.congr hflk) hcell

/-- A step that touches nothing of EVU and MGE. -/
theorem LawStep.of_quiet {s t : State} (hevu : t.evu = s.evu) (hmge : t.mge = s.mge) (hqueue : t.trq.queue = s.trq.queue)
    (hlevel : t.lvc.level = s.lvc.level) (hlists : t.xcr = s.xcr) (hrelay : t.ccr.queue.length ≤ s.ccr.queue.length)
    (hflk : t.flk.lawView = s.flk.lawView) (hcell : CellLaw s → CellLaw t) : LawStep s t :=
  LawStep.of_raised ((Raised.refl s).congr rfl rfl hevu hmge) hqueue hlevel hlists hrelay hflk hcell

theorem CellsInRange.congr {s t : State} (h : CellsInRange s) (hfree : t.cbm.free = s.cbm.free)
    (hqueue : ∀ i, (t.stream i).queue = (s.stream i).queue) (hframe : ∀ p, (t.port p).frame = (s.port p).frame)
    (htx : t.flk.tx = s.flk.tx) : CellsInRange t := by
  refine ⟨hfree ▸ h.free, fun i => ?_, fun p => ?_, htx ▸ h.sending⟩
  · rw [hqueue]; exact h.queued i
  · rw [hframe]; exact h.filling p

/-- `CellLaw` looks at the DRAM, the free list, the queues, the frames and the cell in transmission alone. -/
theorem CellLaw.congr {s t : State} (h : CellLaw s) (hmem : t.cbm.mem = s.cbm.mem) (hfree : t.cbm.free = s.cbm.free)
    (hqueue : ∀ i, (t.stream i).queue = (s.stream i).queue) (hframe : ∀ p, (t.port p).frame = (s.port p).frame)
    (htx : t.flk.tx = s.flk.tx) : CellLaw t :=
  ⟨hmem ▸ h.memory, h.cells.congr hfree hqueue hframe htx⟩

/-! ### Factors and counters -/

theorem setFactor_lawStep (f : Factor) (s : State) : LawStep s (setFactor f s) :=
  LawStep.of_raised (setFactor_raised f s) (by simp) (by simp) (by simp) (by simp) (by simp)
    (fun h => h.congr (by simp) (by simp) (by simp) (by simp) (by simp))

theorem wrapFactor_lawStep (old : BitVec 32) (f : Factor) (s : State) : LawStep s (wrapFactor old f s) :=
  LawStep.ite (fun _ => setFactor_lawStep f s) (fun _ => LawStep.refl s)

theorem setBpt_lawStep (b : Bpt) (s : State) : LawStep s { s with bpt := b } :=
  LawStep.of_quiet rfl rfl rfl rfl rfl (Nat.le_refl _) rfl (fun h => h.congr rfl rfl (fun _ => rfl) (fun _ => rfl) rfl)

/-- A change of TRQ that leaves the Trigger Queue. -/
theorem setTrq_lawStep (s : State) (x : Trq) (h : x.queue = s.trq.queue) : LawStep s { s with trq := x } :=
  LawStep.of_quiet rfl rfl h rfl rfl (Nat.le_refl _) rfl (fun h => h.congr rfl rfl (fun _ => rfl) (fun _ => rfl) rfl)

theorem setFlk_lawStep (s : State) (x : Flk) (h : x.lawView = s.flk.lawView) : LawStep s { s with flk := x } := by
  refine LawStep.of_quiet rfl rfl rfl rfl rfl (Nat.le_refl _) h (fun hs => hs.congr rfl rfl (fun _ => rfl) (fun _ => rfl) ?_)
  simp only [Flk.lawView, Prod.mk.injEq] at h
  obtain ⟨-, -, -, -, -, -, htx⟩ := h
  exact htx

theorem setScd_lawStep (x : Scd) (s : State) : LawStep s { s with scd := x } :=
  LawStep.of_quiet rfl rfl rfl rfl rfl (Nat.le_refl _) rfl (fun h => h.congr rfl rfl (fun _ => rfl) (fun _ => rfl) rfl)

theorem countBpt_lawStep (old : BitVec 32) (upd : Bpt → BitVec 32 → Bpt) (s : State) : LawStep s (countBpt old upd s) :=
  (setBpt_lawStep _ s).trans (wrapFactor_lawStep ..)

theorem countTrq_lawStep (old : BitVec 32) (upd : Trq → BitVec 32 → Trq) (s : State) (h : ∀ n, (upd s.trq n).queue = s.trq.queue) :
    LawStep s (countTrq old upd s) :=
  (setTrq_lawStep s _ (h _)).trans (wrapFactor_lawStep ..)

theorem countFlk_lawStep (old : BitVec 32) (upd : Flk → BitVec 32 → Flk) (s : State) (h : ∀ n, (upd s.flk n).lawView = s.flk.lawView) :
    LawStep s (countFlk old upd s) :=
  (setFlk_lawStep s _ (h _)).trans (wrapFactor_lawStep ..)

/-! ### Writes to ports, streams, free list and DRAM

Each is stated for a state `t` reached from `s`, since a cell that an operation has taken out of its place is in range only by the law of the
state in which the operation found it. -/

theorem LawStep.setPort {s t : State} (h : LawStep s t) (p : PortIx) (x : Port)
    (hx : CellLaw s → CellLaw t → ∀ k, fillingCell x.frame = some k → k < 262144) : LawStep s (t.setPort p x) := by
  have hcell (hs : CellLaw s) : CellLaw (t.setPort p x) := by
    have ht := h.cell hs
    refine ⟨ht.memory, ht.cells.free, ht.cells.queued, fun q k hk => ?_, ht.cells.sending⟩
    rw [State.setPort_port] at hk
    split at hk
    · exact hx hs ht k hk
    · exact ht.cells.filling q k hk
  exact ⟨h.trigger, h.exposure, h.queue, h.responses, h.event, h.link, hcell⟩

theorem setPort_lawStep (p : PortIx) (x : Port) (s : State) (hx : x.frame = (s.port p).frame ∨ x.frame = none) :
    LawStep s (s.setPort p x) := by
  refine (LawStep.refl s).setPort p x fun hs _ k hk => ?_
  obtain hsame | hnone := hx
  · exact hs.cells.filling p k (hsame ▸ hk)
  · simp [hnone, fillingCell] at hk

theorem LawStep.setStream {s t : State} (h : LawStep s t) (i : StreamIx) (x : Stream)
    (hx : CellLaw s → CellLaw t → ∀ c ∈ x.queue, c.index < 262144) : LawStep s (t.setStream i x) := by
  have hcell (hs : CellLaw s) : CellLaw (t.setStream i x) := by
    have ht := h.cell hs
    refine ⟨ht.memory, ht.cells.free, fun j c hc => ?_, ht.cells.filling, ht.cells.sending⟩
    rw [State.setStream_stream] at hc
    split at hc
    · exact hx hs ht c hc
    · exact ht.cells.queued j c hc
  exact ⟨h.trigger, h.exposure, h.queue, h.responses, h.event, h.link, hcell⟩

theorem setStream_lawStep (i : StreamIx) (x : Stream) (s : State) (hx : x.queue = (s.stream i).queue ∨ x.queue = []) :
    LawStep s (s.setStream i x) := by
  refine (LawStep.refl s).setStream i x fun hs _ c hc => ?_
  obtain hsame | hnil := hx
  · exact hs.cells.queued i c (hsame ▸ hc)
  · simp [hnil] at hc

theorem LawStep.setFree {s t : State} (h : LawStep s t) (runs : List Run)
    (hx : CellLaw s → CellLaw t → ∀ k ∈ freeCells runs, k < 262144) : LawStep s (t.setFree runs) :=
  ⟨h.trigger, h.exposure, h.queue, h.responses, h.event, h.link, fun hs =>
    have ht := h.cell hs
    ⟨ht.memory, hx hs ht, ht.cells.queued, ht.cells.filling, ht.cells.sending⟩⟩

theorem LawStep.setMem {s t : State} (h : LawStep s t) (m : List Host.Cell) (hx : CellLaw s → CellLaw t → Memory.InCells m) :
    LawStep s (t.setMem m) :=
  ⟨h.trigger, h.exposure, h.queue, h.responses, h.event, h.link, fun hs =>
    have ht := h.cell hs
    ⟨hx hs ht, ht.cells.congr rfl (fun _ => rfl) (fun _ => rfl) rfl⟩⟩

theorem LawStep.setReserved {s t : State} (h : LawStep s t) (n : Nat) : LawStep s (t.setReserved n) :=
  ⟨h.trigger, h.exposure, h.queue, h.responses, h.event, h.link, fun hs =>
    (h.cell hs).congr rfl rfl (fun _ => rfl) (fun _ => rfl) rfl⟩

theorem setStage_lawStep (p : PortIx) (x : Stage) (s : State) : LawStep s (s.setStage p x) := setTrq_lawStep s _ rfl

theorem setSensor_lawStep (n : SensorIx) (x : Sensor) (s : State) : LawStep s (s.setSensor n x) := setTrq_lawStep s _ rfl

/-- A shorter Trigger Queue. -/
theorem setTrigQueue_lawStep (q : List TrigEntry) (s : State) (h : q.length ≤ s.trq.queue.length) : LawStep s (s.setTrigQueue q) := by
  refine ⟨fun ⟨hlen, hrun⟩ => ⟨h.trans hlen, fun hlevel => ?_⟩, id, id, Nat.le_refl _, id, id,
    fun hs => hs.congr rfl rfl (fun _ => rfl) (fun _ => rfl) rfl⟩
  have hnil : s.trq.queue.length = 0 := List.length_eq_zero_iff.2 (hrun hlevel)
  exact List.length_eq_zero_iff.1 (Nat.le_zero.1 (hnil ▸ h))

/-- A new list of exposures for port `p`, lawful where the lists were. -/
theorem setExposures_lawStep (p : PortIx) (x : List Exposure) (s : State)
    (h : ExposureLaw s → x.length ≤ 8 ∧ (x.map Exposure.count).Nodup) : LawStep s (s.setExposures p x) := by
  refine ⟨id, fun hs q => ?_, id, Nat.le_refl _, id, id,
    fun hs => hs.congr rfl rfl (fun _ => rfl) (fun _ => rfl) rfl⟩
  rw [State.setExposures_exposures]
  split
  · exact h hs
  · exact hs q

/-- A part of port `p`'s list. -/
theorem setExposures_sublist_lawStep (p : PortIx) (x : List Exposure) (s : State) (h : x.Sublist (s.exposures p)) :
    LawStep s (s.setExposures p x) := by
  refine setExposures_lawStep p x s fun hs => ?_
  obtain ⟨hlen, hnodup⟩ := hs p
  exact ⟨h.length_le.trans hlen, hnodup.sublist (h.map _)⟩

theorem countPort_lawStep (p : PortIx) (get : Port → BitVec 32) (upd : Port → BitVec 32 → Port) (s : State)
    (h : ∀ n, (upd (s.port p) n).frame = (s.port p).frame) : LawStep s (countPort p get upd s) :=
  (setPort_lawStep p _ s (.inl (h _))).trans (wrapFactor_lawStep ..)

theorem countStream_lawStep (i : StreamIx) (get : Stream → BitVec 32) (upd : Stream → BitVec 32 → Stream) (s : State)
    (h : ∀ n, (upd (s.stream i) n).queue = (s.stream i).queue) : LawStep s (countStream i get upd s) :=
  (setStream_lawStep i _ s (.inl (h _))).trans (wrapFactor_lawStep ..)

/-! ### Records at CBM (R99, R100) -/

theorem LawStep.enqueue {s t : State} (h : LawStep s t) (i : StreamIx) (c : QCell) (hc : CellLaw s → c.index < 262144) :
    LawStep s (enqueue i c t) := by
  refine h.setStream i _ fun hs ht c' hc' => ?_
  obtain hold | hnew := List.mem_append.1 hc'
  · exact ht.cells.queued i c' hold
  · rw [List.mem_singleton.1 hnew]
    exact hc hs

theorem closeIfDrained_lawStep (i : StreamIx) (s : State) : LawStep s (closeIfDrained i s) :=
  LawStep.ite (fun _ => (setStream_lawStep i _ s (.inl (by rfl))).trans (setFactor_lawStep ..)) (fun _ => LawStep.refl s)

theorem markLastData_index {f : BitVec 8} {q q' : List QCell} (h : markLastData f q = some q') :
    q'.map QCell.index = q.map QCell.index := by
  induction q generalizing q' with
  | nil => nomatch h
  | cons c rest ih =>
    simp only [markLastData] at h
    split at h
    · rename_i rest' hrest
      cases h
      simp [ih hrest]
    · split at h
      · cases h; rfl
      · nomatch h

theorem closeLost_lawStep (i : StreamIx) (f : BitVec 8) (s : State) : LawStep s (closeLost i f s) := by
  unfold closeLost
  dsimp only
  split
  · rename_i q hq
    refine (LawStep.refl s).setStream i _ fun hs _ c hc => ?_
    have hmem : c.index ∈ (s.stream i).queue.map QCell.index := markLastData_index hq ▸ List.mem_map_of_mem hc
    obtain ⟨c', hc', hindex⟩ := List.mem_map.1 hmem
    exact hindex ▸ hs.cells.queued i c' hc'
  · exact setStream_lawStep i _ s (.inl rfl)

theorem loseRecord_lawStep (i : StreamIx) (f : BitVec 8) (closing : Bool) (s : State) : LawStep s (loseRecord i f closing s) := by
  have hcount := (countStream_lawStep i Stream.recordsLost (fun x n => { x with recordsLost := n }) s (fun _ => rfl)).trans
    (setFactor_lawStep .cbmRecordLost _)
  exact LawStep.ite (fun _ => hcount.trans (closeLost_lawStep ..)) (fun _ => hcount)

/-- The head of the free list, taken off, is in range, and so is the rest. -/
theorem CellLaw.of_takeHead {s : State} (h : CellLaw s) {k : Nat} {runs : List Run} (ht : takeHead s.cbm.free = some (k, runs)) :
    k < 262144 ∧ ∀ j ∈ freeCells runs, j < 262144 := by
  have hfree := h.cells.free
  rw [takeHead_some ht] at hfree
  exact List.forall_mem_cons.1 hfree

theorem handRecord_lawStep (i : StreamIx) (kind : CellKind) (payload : List Byte) (f : BitVec 8) (closing : Bool) (s : State) :
    LawStep s (handRecord i kind payload f closing s) := by
  unfold handRecord
  refine LawStep.ite (fun _ => ?_) (fun _ => loseRecord_lawStep ..)
  split
  · rename_i k runs htake
    have hk (hs : CellLaw s) := hs.of_takeHead htake
    exact (((LawStep.refl s).setFree runs fun hs _ => (hk hs).2).setMem _ fun hs _ => hs.memory.writePayload (hk hs).1 payload).enqueue
      i _ fun hs => (hk hs).1
  · exact loseRecord_lawStep ..

theorem issueMissing_lawStep (i : StreamIx) (r : MissingRecord) (s : State) : LawStep s (issueMissing i r s) :=
  (countPort_lawStep _ _ _ s (fun _ => rfl)).trans (handRecord_lawStep ..)

theorem closeExposure_lawStep (p : PortIx) (cause : Cause) (l : LineTime) (e : Exposure) (s : State) :
    LawStep s (closeExposure p cause l e s) := issueMissing_lawStep ..

theorem removeAll_lawStep (p : PortIx) (cause : Cause) (list : List Exposure) (s : State) (h : list.Sublist (s.exposures p)) :
    LawStep s (removeAll p cause list s) := by
  induction list generalizing s with
  | nil => exact setExposures_sublist_lawStep p [] s h
  | cons e rest ih =>
    have htail := (List.sublist_cons_self e rest).trans h
    refine ((setExposures_sublist_lawStep p rest s htail).trans (closeExposure_lawStep ..)).trans (ih _ ?_)
    rw [closeExposure_exposures, State.setExposures_exposures_self]

/-! ### Frames (R51, R53, R55, R91-R98) -/

theorem grantFrame_lawStep (i : StreamIx) (s : State) : LawStep s (grantFrame i s) := by
  unfold grantFrame
  refine LawStep.trans ?_ (countStream_lawStep _ _ _ _ fun _ => rfl)
  exact ((LawStep.refl s).setReserved _).trans (setStream_lawStep i _ _ (.inl rfl))

theorem countRefusal_lawStep (i : StreamIx) (v : Verdict) (s : State) : LawStep s (countRefusal i v s) := by
  have hcount := countStream_lawStep i Stream.framesRejected (fun x n => { x with framesRejected := n }) s (fun _ => rfl)
  cases v with
  | granted => exact hcount
  | notOpen => exact hcount
  | heldLimit => exact hcount.trans (setFactor_lawStep ..)
  | noRoom => exact hcount.trans (setFactor_lawStep ..)

/-- A frame context's cell is in range, where the cells of `s` are. -/
def FrameInRange (s : State) (f : FrameCtx) : Prop := CellLaw s → ∀ a, f.assembly = some a → a.index < 262144

theorem FrameInRange.of_port {s : State} {p : PortIx} {f : FrameCtx} (h : (s.port p).frame = some f) : FrameInRange s f :=
  fun hs a ha => hs.cells.filling p a.index (by simp [fillingCell, h, ha])

theorem FrameInRange.congr {s : State} {f g : FrameCtx} (h : FrameInRange s f) (hg : g.assembly = f.assembly) : FrameInRange s g :=
  fun hs a ha => h hs a (hg ▸ ha)

theorem FrameInRange.filling {s : State} {f : FrameCtx} (h : FrameInRange s f) (hs : CellLaw s) (k : Nat)
    (hk : fillingCell (some f) = some k) : k < 262144 := by
  cases ha : f.assembly with
  | none => simp [fillingCell, ha] at hk
  | some a =>
    obtain rfl : a.index = k := by simpa [fillingCell, ha] using hk
    exact h hs a ha

theorem LawStep.setFrame {s t : State} (h : LawStep s t) (p : PortIx) (f : FrameCtx) (hf : FrameInRange s f) :
    LawStep s (t.setFrame p (some f)) := h.setPort p _ fun hs _ => hf.filling hs

theorem LawStep.setNoFrame {s t : State} (h : LawStep s t) (p : PortIx) : LawStep s (t.setFrame p none) :=
  h.trans (setPort_lawStep p _ t (.inr rfl))

theorem LawStep.setPortState {s t : State} (h : LawStep s t) (p : PortIx) (x : PortState) : LawStep s (t.setPortState p x) :=
  h.trans (setPort_lawStep p _ t (.inl rfl))

theorem LawStep.commitCell {s t : State} (h : LawStep s t) (p : PortIx) (last : Bool) (f : FrameCtx) (hf : FrameInRange s f) :
    LawStep s (commitCell p last f t) := by
  unfold Machine.commitCell
  split
  · exact h
  · rename_i a ha
    exact (h.enqueue f.stream _ (fun hs => hf hs a ha)).setFrame p _ nofun

theorem LawStep.truncateWord {s t : State} (h : LawStep s t) (p : PortIx) (f : FrameCtx) (hf : FrameInRange s f) :
    LawStep s (truncateWord p f t) :=
  (h.setFrame p { f with truncated := true } (hf.congr rfl)).trans (setFactor_lawStep ..)

theorem LawStep.placeInCell {s t : State} (h : LawStep s t) (p : PortIx) (value : BitVec 16) (a : Assembly) (f : FrameCtx)
    (ha : CellLaw s → a.index < 262144) (hwords : a.words < 28) : LawStep s (placeInCell p value a f t) :=
  (h.setMem _ fun hs ht => ht.memory.writeWord (ha hs) hwords value).setFrame p _ fun hs b hb => by
    cases hb
    exact ha hs

theorem placeInNewCell_lawStep (p : PortIx) (value : BitVec 16) (f : FrameCtx) (s : State) (hf : FrameInRange s f) :
    LawStep s (placeInNewCell p value f s) := by
  unfold placeInNewCell
  refine LawStep.ite (fun _ => (LawStep.refl s).truncateWord p f hf) (fun _ => ?_)
  split
  · exact (LawStep.refl s).truncateWord p f hf
  · rename_i k runs htake
    have hk (hs : CellLaw s) := hs.of_takeHead htake
    exact ((((LawStep.refl s).setFree runs fun hs _ => (hk hs).2).setMem _ fun hs _ =>
      hs.memory.writePayload (hk hs).1 []).setReserved _).placeInCell p value { index := k, words := 0 } _
      (fun hs => (hk hs).1) (Nat.zero_lt_succ 27)

theorem placeWord_lawStep (p : PortIx) (value : BitVec 16) (f : FrameCtx) (s : State) (hf : FrameInRange s f) :
    LawStep s (placeWord p value f s) := by
  unfold placeWord
  split
  · exact placeInNewCell_lawStep p value f s hf
  · rename_i a ha
    refine LawStep.ite (fun hwords => ?_) (fun _ => ?_)
    · exact (LawStep.refl s).placeInCell p value a f (fun hs => hf hs a ha) hwords
    · exact ((LawStep.refl s).commitCell p _ f hf).trans (placeInNewCell_lawStep p value _ _ nofun)

theorem LawStep.endFrameCells {s t : State} (h : LawStep s t) (p : PortIx) (f : FrameCtx) (hf : FrameInRange s f) :
    LawStep s (endFrameCells p f t) :=
  ((h.commitCell p true f hf).setReserved _).trans (setStream_lawStep f.stream _ _ (.inl rfl))

theorem finishFrame_lawStep (p : PortIx) (f : FrameCtx) (s : State) (hf : FrameInRange s f) : LawStep s (finishFrame p f s) :=
  ((((LawStep.refl s).endFrameCells p f hf).trans (handRecord_lawStep ..)).setNoFrame p).trans (closeIfDrained_lawStep ..)

theorem abortFrame_lawStep (p : PortIx) (s : State) : LawStep s (abortFrame p s) := by
  unfold abortFrame
  split
  · exact LawStep.refl s
  · rename_i f hf
    exact finishFrame_lawStep p _ s ((FrameInRange.of_port hf).congr rfl)

end Sys2Proof.Machine
end

section
/-! PROOFS. The laws kept by the work of TRQ, XCR, CPR and BPT. -/

namespace Sys2Proof.Machine

/-! ### TRQ (R22-R43) -/

theorem streamCheck_lawStep (e : TrigEntry) (s : State) : LawStep s (streamCheck e s) :=
  LawStep.ite (fun _ => LawStep.refl s) (fun _ => setFactor_lawStep ..)

theorem failTrigger_lawStep (e : TrigEntry) (i : StreamIx) (cause : Cause) (s : State) : LawStep s (failTrigger e i cause s) := by
  unfold failTrigger
  exact (issueMissing_lawStep ..).trans (countTrq_lawStep _ _ _ (fun _ => rfl))

/-- The exposures that a reused trigger count leaves on the lists (R65). -/
theorem dropReused_exposures (p : PortIx) (c : BitVec 8) (s : State) (q : PortIx) :
    (dropReused p c s).exposures q = if q = p then (s.exposures p).filter (fun x => x.count != c) else s.exposures q := by
  have hkeep (l : List Exposure) (t : State) : (l.foldl (fun u x => setFactor (.camNoFrame p)
      (closeExposure p .noFrame u.lineTime x u)) t).exposures q = t.exposures q := by
    induction l generalizing t with
    | nil => rfl
    | cons x rest ih => rw [List.foldl_cons, ih, setFactor_exposures, closeExposure_exposures]
  rw [dropReused, hkeep, State.setExposures_exposures]

theorem dropReused_lawStep (p : PortIx) (c : BitVec 8) (s : State) : LawStep s (dropReused p c s) :=
  (setExposures_sublist_lawStep p _ s List.filter_sublist).trans
    (foldl_lawStep _ (fun _ _ => (closeExposure_lawStep ..).trans (setFactor_lawStep ..)) _ _)

/-- An exposure joins a list with room: its trigger count has been removed from the list first (R65). -/
theorem appendExposure_lawStep (p : PortIx) (x : Exposure) (s : State) (h : (s.exposures p).length < 8) :
    LawStep s (appendExposure p x s) := by
  refine (dropReused_lawStep p x.count s).trans (setExposures_lawStep p _ _ fun hlaw => ?_)
  have hdrop := dropReused_exposures p x.count s p
  rw [if_pos rfl] at hdrop
  obtain ⟨-, hnodup⟩ := hlaw p
  have hlen : ((dropReused p x.count s).exposures p).length ≤ (s.exposures p).length := by
    rw [hdrop]; exact List.length_filter_le ..
  refine ⟨by simp only [List.length_append, List.length_cons, List.length_nil]; omega, ?_⟩
  rw [List.map_append]
  refine hnodup.append (by simp) fun c hc hx => ?_
  obtain ⟨y, hy, rfl⟩ := List.mem_map.1 hc
  rw [hdrop] at hy
  have hne := List.of_mem_filter hy
  simp only [List.map_cons, List.map_nil, List.mem_singleton] at hx
  simp [hx] at hne

theorem fireTrigger_lawStep (e : TrigEntry) (i : StreamIx) (s : State) (h : (s.exposures e.port).length < 8) :
    LawStep s (fireTrigger e i s) := by
  refine ((setStage_lawStep e.port _ s).trans (countTrq_lawStep _ _ _ (fun _ => rfl))).trans (appendExposure_lawStep _ _ _ ?_)
  rw [countTrq_exposures, State.setStage_exposures]
  exact h

theorem firingProcedure_lawStep (e : TrigEntry) (s : State) : LawStep s (firingProcedure e s) := by
  refine (streamCheck_lawStep e s).trans ?_
  unfold firingProcedure
  have hfail (cause : Cause) (f : Factor) :=
    (failTrigger_lawStep e (checkedStream e s) cause (streamCheck e s)).trans (setFactor_lawStep f _)
  refine LawStep.ite (fun _ => hfail ..) fun _ => LawStep.ite (fun _ => hfail ..) fun _ => LawStep.ite (fun _ => hfail ..) fun hroom => ?_
  exact fireTrigger_lawStep _ _ _ (Nat.lt_of_not_le hroom)

theorem failTrigger_queue (e : TrigEntry) (i : StreamIx) (cause : Cause) (s : State) :
    (failTrigger e i cause s).trq.queue = s.trq.queue := by
  simp [failTrigger]

theorem dropReused_trq (p : PortIx) (c : BitVec 8) (s : State) : (dropReused p c s).trq = s.trq := by
  have hkeep (l : List Exposure) (t : State) : (l.foldl (fun u x => setFactor (.camNoFrame p)
      (closeExposure p .noFrame u.lineTime x u)) t).trq = t.trq := by
    induction l generalizing t with
    | nil => rfl
    | cons x rest ih => rw [List.foldl_cons, ih, setFactor_trq, closeExposure_trq]
  rw [dropReused, hkeep, State.setExposures_trq]

theorem appendExposure_trq (p : PortIx) (x : Exposure) (s : State) : (appendExposure p x s).trq = s.trq := by
  rw [appendExposure, State.setExposures_trq, dropReused_trq]

/-- The firing procedure leaves the Trigger Queue alone: its entry has left it before (R33). -/
theorem firingProcedure_queue (e : TrigEntry) (s : State) : (firingProcedure e s).trq.queue = s.trq.queue := by
  have hfail (cause : Cause) (f : Factor) :
      (setFactor f (failTrigger e (checkedStream e s) cause (streamCheck e s))).trq.queue = s.trq.queue := by
    rw [setFactor_trq, failTrigger_queue, streamCheck_trq]
  unfold firingProcedure
  dsimp only
  split
  · exact hfail ..
  · split
    · exact hfail ..
    · split
      · exact hfail ..
      · rw [fireTrigger, appendExposure_trq, countTrq_trq, State.setStage_trq_queue, streamCheck_trq]

/-- Firing the due heads of the Trigger Queue (R33). -/
theorem fireDue_lawStep (queue : List TrigEntry) (s : State) (h : s.trq.queue = queue) : LawStep s (fireDue queue s) := by
  induction queue generalizing s with
  | nil => exact setTrigQueue_lawStep [] s (Nat.zero_le _)
  | cons e rest ih =>
    refine LawStep.ite (fun _ => ?_) (fun _ => setTrigQueue_lawStep _ s (by rw [h]))
    have hpop := setTrigQueue_lawStep rest s (by rw [h]; exact Nat.le_succ _)
    exact (hpop.trans (firingProcedure_lawStep ..)).trans (ih _ (firingProcedure_queue ..))

theorem changeOfF_lawStep (s : State) : LawStep s (changeOfF s) := fireDue_lawStep _ s rfl

theorem insertEntry_length (f : FinePos) (e : TrigEntry) (q : List TrigEntry) : (insertEntry f e q).length = q.length + 1 := by
  induction q with
  | nil => rfl
  | cons x rest ih =>
    simp only [insertEntry]
    split
    · rfl
    · rw [List.length_cons, ih]; rfl

/-- A registration at settled RUN inserts only below 64 entries (R30-R32). -/
theorem insertTrigger_lawStep (e : TrigEntry) (s : State) (hrun : s.lvc.level = .run) : LawStep s (insertTrigger e s) := by
  refine LawStep.ite (fun hroom => ?_) (fun _ => ?_)
  · refine ⟨fun _ => ⟨?_, fun hne => absurd hrun hne⟩, id, id, Nat.le_refl _, id, id,
      fun hs => hs.congr rfl rfl (fun _ => rfl) (fun _ => rfl) rfl⟩
    rw [State.setTrigQueue, insertEntry_length]
    exact hroom
  · exact ((streamCheck_lawStep e s).trans (failTrigger_lawStep ..)).trans (setFactor_lawStep ..)

theorem insertTrigger_lvc (e : TrigEntry) (s : State) : (insertTrigger e s).lvc = s.lvc := by
  unfold insertTrigger
  split
  · rfl
  · rw [setFactor_lvc, failTrigger_lvc, streamCheck_lvc]

/-- The queue entries of a registration, one after another (R30). -/
theorem planInsertions_lawStep (n : SensorIx) (part : BitVec 32) (plans : List PlanIx) (s : State) (hrun : s.lvc.level = .run) :
    LawStep s (plans.foldl (fun u i =>
      let x := u.planEntry i
      if x.enabled = true ∧ x.sensor = n then insertTrigger (planTrigger part i x u.finePos) u else u) s) := by
  induction plans generalizing s with
  | nil => exact LawStep.refl s
  | cons i rest ih =>
    rw [List.foldl_cons]
    dsimp only
    split
    · exact (insertTrigger_lawStep _ s hrun).trans (ih _ (by rw [insertTrigger_lvc, hrun]))
    · exact ih s hrun

theorem registerPart_lawStep (n : SensorIx) (s : State) (hrun : s.lvc.level = .run) : LawStep s (registerPart n s) := by
  have hpart := setTrq_lawStep s { s.trq with partCounter := s.trq.partCounter + 1 } rfl
  have hcount := hpart.trans (countTrq_lawStep s.trq.partsRegistered (fun x k => { x with partsRegistered := k }) _ (fun _ => rfl))
  unfold registerPart
  dsimp only
  refine LawStep.trans (hcount.trans (setSensor_lawStep n _ _)) (planInsertions_lawStep n _ _ _ ?_)
  rw [State.setSensor_lvc, countTrq_lvc]
  exact hrun

theorem registrationGate_lawStep (n : SensorIx) (level : Bool) (s : State) : LawStep s (registrationGate n level s) := by
  refine LawStep.ite (fun ⟨hrun, _, _⟩ => LawStep.ite (fun _ => ?_) fun _ => LawStep.ite (fun _ => ?_) fun _ => ?_)
    (fun _ => LawStep.refl s)
  · exact countTrq_lawStep _ _ _ (fun _ => rfl)
  · exact (countTrq_lawStep _ _ _ (fun _ => rfl)).trans (setFactor_lawStep ..)
  · exact registerPart_lawStep n s hrun

theorem sampleSensor_lawStep (n : SensorIx) (sample : Bool) (s : State) : LawStep s (sampleSensor n sample s) :=
  have hset := setSensor_lawStep n { s.sensor n with filter := (filterSample (s.sensor n).depth sample (s.sensor n).filter).1 } s
  LawStep.ite (fun _ => hset.trans (registrationGate_lawStep ..)) (fun _ => hset)

/-! ### XCR (R67-R70) -/

theorem splitAtCount_sublist {c : BitVec 8} {list older younger : List Exposure} {m : Exposure}
    (h : splitAtCount c list = some (older, m, younger)) : younger.Sublist list := by
  induction list generalizing older with
  | nil => nomatch h
  | cons e rest ih =>
    simp only [splitAtCount] at h
    split at h
    · cases h
      exact List.sublist_cons_self ..
    · obtain ⟨⟨o, m', y⟩, hrest, heq⟩ := Option.map_eq_some_iff.1 h
      cases heq
      exact (ih hrest).trans (List.sublist_cons_self ..)

theorem closeSkipped_lawStep (p : PortIx) (older : List Exposure) (s : State) : LawStep s (closeSkipped p older s) :=
  foldl_lawStep _ (fun _ _ => (closeExposure_lawStep ..).trans (setFactor_lawStep ..)) _ _

theorem matchFrame_lawStep (p : PortIx) (c : BitVec 8) (s : State) : LawStep s (matchFrame p c s).2 := by
  unfold matchFrame
  split
  · split
    · exact LawStep.refl s
    · rename_i hsplit
      exact (setExposures_sublist_lawStep p _ s (splitAtCount_sublist hsplit)).trans (closeSkipped_lawStep ..)
  · split
    · exact LawStep.refl s
    · rename_i e rest hlist
      exact setExposures_sublist_lawStep p rest s (by rw [hlist]; exact List.sublist_cons_self ..)

/-! ### CPR (R46-R58) -/

theorem parityError_lawStep (p : PortIx) (s : State) : LawStep s (parityError p s) :=
  (countPort_lawStep _ _ _ _ (fun _ => rfl)).trans (setFactor_lawStep ..)

theorem framingError_lawStep (p : PortIx) (s : State) : LawStep s (framingError p s) :=
  (countPort_lawStep _ _ _ _ (fun _ => rfl)).trans (setFactor_lawStep ..)

theorem refuseFrame_lawStep (p : PortIx) (i : StreamIx) (v : Verdict) (e : Option Exposure) (value : BitVec 16) (s : State) :
    LawStep s (refuseFrame p i v e value s) :=
  ((countRefusal_lawStep i v s).trans (handRecord_lawStep ..)).setPortState p .discarding

theorem offerFrame_lawStep (p : PortIx) (i : StreamIx) (e : Option Exposure) (value : BitVec 16) (s : State) :
    LawStep s (offerFrame p i e value s) := by
  refine LawStep.ite (fun _ => refuseFrame_lawStep ..) (fun _ => ?_)
  split
  · exact (grantFrame_lawStep i s).setPort p _ fun _ _ k hk => by simp [fillingCell, newFrame] at hk
  · exact refuseFrame_lawStep ..

theorem beginFrame_lawStep (p : PortIx) (value : BitVec 16) (s : State) : LawStep s (beginFrame p value s) := by
  have hcount := countPort_lawStep p Port.frames (fun x n => { x with frames := n }) s (fun _ => rfl)
  have hmatch := hcount.trans (matchFrame_lawStep p (value.setWidth 8) _)
  unfold beginFrame
  dsimp only
  split
  · rename_i e t ht
    rw [ht] at hmatch
    exact hmatch.trans (offerFrame_lawStep ..)
  · rename_i t ht
    rw [ht] at hmatch
    have horphan := (hmatch.trans (setFactor_lawStep (.camOrphan p) t)).trans
      (countPort_lawStep p Port.orphans (fun x n => { x with orphans := n }) _ (fun _ => rfl))
    exact LawStep.ite (fun _ => horphan.trans (offerFrame_lawStep ..)) (fun _ => horphan.setPortState p .discarding)

theorem takeData_lawStep (p : PortIx) (good : Bool) (value : BitVec 16) (f : FrameCtx) (s : State) (hf : (s.port p).frame = some f) :
    LawStep s (takeData p good value f s) := by
  have hset := (LawStep.refl s).setFrame p
    { f with computed := f.computed + value, received := saturatingInc f.received, parity := f.parity || !good }
    ((FrameInRange.of_port hf).congr rfl)
  refine hset.trans (placeWord_lawStep p value _ _ (FrameInRange.of_port (p := p) ?_))
  rw [State.setFrame, State.setPort_port_self]

theorem closeFrame_lawStep (p : PortIx) (value : BitVec 16) (f : FrameCtx) (s : State) (hf : (s.port p).frame = some f) :
    LawStep s (closeFrame p value f s) := by
  unfold closeFrame
  dsimp only
  generalize hg : ({ f with
    endL := some s.lineTime, rxChecksum := value, checksumBad := f.checksumBad || value != f.computed } : FrameCtx) = g
  have hrange : FrameInRange s g := hg ▸ (FrameInRange.of_port hf).congr rfl
  have hset := (LawStep.refl s).setFrame p g hrange
  have hheld : ((s.setFrame p (some g)).port p).frame = some g := by rw [State.setFrame, State.setPort_port_self]
  split
  · have hcount := (countPort_lawStep p Port.checksumErrors (fun x n => { x with checksumErrors := n }) (s.setFrame p (some g))
      (fun _ => rfl)).trans (setFactor_lawStep (.camChecksum p) _)
    refine ((hset.trans hcount).trans (finishFrame_lawStep p g _ (FrameInRange.of_port (p := p) ?_))).setPortState p .idle
    rw [setFactor_port, countPort_port_self, hheld]
  · exact (hset.trans (finishFrame_lawStep p g _ (FrameInRange.of_port hheld))).setPortState p .idle

/-! ### BPT (R7-R17) -/

theorem BeltStep.lawStep {fs : List Factor} {b : Bpt} {s t : State} (h : BeltStep fs b s t) : LawStep s t := by
  have htrq := congrArg (fun u : State => u.trq.queue) h.rest
  have hlevel := congrArg (fun u : State => u.lvc.level) h.rest
  have hxcr := congrArg State.xcr h.rest
  have hrelay := congrArg (fun u : State => u.ccr.queue.length) h.rest
  have hflk := congrArg State.flk h.rest
  have hcbm := congrArg State.cbm h.rest
  have hcpr := congrArg State.cpr h.rest
  refine LawStep.of_raised h.raised htrq hlevel hxcr hrelay.le (congrArg Flk.lawView hflk) fun hs => ?_
  exact hs.congr (congrArg Cbm.mem hcbm) (congrArg Cbm.free hcbm) (fun i => congrArg (fun c : Cbm => c.streams[i].queue) hcbm)
    (fun p => congrArg (fun v : Vector Port 6 => v[p].frame) hcpr) (congrArg Flk.tx hflk)

theorem beltWork_lawStep (step dir : Bool) (s : State) : LawStep s (beltWork step dir s) := by
  have htick : LawStep s (s.ticked step dir) := by
    by_cases hlevel : s.lvc.level = .listen
    · exact (ticked_beltStep_listen step dir hlevel).lawStep
    · exact (ticked_beltStep_tracking step dir hlevel).lawStep
  rw [beltWork_eq]
  refine LawStep.ite (fun _ => LawStep.ite (fun _ => ?_) fun _ => ?_) (fun _ => LawStep.ite (fun _ => ?_) fun _ => htick)
  · exact htick.trans (forwardEdge_beltStep _).lawStep
  · exact htick.trans (reverseEdge_beltStep _).lawStep
  · exact htick.trans (setBpt_lawStep _ _)

theorem deliverF_lawStep (old : FinePos) (s : State) : LawStep s (deliverF old s) :=
  LawStep.ite (fun _ => LawStep.refl s) (fun _ => changeOfF_lawStep s)

end Sys2Proof.Machine
end

section
/-! PROOFS. The laws kept by every command (O59): the outward and return lanes, the relay, the level transitions, the management rows and the
resets. -/

namespace Sys2Proof.Machine

/-! ### The outward lane (R102, R113, R116, R137-R141) -/

theorem selectCell_lawStep {i : StreamIx} {s t : State} {c : QCell} {seq : BitVec 16} (h : selectCell i s = some (c, seq, t)) :
    LawStep s t ∧ t.flk = s.flk ∧ c ∈ (s.stream i).queue := by
  unfold selectCell at h
  dsimp only at h
  split at h
  · nomatch h
  · rename_i c' rest hqueue
    simp only [Option.some.injEq, Prod.mk.injEq] at h
    obtain ⟨rfl, -, rfl⟩ := h
    refine ⟨?_, ?_, by rw [hqueue]; exact List.mem_cons_self⟩
    · have hpop : LawStep s (s.setStream i { s.stream i with queue := rest, seq := (s.stream i).seq + 1 }) :=
        (LawStep.refl s).setStream i _ fun hs _ d hd => hs.cells.queued i d (by rw [hqueue]; exact List.mem_cons_of_mem _ hd)
      have hcount := hpop.trans (countStream_lawStep i Stream.cellsSent (fun x n => { x with cellsSent := n }) _ (fun _ => rfl))
      refine LawStep.trans ?_ (closeIfDrained_lawStep i _)
      have hopen : LawStep s (if c'.kind = .dataFirst ∨ c'.kind = .dataOnly then
          State.setStream _ i { State.stream _ i with openTx := true, openTxNo := c'.frameNo } else _) :=
        LawStep.ite (fun _ => hcount.trans (setStream_lawStep i _ _ (.inl rfl))) (fun _ => hcount)
      exact LawStep.ite (fun _ => hopen.trans (setStream_lawStep i _ _ (.inl rfl))) (fun _ => hopen)
    · rw [closeIfDrained_flk]
      split <;> split <;> simp

/-- A cell begins its way out where none was in transmission. -/
theorem transmit_lawStep {s t : State} (h : LawStep s t) (htx : s.flk.tx = none) (hflk : t.flk = s.flk) (owner : TxOwner)
    (bytes : List Byte) (howner : owner ≠ .event true) (hcell : CellLaw s → ∀ k ∈ owner.cell, k < 262144) :
    LawStep s (t.transmit owner bytes) := by
  have hnone : t.flk.tx = none := by rw [hflk, htx]
  refine ⟨h.trigger, h.exposure, h.queue, h.responses, fun hs => ?_, h.link, fun hs => ?_⟩
  · obtain ⟨hcount, hrep⟩ := h.event hs
    refine ⟨?_, hrep⟩
    have hbefore : t.eventsSending = 0 := by rw [State.eventsSending, hnone]
    have hafter : (t.transmit owner bytes).eventsSending = 0 := by
      unfold State.transmit State.eventsSending
      split
      · rename_i heq
        cases heq
        exact absurd rfl howner
      · rfl
    rw [hbefore] at hcount
    rw [hafter]
    exact hcount
  · have ht := h.cell hs
    refine ⟨ht.memory, ht.cells.free, ht.cells.queued, ht.cells.filling, fun x hx => ?_⟩
    cases hx
    exact hcell hs

theorem sendIdle_lawStep (s : State) (htx : s.flk.tx = none) : LawStep s (sendIdle s) :=
  transmit_lawStep (LawStep.refl s) htx rfl _ _ nofun nofun

theorem sendMgmt_lawStep (s : State) (htx : s.flk.tx = none) : LawStep s (sendMgmt s) := by
  unfold sendMgmt
  split
  · exact sendIdle_lawStep s htx
  · rename_i r payload rest hout
    have hresp : (s.setOutput rest).responses ≤ s.responses := by
      simp [State.responses, hout, List.filter_cons, OutCell.isResponse]
    have hpop : LawStep s (s.setOutput rest) := by
      refine ⟨id, id, fun ⟨hreq, hmax, hrel, hlen⟩ => ⟨hreq, hresp.trans hmax, hrel, hlen⟩, hresp, fun ⟨hcount, hrep⟩ => ⟨?_, hrep⟩, id,
        fun hs => hs.congr rfl rfl (fun _ => rfl) (fun _ => rfl) rfl⟩
      rw [← show (s.setOutput rest).eventsQueued = s.eventsQueued by simp [State.eventsQueued, hout, OutCell.isResponse]] at hcount
      exact hcount
    exact transmit_lawStep hpop htx rfl _ _ nofun nofun
  · rename_i payload rest hout
    have hresp : ((s.setOutput rest).transmit (.event true) (formCell 8 0 0 payload.length 0 payload)).responses = s.responses := by
      simp [State.responses, State.transmit, hout, OutCell.isResponse]
    refine ⟨id, id, fun ⟨hreq, hmax, hrel, hlen⟩ => ⟨hreq, hresp.le.trans hmax, hrel, hlen⟩, hresp.le, fun ⟨hcount, hrep⟩ => ⟨?_, hrep⟩, id,
      fun hs => ⟨hs.memory, hs.cells.free, hs.cells.queued, hs.cells.filling, fun x hx => ?_⟩⟩
    · have hqueued : s.eventsQueued = rest.countP (fun c => !c.isResponse) + 1 := by
        simp [State.eventsQueued, hout, OutCell.isResponse, List.countP_eq_length_filter]
      have hnone : s.eventsSending = 0 := by rw [State.eventsSending, htx]
      rw [hqueued, hnone] at hcount
      refine Eq.trans ?_ hcount
      simp [State.eventsQueued, State.eventsSending, State.transmit, List.countP_eq_length_filter]
    · cases hx
      nofun

theorem sendStream_lawStep (i : StreamIx) (s : State) (htx : s.flk.tx = none) : LawStep s (sendStream i s) := by
  unfold sendStream
  split
  · exact sendIdle_lawStep s htx
  · rename_i c seq t hsel
    obtain ⟨hstep, hflk, hmem⟩ := selectCell_lawStep hsel
    refine transmit_lawStep hstep htx hflk _ _ nofun fun hs k hk => ?_
    obtain rfl : k = c.index := by simpa [TxOwner.cell] using hk
    exact hs.cells.queued i c hmem

theorem sendChoice_lawStep (x : Choice) (s : State) (htx : s.flk.tx = none) : LawStep s (sendChoice x s) := by
  unfold sendChoice
  split
  · exact sendIdle_lawStep _ htx
  · exact sendMgmt_lawStep _ htx
  · exact sendStream_lawStep _ _ htx
  · exact (setScd_lawStep _ _).trans (sendStream_lawStep _ _ htx)

theorem advanceSlot_lawStep (s : State) : LawStep s (advanceSlot s) :=
  LawStep.ite (fun _ => ((setScd_lawStep _ s).trans (setScd_lawStep _ _)).trans (setFactor_lawStep ..)) (fun _ => setScd_lawStep _ s)

theorem takeSlot_lawStep (s : State) (htx : s.flk.tx = none) : LawStep s (takeSlot s) :=
  (sendChoice_lawStep _ s htx).trans (advanceSlot_lawStep _)

/-! ### The end of a slot (R116, R130, R188) -/

/-- A change of FLK that keeps the cell in transmission and the link's law. -/
theorem setLink_lawStep (s : State) (x : Flk) (htx : x.tx = s.flk.tx) (hlink : LinkLaw s → LinkLaw { s with flk := x }) :
    LawStep s { s with flk := x } := by
  refine ⟨id, id, id, Nat.le_refl _, fun hs => ?_, hlink, fun hs => hs.congr rfl rfl (fun _ => rfl) (fun _ => rfl) htx⟩
  exact hs.of_raised ((Raised.refl s).congr rfl rfl rfl rfl) htx

theorem takeDueExpiry_lawStep (s : State) : LawStep s (takeDueExpiry s) := by
  refine LawStep.ite (fun _ => ?_) (fun _ => LawStep.refl s)
  refine (setLink_lawStep s { s.flk with held := false, timer := 0, expiryDue := false } rfl ?_).trans (setFactor_lawStep ..)
  simp +contextual [LinkLaw]

theorem tickHold_lawStep (s : State) : LawStep s (tickHold s) := by
  refine LawStep.ite (fun _ => LawStep.refl s) fun hzero => LawStep.ite (fun hone => ?_) fun hmore => ?_
  · exact setLink_lawStep s _ rfl fun ⟨hsync, hheld, _, hmax, hgood, hbad⟩ => ⟨hsync, hheld, fun _ => hone, hmax, hgood, hbad⟩
  · refine setLink_lawStep s _ rfl fun ⟨hsync, hheld, hdue, hmax, hgood, hbad⟩ => ⟨hsync, fun _ => hheld (by omega), fun h => ?_, ?_, hgood, hbad⟩
    · exact absurd (hdue h) hmore
    · exact (Nat.sub_le ..).trans hmax

/-- The reset flags of MGE are in none of the laws. -/
theorem setResetDue_lawStep (s : State) (b : Bool) : LawStep s { s with mge := { s.mge with resetDue := b } } :=
  ⟨id, id, id, Nat.le_refl _, id, id, fun hs => hs.congr rfl rfl (fun _ => rfl) (fun _ => rfl) rfl⟩

/-- The end of the transmission of the cell in transmission (R116): its owner acts on it. -/
theorem reportSent_lawStep (s : State) (c : TxCell) (htx : s.flk.tx = some c) :
    LawStep s (reportSent c.owner { s with flk := { s.flk with tx := none } }) := by
  have hclear (hs : CellLaw s) : CellLaw { s with flk := { s.flk with tx := none } } :=
    ⟨hs.memory, hs.cells.free, hs.cells.queued, hs.cells.filling, nofun⟩
  have hdone (c : TxCell) (htx : s.flk.tx = some c) (hlive : c.owner ≠ .event true) : LawStep s { s with flk := { s.flk with tx := none } } := by
    refine ⟨id, id, id, Nat.le_refl _, fun ⟨hcount, hrep⟩ => ⟨?_, hrep⟩, id, hclear⟩
    have hnone : s.eventsSending = 0 := by
      unfold State.eventsSending
      split
      · rename_i heq
        rw [htx] at heq
        cases heq
        exact absurd rfl hlive
      · rfl
    rw [hnone] at hcount
    exact hcount
  obtain ⟨owner, bytes⟩ := c
  cases owner with
  | idle => exact hdone _ htx nofun
  | stream index =>
    refine (hdone _ htx nofun).setFree _ fun hs _ k hk => ?_
    rw [freeCells_pushTail] at hk
    obtain hfree | hback := List.mem_append.1 hk
    · exact hs.cells.free k hfree
    · rw [List.mem_singleton.1 hback]
      exact hs.cells.sending _ htx index (List.mem_singleton.2 rfl)
  | response isReset =>
    refine LawStep.ite (fun _ => ?_) (fun _ => hdone _ htx nofun)
    have hstep := hdone _ htx nofun
    exact hstep.trans (setResetDue_lawStep _ true)
  | event live =>
    cases live with
    | false => exact hdone _ htx nofun
    | true =>
      refine ⟨id, id, id, Nat.le_refl _, fun ⟨hcount, hrep⟩ => ⟨?_, fun g hg => ?_⟩, id,
        fun hs => (hclear hs).congr rfl rfl (fun _ => rfl) (fun _ => rfl) rfl⟩
      · have hsend : s.eventsSending = 1 := by rw [State.eventsSending, htx]
        have hqueued : s.eventsQueued = 0 := by
          rw [hsend] at hcount
          split at hcount <;> omega
        exact hqueued
      · have hactive : s.evu.isActive g = true := by simpa [reportSent, eventSent] using hg
        exact hactive

theorem transmissionEnd_lawStep (s : State) (c : TxCell) (htx : s.flk.tx = some c) :
    LawStep s (tickHold (reportSent c.owner { takeDueExpiry s with flk := { (takeDueExpiry s).flk with tx := none } })) := by
  have htx' : (takeDueExpiry s).flk.tx = some c := by
    unfold takeDueExpiry
    split
    · rw [expireHold, setFactor_flk]; exact htx
    · exact htx
  exact ((takeDueExpiry_lawStep s).trans (reportSent_lawStep _ c htx')).trans (tickHold_lawStep _)

/-! ### The return lane (R124-R130, R148) -/

theorem enterSync_lawStep (s : State) : LawStep s (enterSync s) := by
  have hlink := setLink_lawStep s { s.flk with rx := .sync, goodRun := 0, badRun := 0 } rfl (by simp +contextual [LinkLaw])
  unfold enterSync
  exact (hlink.trans (setFactor_lawStep ..)).trans (countFlk_lawStep _ _ _ (fun _ => rfl))

/-- FLK after the receiver has left SYNC (R128). -/
def Flk.down (x : Flk) : Flk := { x with rx := .search, goodRun := 0, badRun := 0, held := false, timer := 0, expiryDue := false }

/-- EVU does not look at FLK: a factor set before a change of FLK or after it is the same. -/
theorem setFactor_flk_comm (f : Factor) (s : State) (x : Flk) :
    { setFactor f s with flk := x } = setFactor f { s with flk := x } := by
  unfold setFactor judgeEvent
  dsimp only
  split
  · split <;> rfl
  · rfl

theorem leaveSync_eq (s : State) :
    leaveSync s =
      let t := setFactor .flkDown { s with flk := s.flk.down }
      if t.mge.resetPending then { t with mge := { t.mge with resetDue := true } } else t := by
  have hcomm : { setFactor .flkDown { s with flk := { s.flk with rx := .search, goodRun := 0, badRun := 0 } } with flk := s.flk.down } =
      setFactor .flkDown { s with flk := s.flk.down } := setFactor_flk_comm ..
  unfold leaveSync
  dsimp only
  rw [← hcomm, setFactor_flk]
  rfl

theorem leaveSync_lawStep (s : State) : LawStep s (leaveSync s) := by
  have hdown : LawStep s (setFactor .flkDown { s with flk := s.flk.down }) :=
    (setLink_lawStep s s.flk.down rfl (by simp +contextual [LinkLaw, Flk.down])).trans (setFactor_lawStep ..)
  rw [leaveSync_eq]
  exact LawStep.ite (fun _ => hdown.trans (setResetDue_lawStep _ true)) (fun _ => hdown)

theorem takeGoodCell_lawStep (act : State → State) (hact : ∀ s, s.flk.rx = .sync → LawStep s (act s)) (s : State) :
    LawStep s (takeGoodCell act s) := by
  unfold takeGoodCell
  split
  · exact LawStep.refl s
  · refine LawStep.ite (fun _ => enterSync_lawStep s) (fun hrun => setLink_lawStep s _ rfl ?_)
    rintro ⟨hsync, hheld, hdue, hmax, hgood, hbad⟩
    exact ⟨hsync, hheld, hdue, hmax, Nat.lt_of_not_le hrun, hbad⟩
  · rename_i hsync
    refine (setLink_lawStep s { s.flk with badRun := 0 } rfl ?_).trans (hact _ hsync)
    rintro ⟨hsync, hheld, hdue, hmax, hgood, hbad⟩
    exact ⟨hsync, hheld, hdue, hmax, hgood, Nat.zero_lt_succ 3⟩

theorem takeBadCell_lawStep (s : State) : LawStep s (takeBadCell s) := by
  have hcount := (countFlk_lawStep s.flk.badCells (fun x n => { x with badCells := n }) s (fun _ => rfl)).trans
    (setFactor_lawStep .flkBadCell _)
  have hrx : (setFactor .flkBadCell (countFlk s.flk.badCells (fun x n => { x with badCells := n }) s)).flk.rx = s.flk.rx := by
    rw [setFactor_flk, countFlk_flk]
  unfold takeBadCell
  split
  · exact LawStep.refl s
  · rename_i hverify
    refine hcount.trans (setLink_lawStep _ _ rfl ?_)
    rintro ⟨hsync, hheld, hdue, hmax, hgood, hbad⟩
    refine ⟨fun h => ?_, hheld, hdue, hmax, Nat.zero_lt_succ 15, hbad⟩
    exact absurd (hsync h) (by rw [hrx, hverify]; nofun)
  · refine LawStep.ite (fun _ => hcount.trans (leaveSync_lawStep _)) (fun hrun => hcount.trans (setLink_lawStep _ _ rfl ?_))
    rintro ⟨hsync, hheld, hdue, hmax, hgood, hbad⟩
    exact ⟨hsync, hheld, hdue, hmax, hgood, Nat.lt_of_not_le hrun⟩

theorem takeHold_lawStep (s : State) (hrx : s.flk.rx = .sync) : LawStep s (takeHold s) := by
  have hlink := setLink_lawStep s
    { s.flk with held := true, timer := s.flk.holdLimit.toNat * Config.slotsPerHoldUnit, expiryDue := false } rfl
    (fun ⟨_, _, _, _, hgood, hbad⟩ => ⟨fun _ => hrx, fun _ => rfl, nofun,
      Nat.mul_le_mul_right 1024 (Nat.le_of_lt_succ s.flk.holdLimit.isLt), hgood, hbad⟩)
  unfold takeHold
  exact hlink.trans (countFlk_lawStep _ _ _ (fun _ => rfl))

theorem takeResume_lawStep (s : State) : LawStep s (takeResume s) :=
  LawStep.ite (fun _ => setLink_lawStep s _ rfl (by simp +contextual [LinkLaw])) (fun _ => LawStep.refl s)

theorem countDropped_lawStep (s : State) : LawStep s (countDropped s) :=
  LawStep.trans (t := { s with mge := { s.mge with dropped := s.mge.dropped + 1 } })
    ⟨id, id, id, Nat.le_refl _, id, id, fun hs => hs.congr rfl rfl (fun _ => rfl) (fun _ => rfl) rfl⟩ (wrapFactor_lawStep ..)

/-- A request joins the queue below its capacity (R148). -/
theorem takeRequest_lawStep (payload : List Byte) (hlen : payload.length = 56) (s : State) : LawStep s (takeRequest payload s) := by
  refine LawStep.ite (fun hroom => ?_) (fun _ => (countDropped_lawStep s).trans (setFactor_lawStep ..))
  refine ⟨id, id, fun ⟨hreq, hresp, hrel, hall⟩ => ⟨?_, hresp, hrel, fun r hr => ?_⟩, Nat.le_refl _, id, id,
    fun hs => hs.congr rfl rfl (fun _ => rfl) (fun _ => rfl) rfl⟩
  · rw [List.length_append]
    exact hroom
  · obtain hold | hnew := List.mem_append.1 hr
    · exact hall r hold
    · rw [List.mem_singleton.1 hnew, hlen]

theorem cellPayload_length {cell : List Byte} {k : Byte} (h : isGoodCell cell k = true) : (cellPayload cell).length = 56 := by
  have hlen : cell.length = 64 := by
    simp only [isGoodCell, isCell, Bool.and_eq_true, beq_iff_eq] at h
    exact h.1.1
  simp [cellPayload, hlen]

end Sys2Proof.Machine
end

section
/-! PROOFS. The laws kept by the relay engine and by the level transitions. -/

namespace Sys2Proof.Machine

/-! ### The relay engine (R168-R182) -/

/-- A change of CCR that adds no request to its queue. -/
theorem setCcr_lawStep (s : State) (x : Ccr) (h : x.queue.length ≤ s.ccr.queue.length) : LawStep s { s with ccr := x } :=
  LawStep.of_quiet rfl rfl rfl rfl rfl h rfl (fun hs => hs.congr rfl rfl (fun _ => rfl) (fun _ => rfl) rfl)

theorem setEngine_lawStep (x : Option Txn) (s : State) : LawStep s (s.setEngine x) := setCcr_lawStep s _ (Nat.le_refl _)

theorem goOn_lawStep (x : Txn) (w : Wires) (s : State) : LawStep s (goOn x w s) := setCcr_lawStep s _ (Nat.le_refl _)

theorem endTxn_lawStep (x : Txn) (r : RelayResult) (s : State) : LawStep s (endTxn x r s) := setCcr_lawStep s _ (Nat.le_refl _)

theorem holdTick_lawStep (x : Txn) (ph : StallPhase) (w : Wires) (s : State) : LawStep s (holdTick x ph w s) :=
  LawStep.ite (fun _ => endTxn_lawStep ..) (fun _ => goOn_lawStep ..)

theorem bitTick_lawStep (clk dat : Bool) (x : Txn) (ph : StallPhase) (s : State) : LawStep s (bitTick clk dat x ph s) :=
  LawStep.ite (fun _ => goOn_lawStep ..) fun _ => LawStep.ite (fun _ => holdTick_lawStep ..) fun _ =>
    LawStep.ite (fun _ => goOn_lawStep ..) (fun _ => goOn_lawStep ..)

theorem deferTick_lawStep (x : Txn) (s : State) : LawStep s (deferTick x s) :=
  LawStep.ite (fun _ => setEngine_lawStep _ s) fun _ => LawStep.ite (fun _ => endTxn_lawStep ..) (fun _ => LawStep.refl s)

theorem lineCheckTick_lawStep (clk dat : Bool) (x : Txn) (s : State) : LawStep s (lineCheckTick clk dat x s) :=
  LawStep.ite (fun _ => LawStep.ite (fun _ => setEngine_lawStep _ s) (fun _ => setEngine_lawStep _ s)) (fun _ => endTxn_lawStep ..)

theorem startTick_lawStep (clk : Bool) (x : Txn) (s : State) : LawStep s (startTick clk x s) :=
  LawStep.ite (fun _ => holdTick_lawStep ..) fun _ => LawStep.ite (fun _ => goOn_lawStep ..) (fun _ => goOn_lawStep ..)

theorem restartTick_lawStep (clk dat : Bool) (x : Txn) (s : State) : LawStep s (restartTick clk dat x s) :=
  LawStep.ite (fun _ => goOn_lawStep ..) fun _ => LawStep.ite (fun _ => holdTick_lawStep ..) fun _ =>
    LawStep.ite
      (fun _ => LawStep.ite (fun _ => goOn_lawStep ..) fun _ => LawStep.ite (fun _ => goOn_lawStep ..) (fun _ => goOn_lawStep ..))
      (fun _ => goOn_lawStep ..)

theorem stopTick_lawStep (clk : Bool) (x : Txn) (s : State) : LawStep s (stopTick clk x s) :=
  LawStep.ite (fun _ => goOn_lawStep ..) fun _ => LawStep.ite (fun _ => holdTick_lawStep ..) fun _ =>
    LawStep.ite (fun _ => endTxn_lawStep ..) (fun _ => goOn_lawStep ..)

theorem txnTick_lawStep (clk dat : Bool) (x : Txn) (s : State) : LawStep s (txnTick clk dat x s) := by
  unfold txnTick
  cases x.phase with
  | deferring => exact deferTick_lawStep ..
  | lineCheck => exact lineCheckTick_lawStep ..
  | start => exact startTick_lawStep ..
  | address => exact bitTick_lawStep ..
  | write => exact bitTick_lawStep ..
  | restart => exact restartTick_lawStep ..
  | read => exact bitTick_lawStep ..
  | stop => exact stopTick_lawStep ..
  | report => exact LawStep.refl s

/-! ### The operating level (R41, R192-R197) -/

/-- A change of LVC that leaves the level. -/
theorem setLvc_lawStep (s : State) (x : Lvc) (h : x.level = s.lvc.level) : LawStep s { s with lvc := x } :=
  LawStep.of_quiet rfl rfl rfl h rfl (Nat.le_refl _) rfl (fun hs => hs.congr rfl rfl (fun _ => rfl) (fun _ => rfl) rfl)

/-- Any change of LVC outside settled RUN: the Trigger Queue is empty there (R41). -/
theorem setLvc_lawStep_of_ne_run (s : State) (x : Lvc) (h : s.lvc.level ≠ .run) : LawStep s { s with lvc := x } :=
  ⟨fun ⟨hlen, hnil⟩ => ⟨hlen, fun _ => hnil h⟩, id, id, Nat.le_refl _, id, id,
    fun hs => hs.congr rfl rfl (fun _ => rfl) (fun _ => rfl) rfl⟩

theorem arrive_lawStep (x : Level) (s : State) (h : s.lvc.level ≠ .run) : LawStep s (arrive x s) :=
  (setLvc_lawStep_of_ne_run s _ h).trans (setFactor_lawStep ..)

theorem abortMarking_lawStep (s : State) : LawStep s (abortMarking s) := setCcr_lawStep s _ (List.length_map _).le

theorem enterShutting_lawStep (s : State) (h : s.lvc.level ≠ .run) : LawStep s (enterShutting s) :=
  (setLvc_lawStep_of_ne_run s _ h).trans (abortMarking_lawStep _)

theorem endEmptying_lawStep (s : State) (h : s.lvc.level ≠ .run) : LawStep s (endEmptying s) :=
  LawStep.ite (fun _ => enterShutting_lawStep s h) (fun _ => arrive_lawStep _ s h)

theorem settlePort_lawStep (p : PortIx) (s : State) : LawStep s (settlePort p s) :=
  LawStep.ite (fun _ => (LawStep.refl s).setPortState p .idle) (fun _ => LawStep.refl s)

theorem forcePort_lawStep (p : PortIx) (s : State) : LawStep s (forcePort p s) := by
  have habort : LawStep s (if (s.port p).state = .inFrame then (abortFrame p s).setPortState p .discarding else s) :=
    LawStep.ite (fun _ => (abortFrame_lawStep p s).setPortState p .discarding) (fun _ => LawStep.refl s)
  exact habort.trans (removeAll_lawStep p .levelDown _ _ (List.Sublist.refl _))

theorem powerOffPort_lawStep (p : PortIx) (s : State) : LawStep s (powerOffPort p s) :=
  LawStep.setPortState (LawStep.ite (fun _ => abortFrame_lawStep p s) (fun _ => LawStep.refl s)) p .off

theorem clearStages_lawStep (s : State) : LawStep s (clearStages s) := foldl_lawStep _ (fun _ _ => setStage_lawStep ..) _ s

/-- SETTLE_EXPIRY's work (R194). -/
theorem settle_lawStep (s : State) (x : Lvc) (h : s.lvc.level ≠ .run) :
    LawStep s (setFactor .ctlLevelReached ((List.finRange 6).foldl (fun u p => settlePort p u) { s with lvc := x })) :=
  ((setLvc_lawStep_of_ne_run s x h).trans (foldl_lawStep _ (fun u p => settlePort_lawStep p u) _ _)).trans (setFactor_lawStep ..)

theorem forcePorts_lawStep (order : List PortIx) (s : State) : LawStep s (forPorts order forcePort s) :=
  foldl_lawStep _ (fun u p => forcePort_lawStep p u) _ s

theorem forcePorts_lvc (order : List PortIx) (s : State) : (forPorts order forcePort s).lvc = s.lvc := by
  have hbeside := (forcePorts_spec s order).1
  simp only [State.beside, Prod.mk.injEq] at hbeside
  tauto

/-- The forced end of a drain (R195). -/
theorem forcedDrain_lawStep (order : List PortIx) (s : State) (h : s.lvc.level ≠ .run) :
    LawStep s (endEmptying (setFactor .ctlLevelForced (forPorts order forcePort s))) := by
  refine ((forcePorts_lawStep order s).trans (setFactor_lawStep ..)).trans (endEmptying_lawStep _ ?_)
  rw [setFactor_lvc, forcePorts_lvc]
  exact h

theorem camerasOff_lawStep (order : List PortIx) (s : State) : LawStep s (camerasOff order s) :=
  (setLvc_lawStep s { s.lvc with power := false } rfl).trans (foldl_lawStep _ (fun u p => powerOffPort_lawStep p u) _ _)

theorem camerasOff_level (order : List PortIx) (s : State) : (camerasOff order s).lvc.level = s.lvc.level := by
  have hbeside := (camerasOff_spec order s).1
  simp only [State.beside, Prod.mk.injEq] at hbeside
  obtain ⟨⟨-, -, -, -, -, hlvc⟩, -⟩ := hbeside
  rw [hlvc]

/-- The end of SHUTTING (R196). -/
theorem endShutting_lawStep (s : State) (h : s.lvc.level ≠ .run) : LawStep s (endShutting s) := by
  refine ((clearStages_lawStep s).trans (setBpt_lawStep _ _)).trans (arrive_lawStep .listen _ ?_)
  rw [clearStages_rest]
  exact h

theorem dropTriggers_queue (queue : List TrigEntry) (s : State) : (dropTriggers queue s).trq.queue = [] := by
  induction queue generalizing s with
  | nil => rfl
  | cons e rest ih => exact ih _

/-- The queued triggers closed (R41): the queue shrinks head by head. -/
theorem dropTriggers_lawStep (queue : List TrigEntry) (s : State) (h : s.trq.queue = queue) : LawStep s (dropTriggers queue s) := by
  induction queue generalizing s with
  | nil => exact setTrigQueue_lawStep [] s (Nat.zero_le _)
  | cons e rest ih =>
    have hpop := setTrigQueue_lawStep rest s (by rw [h]; exact Nat.le_succ _)
    refine ((hpop.trans (streamCheck_lawStep e _)).trans (failTrigger_lawStep ..)).trans (ih _ ?_)
    rw [failTrigger_queue, streamCheck_trq]
    rfl

/-- The start of EMPTYING out of RUN: the law of the Trigger Queue is broken by the change of level and met again by the emptied queue. -/
theorem leaveRun_lawStep (s : State) (x : Lvc) : LawStep s (dropTriggers s.trq.queue { s with lvc := x }) := by
  obtain ⟨-, hexposure, hqueue, hresponses, hevent, hlink, hcell⟩ := dropTriggers_lawStep s.trq.queue { s with lvc := x } rfl
  have hempty := dropTriggers_queue s.trq.queue { s with lvc := x }
  exact ⟨fun _ => ⟨by rw [hempty]; exact Nat.zero_le _, fun _ => hempty⟩, hexposure, hqueue, hresponses, hevent, hlink,
    fun hs => hcell (hs.congr rfl rfl (fun _ => rfl) (fun _ => rfl) rfl)⟩

theorem beginTransition_lawStep (target : Level) (s : State) : LawStep s (beginTransition target s) := by
  unfold beginTransition
  cases hlevel : s.lvc.level with
  | listen => exact setLvc_lawStep_of_ne_run s _ (by rw [hlevel]; nofun)
  | standby =>
    have hne : s.lvc.level ≠ .run := by rw [hlevel]; nofun
    exact LawStep.ite (fun _ => arrive_lawStep _ s hne) (fun _ => enterShutting_lawStep s hne)
  | run => exact (leaveRun_lawStep s _).trans (setLvc_lawStep _ _ rfl)
  | powering => exact LawStep.refl s
  | emptying => exact LawStep.refl s
  | shutting => exact LawStep.refl s

end Sys2Proof.Machine
end

section
/-! PROOFS. The laws kept by MGE's takes and by the resets, and by every step (O59). -/

namespace Sys2Proof.Machine

/-! ### EVU at a WRITE or a CLEAR_EVENTS (R186, R189) -/

theorem judgeEvent_lawStep (s : State) : LawStep s (judgeEvent s) := by
  refine LawStep.ite (fun hnews => ?_) (fun _ => LawStep.refl s)
  rw [Bool.and_eq_true, Bool.not_eq_true'] at hnews
  have hraised : Raised [] s (createEvent s) :=
    ⟨by simp [createEvent, Evu.has], rfl, rfl, rfl, .inr ⟨hnews.2, rfl, _, rfl⟩, rfl, rfl, rfl, rfl⟩
  exact LawStep.of_raised hraised rfl rfl rfl (Nat.le_refl _) rfl (fun hs => hs.congr rfl rfl (fun _ => rfl) (fun _ => rfl) rfl)

/-- Factors or enables of group `g` changed: the group leaves the reported set if it has left the active set. -/
theorem evuChanged_lawStep (g : GroupIx) (e : Evu) (s : State) (hreported : e.reported = s.evu.reported)
    (hpending : e.eventPending = s.evu.eventPending) (hother : ∀ g', g' ≠ g → e.isActive g' = s.evu.isActive g') :
    LawStep s (evuChanged s.evu g { s with evu := e }) := by
  have htrim : LawStep s { s with evu := e.trimReported g } := by
    refine ⟨id, id, id, Nat.le_refl _, fun ⟨hcount, hrep⟩ => ⟨?_, fun g' hg' => ?_⟩, id,
      fun hs => hs.congr rfl rfl (fun _ => rfl) (fun _ => rfl) rfl⟩
    · rw [← hpending] at hcount
      exact hcount
    · have hset : (e.reported.set g (e.reported[g] && e.isActive g))[g'] = true := hg'
      change e.isActive g' = true
      by_cases hgg : g' = g
      · subst hgg
        simp only [Fin.getElem_fin, Vector.getElem_set_self, Bool.and_eq_true] at hset
        exact hset.2
      · have hne : g.val ≠ g'.val := fun h => hgg (Fin.ext h.symm)
        rw [Fin.getElem_fin, Vector.getElem_set_ne _ _ hne, hreported] at hset
        rw [hother g' hgg]
        exact hrep g' hset
  exact LawStep.ite (fun _ => htrim.trans (judgeEvent_lawStep _)) (fun _ => htrim)

/-- A group's activity is a matter of its own factors, enables and notice enable. -/
theorem Evu.isActive_congr {e e' : Evu} {g : GroupIx} (hfactors : e'.factors[g] = e.factors[g]) (henables : e'.enables[g] = e.enables[g])
    (hnotice : e'.notice[g] = e.notice[g]) : e'.isActive g = e.isActive g := by
  rw [Evu.isActive, Evu.isActive, Evu.summaryBit, Evu.summaryBit, hfactors, henables, hnotice]

theorem getElem_set_of_ne {α : Type} {n : Nat} (v : Vector α n) (i j : Fin n) (x : α) (h : j ≠ i) : (v.set i x)[j] = v[j] :=
  Vector.getElem_set_ne _ _ fun hval => h (Fin.ext hval.symm)

/-- The checks of a request, one after another: each answer's state. -/
theorem LawStep.answer_ite {s : State} {a b : Answer} {c : Prop} [Decidable c] (ha : c → LawStep s a.after) (hb : ¬ c → LawStep s b.after) :
    LawStep s (if c then a else b).after := by
  split
  · exact ha ‹_›
  · exact hb ‹_›

/-- A refusal leaves the state as it is (R152). -/
theorem refuse_lawStep (x : Status) (s : State) : LawStep s (refuse x s).after := LawStep.refl s

theorem answerWriteEvent_lawStep (r : Request) (s : State) : LawStep s (answerWriteEvent r s).after := by
  unfold answerWriteEvent
  split
  · refine LawStep.answer_ite (fun _ => refuse_lawStep ..) fun _ => evuChanged_lawStep _ _ s rfl rfl fun g' hg' => ?_
    exact Evu.isActive_congr rfl (getElem_set_of_ne _ _ g' _ hg') (getElem_set_of_ne _ _ g' _ hg')
  · exact refuse_lawStep ..

theorem answerClearEvents_lawStep (r : Request) (s : State) : LawStep s (answerClearEvents r s).after := by
  unfold answerClearEvents
  split
  · exact LawStep.answer_ite (fun _ => refuse_lawStep ..) fun _ => evuChanged_lawStep _ _ s rfl rfl fun g' hg' =>
      Evu.isActive_congr (getElem_set_of_ne _ _ g' _ hg') rfl rfl
  · exact refuse_lawStep ..

/-! ### The tables (R153-R157) -/

theorem answerRead_lawStep (r : Request) (s : State) : LawStep s (answerRead r s).after := by
  unfold answerRead
  split
  · exact refuse_lawStep ..
  · exact LawStep.answer_ite (fun _ => LawStep.refl s) (fun _ => refuse_lawStep ..)

theorem answerWriteBelt_lawStep (r : Request) (s : State) : LawStep s (answerWriteBelt r s).after :=
  LawStep.answer_ite (fun _ => refuse_lawStep ..) fun _ => LawStep.answer_ite (fun _ => refuse_lawStep ..) fun _ =>
    LawStep.answer_ite (fun _ => refuse_lawStep ..) fun _ => setBpt_lawStep _ s

theorem answerWriteTrigger_lawStep (r : Request) (s : State) : LawStep s (answerWriteTrigger r s).after :=
  LawStep.answer_ite (fun _ => refuse_lawStep ..) fun _ => LawStep.answer_ite (fun _ => refuse_lawStep ..) fun _ =>
    LawStep.answer_ite (fun _ => refuse_lawStep ..) fun _ => (setTrq_lawStep s _ (by rfl)).trans (setBpt_lawStep _ _)

theorem answerWriteSensor_lawStep (r : Request) (s : State) : LawStep s (answerWriteSensor r s).after := by
  unfold answerWriteSensor
  split
  · exact LawStep.answer_ite (fun _ => refuse_lawStep ..) fun _ => setSensor_lawStep ..
  · exact refuse_lawStep ..

theorem answerWritePort_lawStep (r : Request) (s : State) : LawStep s (answerWritePort r s).after := by
  unfold answerWritePort
  split
  · rename_i hport
    have hset := setPort_lawStep ⟨reqIndex r, hport⟩ (storePort (reqFields [1, 2, 2, 1, 1, 1] r) (s.port ⟨reqIndex r, hport⟩)) s (.inl rfl)
    exact LawStep.answer_ite (fun _ => refuse_lawStep ..) fun _ => LawStep.answer_ite (fun _ => refuse_lawStep ..) fun _ =>
      LawStep.ite (fun _ => hset.trans (setStage_lawStep ..)) (fun _ => hset)
  · exact refuse_lawStep ..

theorem answerWriteRelay_lawStep (r : Request) (s : State) : LawStep s (answerWriteRelay r s).after :=
  LawStep.answer_ite (fun _ => refuse_lawStep ..) fun _ => LawStep.answer_ite (fun _ => refuse_lawStep ..) fun _ =>
    LawStep.answer_ite (fun _ => refuse_lawStep ..) fun _ => LawStep.of_quiet rfl rfl rfl rfl rfl (Nat.le_refl _) rfl
      fun hs => hs.congr rfl rfl (fun _ => rfl) (fun _ => rfl) rfl

theorem answerWritePlan_lawStep (r : Request) (s : State) : LawStep s (answerWritePlan r s).after := by
  unfold answerWritePlan
  split
  · exact LawStep.answer_ite (fun _ => refuse_lawStep ..) fun _ => setTrq_lawStep s _ rfl
  · exact refuse_lawStep ..

theorem answerWriteStream_lawStep (r : Request) (s : State) : LawStep s (answerWriteStream r s).after := by
  unfold answerWriteStream
  split
  · exact LawStep.answer_ite (fun _ => refuse_lawStep ..) fun _ => LawStep.answer_ite (fun _ => refuse_lawStep ..) fun _ =>
      setStream_lawStep _ _ s (.inl rfl)
  · exact refuse_lawStep ..

theorem answerWriteShadow_lawStep (r : Request) (s : State) : LawStep s (answerWriteShadow r s).after := by
  refine LawStep.answer_ite (fun _ => refuse_lawStep ..) fun _ => LawStep.answer_ite (fun _ => refuse_lawStep ..) fun _ => ?_
  change LawStep s (stored _ 0 s _)
  unfold stored
  split
  · exact LawStep.refl s
  · exact setScd_lawStep _ s

theorem answerWriteLevel_lawStep (r : Request) (s : State) : LawStep s (answerWriteLevel r s).after :=
  LawStep.answer_ite (fun _ => refuse_lawStep ..) fun _ => LawStep.answer_ite (fun _ => refuse_lawStep ..) fun _ =>
    setLvc_lawStep s _ rfl

theorem answerWriteLink_lawStep (r : Request) (s : State) : LawStep s (answerWriteLink r s).after :=
  LawStep.answer_ite (fun _ => refuse_lawStep ..) fun _ => LawStep.answer_ite (fun _ => refuse_lawStep ..) fun _ =>
    setFlk_lawStep s _ rfl

theorem answerWritePlain_lawStep (r : Request) (s : State) : LawStep s (answerWritePlain r s).after := by
  unfold answerWritePlain
  split
  · exact answerWritePlan_lawStep r s
  · exact answerWriteStream_lawStep r s
  · exact answerWriteShadow_lawStep r s
  · exact refuse_lawStep ..
  · exact answerWriteLevel_lawStep r s
  · exact answerWriteLink_lawStep r s
  · exact refuse_lawStep ..

/-! ### The calendar, the counters, the level, the belt and the relay (R17, R142, R144, R159, R161, R163, R193) -/

theorem answerWriteCal_lawStep (r : Request) (s : State) : LawStep s (answerWriteCal r s).after :=
  LawStep.answer_ite (fun _ => refuse_lawStep ..) fun _ => LawStep.answer_ite (fun _ => refuse_lawStep ..) fun _ =>
    foldl_lawStep _ (fun t _ => setScd_lawStep _ t) _ s

theorem answerCalSwap_lawStep (r : Request) (s : State) : LawStep s (answerCalSwap r s).after :=
  LawStep.answer_ite (fun _ => refuse_lawStep ..) fun _ => LawStep.answer_ite (fun _ => refuse_lawStep ..) fun _ => setScd_lawStep _ s

theorem clearCounters_lawStep (group stream : Nat) (s : State) : LawStep s (clearCounters group stream s) :=
  LawStep.ite (fun _ => setBpt_lawStep _ s) fun _ => LawStep.ite (fun _ => setTrq_lawStep s _ rfl) fun _ =>
    LawStep.ite (fun _ => setPort_lawStep _ _ s (.inl rfl)) fun _ => LawStep.ite (fun _ => setStream_lawStep _ _ s (.inl rfl)) fun _ =>
      LawStep.ite (fun _ => setFlk_lawStep s _ rfl) fun _ =>
        ⟨id, id, id, Nat.le_refl _, id, id, fun hs => hs.congr rfl rfl (fun _ => rfl) (fun _ => rfl) rfl⟩

theorem answerReadCounters_lawStep (r : Request) (s : State) : LawStep s (answerReadCounters r s).after :=
  LawStep.answer_ite (fun _ => refuse_lawStep ..) fun _ => LawStep.answer_ite (fun _ => refuse_lawStep ..) fun _ =>
    LawStep.ite (fun _ => clearCounters_lawStep ..) (fun _ => LawStep.refl s)

theorem answerSetLevel_lawStep (r : Request) (s : State) : LawStep s (answerSetLevel r s).after := by
  refine LawStep.answer_ite (fun _ => refuse_lawStep ..) fun _ => ?_
  split
  · exact refuse_lawStep ..
  · exact LawStep.ite (fun _ => setFactor_lawStep ..) (fun _ => beginTransition_lawStep ..)

theorem presetBelt_lawStep (value : BitVec 32) (s : State) : LawStep s (presetBelt value s) :=
  (((setBpt_lawStep _ s).trans (setFactor_lawStep .bptPreset _)).trans (setTrq_lawStep _ _ (by rfl))).trans (deliverF_lawStep ..)

theorem answerBeltPreset_lawStep (r : Request) (s : State) : LawStep s (answerBeltPreset r s).after :=
  LawStep.answer_ite (fun _ => presetBelt_lawStep ..) (fun _ => refuse_lawStep ..)

/-- A RELAY joins the relay queue below its capacity (R161, R167). -/
theorem answerRelay_lawStep (r : Request) (s : State) : LawStep s (answerRelay r s).after := by
  refine LawStep.answer_ite (fun _ => refuse_lawStep ..) fun _ => LawStep.answer_ite (fun _ => refuse_lawStep ..) fun _ =>
    LawStep.answer_ite (fun _ => refuse_lawStep ..) fun hroom => LawStep.answer_ite (fun _ => refuse_lawStep ..) fun _ => ?_
  refine ⟨id, id, fun ⟨hreq, hresp, _, hlen⟩ => ⟨hreq, hresp, ?_, hlen⟩, Nat.le_refl _, id, id,
    fun hs => hs.congr rfl rfl (fun _ => rfl) (fun _ => rfl) rfl⟩
  rw [List.length_append]
  exact Nat.lt_of_not_le hroom

theorem answerSoftReset_lawStep (r : Request) (s : State) : LawStep s (answerSoftReset r s).after :=
  ⟨id, id, id, Nat.le_refl _, id, id, fun hs => hs.congr rfl rfl (fun _ => rfl) (fun _ => rfl) rfl⟩

/-! ### STREAM_CMD (R105-R107) -/

theorem answerOpen_lawStep (i : StreamIx) (s : State) : LawStep s (answerOpen i s).after :=
  LawStep.answer_ite (fun _ => setStream_lawStep i _ s (.inl rfl)) (fun _ => refuse_lawStep ..)

theorem answerClose_lawStep (i : StreamIx) (s : State) : LawStep s (answerClose i s).after := by
  unfold answerClose
  split
  · exact (setStream_lawStep i { s.stream i with state := .draining } s (.inl rfl)).trans (closeIfDrained_lawStep ..)
  · exact LawStep.refl s
  · exact refuse_lawStep ..

theorem holderOf_frame {i : StreamIx} {s : State} {p : PortIx} {f : FrameCtx} (h : holderOf i s = some (p, f)) :
    (s.port p).frame = some f := by
  obtain ⟨q, -, hq⟩ := List.exists_of_findSome?_eq_some h
  split at hq
  · rename_i g hg
    split at hq
    · cases hq
      exact hg
    · nomatch hq
  · nomatch hq

/-- The frame in progress ended at a flush: its assembly cell, taken out of its place, is a cell of the buffer. -/
theorem flushFrame_lawStep (i : StreamIx) (s : State) :
    LawStep s (flushFrame i s).2.2 ∧ (CellLaw s → ∀ k ∈ (flushFrame i s).1, k < 262144) := by
  unfold flushFrame
  split
  · split
    · rename_i p f hholder
      refine ⟨(setPort_lawStep p { s.port p with frame := none, state := .discarding } s (.inr rfl)).trans
        (setStream_lawStep i _ _ (.inl rfl)), fun hs k hk => ?_⟩
      obtain ⟨a, ha, rfl⟩ := Option.map_eq_some_iff.1 (Option.mem_toList.1 hk)
      exact FrameInRange.of_port (holderOf_frame hholder) hs a ha
    · exact ⟨setStream_lawStep i _ s (.inl rfl), fun _ => nofun⟩
  · exact ⟨LawStep.refl s, fun _ => nofun⟩

theorem LawStep.flushCells {s t : State} (h : LawStep s t) (i : StreamIx) (held : List Nat) (hheld : CellLaw s → ∀ k ∈ held, k < 262144) :
    LawStep s (flushCells i held t) := by
  have hfree := h.setFree (pushAll t.cbm.free ((t.stream i).queue.map QCell.index ++ held)) fun hs ht k hk => by
    rw [freeCells_pushAll, List.mem_append, List.mem_append] at hk
    obtain hold | hqueue | hback := hk
    · exact ht.cells.free k hold
    · obtain ⟨c, hc, rfl⟩ := List.mem_map.1 hqueue
      exact ht.cells.queued i c hc
    · exact hheld hs k hback
  exact (hfree.trans (setStream_lawStep i _ _ (.inr rfl))).trans
    (foldl_lawStep _ (fun _ _ => countStream_lawStep _ _ _ _ fun _ => rfl) _ _)

theorem flushSteps_lawStep (i : StreamIx) (s : State) : LawStep s (flushSteps i s) := by
  obtain ⟨hframe, hheld⟩ := flushFrame_lawStep i s
  have hcells := (hframe.flushCells i _ hheld).setReserved
    ((flushCells i (flushFrame i s).1 (flushFrame i s).2.2).cbm.reserved - (flushFrame i s).2.1)
  unfold flushSteps
  dsimp only
  refine LawStep.trans ?_ (closeIfDrained_lawStep ..)
  refine LawStep.trans ?_ (setFactor_lawStep ..)
  refine LawStep.trans ?_ (setStream_lawStep i _ _ (.inl (by rfl)))
  exact LawStep.ite (fun _ => hcells.trans (handRecord_lawStep ..)) (fun _ => hcells)

theorem answerFlush_lawStep (i : StreamIx) (s : State) : LawStep s (answerFlush i s).after :=
  LawStep.answer_ite (fun _ => refuse_lawStep ..) (fun _ => flushSteps_lawStep i s)

theorem streamCmd_lawStep (cbm : StreamIx → State → Answer) (h : ∀ i s, LawStep s (cbm i s).after) (r : Request) (s : State) :
    LawStep s (streamCmd cbm r s).after := by
  unfold streamCmd
  split
  · exact LawStep.answer_ite (fun _ => refuse_lawStep ..) (fun _ => h _ s)
  · exact refuse_lawStep ..

/-! ### PORT_CMD (R59, R60) -/

theorem enableSteps_lawStep (p : PortIx) (s : State) : LawStep s (enableSteps p s) :=
  LawStep.ite (fun _ => LawStep.refl s) fun _ => (setPort_lawStep p _ s (.inl (by rfl))).trans (setStage_lawStep ..)

theorem disableSteps_lawStep (p : PortIx) (s : State) : LawStep s (disableSteps p s) := by
  refine LawStep.ite (fun _ => ?_) (fun _ => LawStep.refl s)
  have habort : LawStep s (if (s.port p).state = .inFrame then abortFrame p s else s) :=
    LawStep.ite (fun _ => abortFrame_lawStep p s) (fun _ => LawStep.refl s)
  exact ((habort.trans (setPort_lawStep p _ _ (.inl (by rfl)))).trans (setStage_lawStep ..)).trans
    (removeAll_lawStep p .portOff _ _ (List.Sublist.refl _))

theorem portCmd_lawStep (cpr : PortIx → State → State) (h : ∀ p s, LawStep s (cpr p s)) (r : Request) (s : State) :
    LawStep s (portCmd cpr r s).after := by
  unfold portCmd
  split
  · exact LawStep.answer_ite (fun _ => refuse_lawStep ..) (fun _ => h _ s)
  · exact refuse_lawStep ..

end Sys2Proof.Machine
end

section
/-! PROOFS. The laws kept by every command, and by every step (O59). -/

namespace Sys2Proof.Machine

/-- The step from `s` to `t` keeps each of the six laws of O59. -/
structure KeepsLaws (s t : State) : Prop where
  trigger : TriggerLaw s → TriggerLaw t
  exposure : ExposureLaw s → ExposureLaw t
  queue : QueueLaw s → QueueLaw t
  event : EventLaw s → EventLaw t
  link : LinkLaw s → LinkLaw t
  memory : BufferLaw s → MemoryLaw s → MemoryLaw t

theorem LawStep.keepsLaws {s t : State} (h : LawStep s t) : KeepsLaws s t :=
  ⟨h.trigger, h.exposure, h.queue, h.event, h.link, fun hbuffer hmem => (h.cell ⟨hmem, hbuffer.cellsInRange⟩).memory⟩

theorem KeepsLaws.ite {s t u : State} {c : Prop} [Decidable c] (ht : c → KeepsLaws s t) (hu : ¬ c → KeepsLaws s u) :
    KeepsLaws s (if c then t else u) := by
  split
  · exact ht ‹_›
  · exact hu ‹_›

/-! ### Responses (R149, R151) -/

/-- A response joins the output queue where a response position was free (R149). -/
theorem LawStep.placeResponse {s t : State} (h : LawStep s t) (hroom : s.responses < 15) (isReset : Bool) (payload : List Byte) :
    KeepsLaws s (t.setOutput (t.mge.output ++ [.response isReset payload])) := by
  refine ⟨h.trigger, h.exposure, fun hs => ?_, fun hs => ?_, h.link,
    fun hbuffer hmem => (h.cell ⟨hmem, hbuffer.cellsInRange⟩).memory⟩
  · obtain ⟨hreq, -, hrelay, hlen⟩ := h.queue hs
    refine ⟨hreq, ?_, hrelay, hlen⟩
    have hcount : (t.setOutput (t.mge.output ++ [.response isReset payload])).responses = t.responses + 1 := by
      simp [State.responses, List.filter_cons, OutCell.isResponse]
    have := h.responses
    omega
  · obtain ⟨hcount, hrep⟩ := h.event hs
    have hqueued : (t.setOutput (t.mge.output ++ [.response isReset payload])).eventsQueued = t.eventsQueued := by
      simp [State.eventsQueued, OutCell.isResponse]
    exact ⟨by rw [hqueued]; exact hcount, hrep⟩

theorem popped_lawStep {s : State} {r : Request} {rest : List Request} (h : s.mge.requests = r :: rest) : LawStep s (s.popped rest) := by
  refine ⟨id, id, fun ⟨hreq, hresp, hrelay, hlen⟩ => ?_, Nat.le_refl _, id, id,
    fun hs => hs.congr rfl rfl (fun _ => rfl) (fun _ => rfl) rfl⟩
  rw [h] at hreq hlen
  exact ⟨Nat.le_of_succ_le hreq, hresp, hrelay, fun x hx => hlen x (List.mem_cons_of_mem _ hx)⟩

/-- A management row keeps the laws if its owner's answer does. -/
theorem takeRow_keepsLaws (isReset : Bool) (accepts : Request → Bool) (owner : Request → State → Answer)
    (h : ∀ r s, LawStep s (owner r s).after) (s : State) : KeepsLaws s (takeRow isReset accepts owner s) := by
  unfold takeRow
  split
  · exact (LawStep.refl s).keepsLaws
  · rename_i r rest hrequests
    refine KeepsLaws.ite (fun htake => ?_) (fun _ => (LawStep.refl s).keepsLaws)
    simp only [State.mayTake, Config.responseMax, Bool.and_eq_true] at htake
    obtain ⟨-, -, hroom⟩ := htake
    exact ((popped_lawStep hrequests).trans (h r _)).placeResponse (of_decide_eq_true hroom) isReset _

theorem relayResult_keepsLaws (s : State) (x : Txn) (hroom : s.responses < 15) :
    KeepsLaws s ((s.setOutput (s.mge.output ++ [.response false ([x.req.tag, 0, 14] ++ x.resultData)])).setEngine none) :=
  (setEngine_lawStep none s).placeResponse hroom false _

/-! ### The resets -/

theorem powerOn_keepsLaws (s : State) : KeepsLaws s { State.reset with cbm := { Cbm.reset with mem := s.cbm.mem }, pending := s.pending } :=
  ⟨fun _ => triggerLaw_reset, fun _ => exposureLaw_reset, fun _ => queueLaw_reset, fun _ => eventLaw_reset, fun _ => linkLaw_reset,
    fun _ => id⟩

theorem softResetAll_keepsLaws (s : State) : KeepsLaws s (softResetAll s) := by
  rw [softResetAll_eq]
  have hstep := setFactor_lawStep .ctlSoftReset (softResetBlocks s)
  refine ⟨fun _ => hstep.trigger ⟨Nat.zero_le _, fun _ => rfl⟩, fun _ => hstep.exposure fun p => ?_,
    fun _ => hstep.queue ⟨Nat.zero_le _, Nat.zero_le _, Nat.zero_le _, nofun⟩, fun _ => hstep.event ⟨?_, fun g hg => ?_⟩,
    hstep.link, fun _ hmem => ?_⟩
  · rw [softResetBlocks_exposures]
    exact ⟨Nat.zero_le _, List.nodup_nil⟩
  · obtain ⟨-, -, hsend⟩ := softFlk_tx s (softResetBlocks s) rfl
    rw [hsend]
    rfl
  · simp [softResetBlocks, softEvu, Evu.reset] at hg
  · rw [MemoryLaw, setFactor_cbm]
    exact hmem

/-! ### The other commands -/

theorem parityError_or_lawStep (p : PortIx) (good : Bool) (s : State) : LawStep s (if good then s else parityError p s) :=
  LawStep.ite (fun _ => LawStep.refl s) (fun _ => parityError_lawStep p s)

theorem execFrameStart_keepsLaws {p : PortIx} {parity : Bool} {value : BitVec 16} {s t : State}
    (h : execFrameStart p parity value s = .next t) : KeepsLaws s t := by
  cases h
  refine LawStep.keepsLaws (LawStep.ite (fun _ => LawStep.refl s) fun _ => LawStep.ite (fun _ => parityError_lawStep p s) fun _ => ?_)
  split
  · exact ((framingError_lawStep p s).trans (abortFrame_lawStep p _)).trans (beginFrame_lawStep ..)
  · exact (framingError_lawStep p s).trans (beginFrame_lawStep ..)
  · exact beginFrame_lawStep ..
  · exact beginFrame_lawStep ..

theorem execLineStart_keepsLaws {p : PortIx} {parity : Bool} {value : BitVec 16} {s t : State}
    (h : execLineStart p parity value s = .next t) : KeepsLaws s t := by
  cases h
  refine LawStep.keepsLaws (LawStep.ite (fun _ => LawStep.refl s) fun _ => LawStep.ite (fun _ => parityError_lawStep p s) fun _ => ?_)
  split
  · exact framingError_lawStep p s
  · cases hframe : (s.port p).frame with
    | none => exact (LawStep.refl s).setNoFrame p
    | some f => exact (LawStep.refl s).setFrame p _ ((FrameInRange.of_port hframe).congr rfl)
  · exact LawStep.refl s
  · exact LawStep.refl s

theorem execData_keepsLaws {p : PortIx} {parity : Bool} {value : BitVec 16} {s t : State}
    (h : execData p parity value s = .next t) : KeepsLaws s t := by
  cases h
  refine LawStep.keepsLaws (LawStep.ite (fun _ => LawStep.refl s) fun _ => ?_)
  have hparity := parityError_or_lawStep p (parityGood parity 3 value) s
  dsimp only
  split
  · exact hparity.trans (framingError_lawStep p _)
  · split
    · rename_i f hframe
      exact hparity.trans (takeData_lawStep p _ value f _ hframe)
    · exact hparity
  · exact hparity
  · exact hparity

theorem execFrameEnd_keepsLaws {p : PortIx} {parity : Bool} {value : BitVec 16} {s t : State}
    (h : execFrameEnd p parity value s = .next t) : KeepsLaws s t := by
  cases h
  refine LawStep.keepsLaws (LawStep.ite (fun _ => LawStep.refl s) fun _ => LawStep.ite (fun _ => parityError_lawStep p s) fun _ => ?_)
  split
  · exact framingError_lawStep p s
  · split
    · rename_i f hframe
      exact closeFrame_lawStep p value f s hframe
    · exact (LawStep.refl s).setPortState p .idle
  · exact (LawStep.refl s).setPortState p .idle
  · exact LawStep.refl s

theorem execExposureExpiry_keepsLaws {p : PortIx} {s t : State} (h : execExposureExpiry p s = .next t) : KeepsLaws s t := by
  unfold execExposureExpiry at h
  split at h
  · cases h
    exact (LawStep.refl s).keepsLaws
  · cases h
    exact (((setExposures_sublist_lawStep p _ s List.erase_sublist).trans (closeExposure_lawStep ..)).trans (setFactor_lawStep ..)).keepsLaws

theorem takeSlot_if_lawStep (c : Prop) [Decidable c] (s : State) (h : c → s.flk.tx = none) : LawStep s (if c then takeSlot s else s) :=
  LawStep.ite (fun hc => takeSlot_lawStep s (h hc)) (fun _ => LawStep.refl s)

theorem execTransmissionEnd_keepsLaws {s t : State} (h : execTransmissionEnd s = .next t) : KeepsLaws s t := by
  unfold execTransmissionEnd at h
  split at h
  · cases h
    exact (LawStep.refl s).keepsLaws
  · rename_i c htx
    cases h
    exact (transmissionEnd_lawStep s c htx).keepsLaws

theorem execDelimiterFound_keepsLaws {light : Bool} {s t : State} (h : execDelimiterFound light s = .next t) : KeepsLaws s t := by
  cases h
  refine LawStep.keepsLaws (LawStep.ite (fun hsearch => setLink_lawStep s _ rfl ?_) fun _ => LawStep.refl s)
  simp only [Bool.and_eq_true, beq_iff_eq] at hsearch
  obtain ⟨-, hrx⟩ := hsearch
  rintro ⟨hsync, hheld, hdue, hmax, -, hbad⟩
  exact ⟨fun hh => absurd (hsync hh) (by rw [hrx]; nofun), hheld, hdue, hmax, Nat.zero_lt_succ 15, hbad⟩

theorem execLossOfLight_keepsLaws {s t : State} (h : execLossOfLight s = .next t) : KeepsLaws s t := by
  cases h
  refine LawStep.keepsLaws ?_
  split
  · exact leaveSync_lawStep s
  · rename_i hverify
    refine setLink_lawStep s _ rfl ?_
    rintro ⟨hsync, hheld, hdue, hmax, -, hbad⟩
    exact ⟨fun hh => absurd (hsync hh) (by rw [hverify]; nofun), hheld, hdue, hmax, Nat.zero_lt_succ 15, hbad⟩
  · exact LawStep.refl s

/-- A good cell judged, if it is one. -/
theorem goodCell_lawStep (c : Prop) [Decidable c] (act : State → State) (hact : c → ∀ s, s.flk.rx = .sync → LawStep s (act s)) (s : State) :
    LawStep s (if c then takeGoodCell act s else s) :=
  LawStep.ite (fun hc => takeGoodCell_lawStep act (hact hc) s) (fun _ => LawStep.refl s)

theorem execRelayEngineTake_keepsLaws {s t : State} (h : execRelayEngineTake s = .next t) : KeepsLaws s t := by
  unfold execRelayEngineTake at h
  split at h
  · rename_i r rest _ hqueue
    cases h
    exact (setCcr_lawStep s _ (by rw [hqueue]; exact Nat.le_succ _)).keepsLaws
  · cases h
    exact (LawStep.refl s).keepsLaws

theorem execRelayTick_keepsLaws {clk dat : Bool} {s t : State} (h : execRelayTick clk dat s = .next t) : KeepsLaws s t := by
  unfold execRelayTick at h
  split at h
  · cases h
    exact (LawStep.refl s).keepsLaws
  · cases h
    exact (txnTick_lawStep ..).keepsLaws

theorem execDeferTimeout_keepsLaws {s t : State} (h : execDeferTimeout s = .next t) : KeepsLaws s t := by
  unfold execDeferTimeout at h
  split at h
  · cases h
    exact (LawStep.refl s).keepsLaws
  · cases h
    exact (LawStep.ite (fun _ => endTxn_lawStep ..) (fun _ => LawStep.refl s)).keepsLaws

theorem execStallTimeout_keepsLaws {s t : State} (h : execStallTimeout s = .next t) : KeepsLaws s t := by
  unfold execStallTimeout at h
  split at h
  · cases h
    exact (LawStep.refl s).keepsLaws
  · split at h
    · cases h
      exact (LawStep.refl s).keepsLaws
    · cases h
      exact (LawStep.ite (fun _ => endTxn_lawStep ..) (fun _ => LawStep.refl s)).keepsLaws

theorem execRelayResult_keepsLaws {s t : State} (h : execRelayResult s = .next t) : KeepsLaws s t := by
  unfold execRelayResult at h
  split at h
  · cases h
    exact (LawStep.refl s).keepsLaws
  · rename_i x _
    cases h
    exact KeepsLaws.ite (fun ⟨_, hroom⟩ => relayResult_keepsLaws s x hroom) (fun _ => (LawStep.refl s).keepsLaws)

theorem execShuttingEnd_keepsLaws {order : List PortIx} {s t : State} (h : execShuttingEnd order s = .next t) : KeepsLaws s t := by
  cases h
  refine LawStep.keepsLaws (LawStep.ite (fun ⟨hlevel, _⟩ => ?_) fun _ => LawStep.refl s)
  exact (camerasOff_lawStep order s).trans (endShutting_lawStep _ (by rw [camerasOff_level, hlevel]; nofun))

theorem triggerTick_lawStep (lines : BitVec 4) (s : State) :
    LawStep s ((List.finRange 6).foldl (fun u p => u.setStage p (tickStage (u.port p) (u.stage p)))
      ((List.finRange 4).foldl (fun u n => sampleSensor n (lines.getLsbD n.val) u) s)) :=
  (foldl_lawStep _ (fun _ _ => sampleSensor_lawStep ..) _ s).trans (foldl_lawStep _ (fun _ _ => setStage_lawStep ..) _ _)

theorem KeepsLaws.of_next {s t u : State} (h : KeepsLaws s t) (hnext : (Host.Outcome.next t : Host.Outcome State Fault Refusal) = .next u) :
    KeepsLaws s u := by
  cases hnext
  exact h

/-- Each command keeps the laws. -/
theorem exec_keepsLaws (i : Instr) (s t : State) (h : exec i s = .next t) : KeepsLaws s t := by
  cases i with
  | powerOn => exact (powerOn_keepsLaws s).of_next h
  | beltTick step dir => exact ((beltWork_lawStep step dir s).trans (deliverF_lawStep ..)).keepsLaws.of_next h
  | stall =>
    refine (LawStep.ite (fun _ => ?_) (fun _ => LawStep.refl s)).keepsLaws.of_next h
    exact (countInterval_beltStep s).lawStep
  | triggerTick lines => exact (triggerTick_lawStep lines s).keepsLaws.of_next h
  | pulseEnd p => exact (LawStep.ite (fun _ => setStage_lawStep ..) (fun _ => LawStep.refl s)).keepsLaws.of_next h
  | rearmGapEnd p => exact (LawStep.ite (fun _ => setStage_lawStep ..) (fun _ => LawStep.refl s)).keepsLaws.of_next h
  | idleWord p parity value =>
    exact (LawStep.ite (fun _ => LawStep.refl s) (fun _ => parityError_or_lawStep ..)).keepsLaws.of_next h
  | frameStart p parity value => exact execFrameStart_keepsLaws h
  | lineStart p parity value => exact execLineStart_keepsLaws h
  | data p parity value => exact execData_keepsLaws h
  | frameEnd p parity value => exact execFrameEnd_keepsLaws h
  | undefinedKindWord p kind parity value =>
    refine LawStep.keepsLaws ?_ |>.of_next h
    exact LawStep.ite (fun _ => LawStep.refl s) fun _ =>
      LawStep.ite (fun _ => framingError_lawStep p s) (fun _ => parityError_lawStep p s)
  | exposureExpiry p => exact execExposureExpiry_keepsLaws h
  | cellSlot => exact (takeSlot_if_lawStep _ s (by simp)).keepsLaws.of_next h
  | calendarSwap => exact (takeSlot_if_lawStep _ s (by simp +contextual)).keepsLaws.of_next h
  | transmissionEnd => exact execTransmissionEnd_keepsLaws h
  | holdExpiry => exact (takeDueExpiry_lawStep s).keepsLaws.of_next h
  | delimiterFound light => exact execDelimiterFound_keepsLaws h
  | lossOfLight => exact execLossOfLight_keepsLaws h
  | badCell cell => exact (LawStep.ite (fun _ => takeBadCell_lawStep s) (fun _ => LawStep.refl s)).keepsLaws.of_next h
  | idleCell cell => exact (goodCell_lawStep _ _ (fun _ u _ => LawStep.refl u) s).keepsLaws.of_next h
  | hold cell => exact (goodCell_lawStep _ _ (fun _ u hu => takeHold_lawStep u hu) s).keepsLaws.of_next h
  | resume cell => exact (goodCell_lawStep _ _ (fun _ u _ => takeResume_lawStep u) s).keepsLaws.of_next h
  | mgmtReq cell =>
    exact (goodCell_lawStep _ _ (fun hgood u _ => takeRequest_lawStep _ (cellPayload_length hgood) u) s).keepsLaws.of_next h
  | badOp => exact (takeRow_keepsLaws _ _ _ (fun _ u => refuse_lawStep .badOp u) s).of_next h
  | read => exact (takeRow_keepsLaws _ _ _ answerRead_lawStep s).of_next h
  | write => exact (takeRow_keepsLaws _ _ _ answerWritePlain_lawStep s).of_next h
  | writeBelt => exact (takeRow_keepsLaws _ _ _ answerWriteBelt_lawStep s).of_next h
  | writeTrigger => exact (takeRow_keepsLaws _ _ _ answerWriteTrigger_lawStep s).of_next h
  | writeSensor => exact (takeRow_keepsLaws _ _ _ answerWriteSensor_lawStep s).of_next h
  | writePort => exact (takeRow_keepsLaws _ _ _ answerWritePort_lawStep s).of_next h
  | writeRelay => exact (takeRow_keepsLaws _ _ _ answerWriteRelay_lawStep s).of_next h
  | writeEvent => exact (takeRow_keepsLaws _ _ _ answerWriteEvent_lawStep s).of_next h
  | writeCal => exact (takeRow_keepsLaws _ _ _ answerWriteCal_lawStep s).of_next h
  | readCounters => exact (takeRow_keepsLaws _ _ _ answerReadCounters_lawStep s).of_next h
  | clearEvents => exact (takeRow_keepsLaws _ _ _ answerClearEvents_lawStep s).of_next h
  | openStream => exact (takeRow_keepsLaws _ _ _ (streamCmd_lawStep _ answerOpen_lawStep) s).of_next h
  | closeStream => exact (takeRow_keepsLaws _ _ _ (streamCmd_lawStep _ answerClose_lawStep) s).of_next h
  | flushStream => exact (takeRow_keepsLaws _ _ _ (streamCmd_lawStep _ answerFlush_lawStep) s).of_next h
  | enablePort => exact (takeRow_keepsLaws _ _ _ (portCmd_lawStep _ enableSteps_lawStep) s).of_next h
  | disablePort => exact (takeRow_keepsLaws _ _ _ (portCmd_lawStep _ disableSteps_lawStep) s).of_next h
  | calSwap => exact (takeRow_keepsLaws _ _ _ answerCalSwap_lawStep s).of_next h
  | setLevel => exact (takeRow_keepsLaws _ _ _ answerSetLevel_lawStep s).of_next h
  | beltPreset => exact (takeRow_keepsLaws _ _ _ answerBeltPreset_lawStep s).of_next h
  | relay => exact (takeRow_keepsLaws _ _ _ answerRelay_lawStep s).of_next h
  | status => exact (takeRow_keepsLaws _ _ _ (fun _ u => LawStep.refl u) s).of_next h
  | softReset => exact (takeRow_keepsLaws _ _ _ answerSoftReset_lawStep s).of_next h
  | softResetCarriedOut =>
    exact (KeepsLaws.ite (fun _ => softResetAll_keepsLaws s) (fun _ => (LawStep.refl s).keepsLaws)).of_next h
  | relayEngineTake => exact execRelayEngineTake_keepsLaws h
  | relayTick clk dat => exact execRelayTick_keepsLaws h
  | deferTimeout => exact execDeferTimeout_keepsLaws h
  | stallTimeout => exact execStallTimeout_keepsLaws h
  | relayResult => exact execRelayResult_keepsLaws h
  | settleExpiry =>
    refine LawStep.keepsLaws (LawStep.ite (fun ⟨hlevel, _⟩ => ?_) fun _ => LawStep.refl s) |>.of_next h
    exact settle_lawStep s _ (by rw [hlevel]; nofun)
  | drainComplete =>
    refine LawStep.keepsLaws (LawStep.ite (fun ⟨hlevel, _⟩ => ?_) fun _ => LawStep.refl s) |>.of_next h
    exact endEmptying_lawStep s (by rw [hlevel]; nofun)
  | drainExpiry order =>
    refine LawStep.keepsLaws (LawStep.ite (fun ⟨hlevel, _⟩ => ?_) fun _ => LawStep.refl s) |>.of_next h
    exact forcedDrain_lawStep order s (by rw [hlevel]; nofun)
  | shuttingEnd order => exact execShuttingEnd_keepsLaws h
  | referenceClockPeriod => exact (setBpt_lawStep _ s).keepsLaws.of_next h

/-- Settles O59: every command keeps the laws, and a step is the command at the front, taken from a queue that the laws do not see. -/
theorem queuesWithinBounds : Obligations.QueuesWithinBounds := by
  intro s t h
  suffices hkeeps : KeepsLaws s t from
    ⟨hkeeps.trigger, hkeeps.exposure, hkeeps.queue, hkeeps.event, hkeeps.link, hkeeps.memory⟩
  unfold step at h
  split at h
  · cases h
    exact (LawStep.refl s).keepsLaws
  · obtain ⟨htrigger, hexposure, hqueue, hevent, hlink, hmemory⟩ := exec_keepsLaws _ _ t h
    exact ⟨htrigger, hexposure, hqueue, hevent, hlink, hmemory⟩

end Sys2Proof.Machine
end

section
/-! PROOFS. Triggers: what a refused one does, a due head handled by itself, the two outcomes of the firing procedure (O9, O10). -/

namespace Sys2Proof.Machine

/-! ### What missing records leave of the ports and the streams -/

/-- `t` has the ports and the streams of `s`, but for missing counters, and for queues and counters of lost records. -/
structure SameSetup (s t : State) : Prop where
  port : ∀ p, ∃ n, t.port p = { s.port p with missing := n }
  stream : ∀ i, ∃ q n, t.stream i = { s.stream i with queue := q, recordsLost := n }

theorem SameSetup.of_eq {s t : State} (hport : ∀ p, t.port p = s.port p) (hstream : ∀ i, t.stream i = s.stream i) : SameSetup s t :=
  ⟨fun p => ⟨(s.port p).missing, hport p⟩, fun i => ⟨(s.stream i).queue, (s.stream i).recordsLost, hstream i⟩⟩

theorem SameSetup.refl (s : State) : SameSetup s s := SameSetup.of_eq (fun _ => rfl) (fun _ => rfl)

theorem SameSetup.trans {s t u : State} (h : SameSetup s t) (k : SameSetup t u) : SameSetup s u := by
  refine ⟨fun p => ?_, fun i => ?_⟩
  · obtain ⟨m, hm⟩ := h.port p
    obtain ⟨n, hn⟩ := k.port p
    exact ⟨n, by rw [hn, hm]⟩
  · obtain ⟨q, m, hm⟩ := h.stream i
    obtain ⟨r, n, hn⟩ := k.stream i
    exact ⟨r, n, by rw [hn, hm]⟩

theorem SameSetup.boundPort {s t : State} (h : SameSetup s t) (i : StreamIx) : (t.stream i).boundPort = (s.stream i).boundPort := by
  obtain ⟨q, n, ht⟩ := h.stream i
  rw [ht]

theorem SameSetup.frameCounter {s t : State} (h : SameSetup s t) (i : StreamIx) :
    (t.stream i).frameCounter = (s.stream i).frameCounter := by
  obtain ⟨q, n, ht⟩ := h.stream i
  rw [ht]

theorem SameSetup.defaultStream {s t : State} (h : SameSetup s t) (p : PortIx) : (t.port p).defaultStream = (s.port p).defaultStream := by
  obtain ⟨n, ht⟩ := h.port p
  rw [ht]

theorem SameSetup.enabled {s t : State} (h : SameSetup s t) (p : PortIx) : (t.port p).enabled = (s.port p).enabled := by
  obtain ⟨n, ht⟩ := h.port p
  rw [ht]

theorem SameSetup.checkedStream {s t : State} (h : SameSetup s t) (e : TrigEntry) : checkedStream e t = checkedStream e s := by
  rw [Machine.checkedStream, Machine.checkedStream, h.boundPort, h.defaultStream]

/-- A record without the closing mark changes of its stream the queue or the counter of lost records. -/
theorem handRecord_sameSetup (i : StreamIx) (kind : CellKind) (payload : List Byte) (f : BitVec 8) (s : State) :
    SameSetup s (handRecord i kind payload f false s) := by
  refine ⟨fun p => ⟨(s.port p).missing, by rw [handRecord_port]⟩, fun k => ?_⟩
  by_cases hk : k = i
  · subst hk
    by_cases hlost : (s.stream k).state = .closed ∨ s.freeCount ≤ s.cbm.reserved
    · rw [handRecord_lost kind payload f false hlost, loseRecord_stream_open]
      exact ⟨_, _, rfl⟩
    · push Not at hlost
      obtain ⟨hopen, hroom⟩ := hlost
      cases hfree : freeCells s.cbm.free with
      | nil => simp [State.freeCount, freeCountOf_eq, hfree] at hroom
      | cons c rest =>
        obtain ⟨runs, -, hqueued⟩ := handRecord_queued kind payload f false hopen hroom hfree
        rw [hqueued, enqueue_stream_self]
        exact ⟨_, _, rfl⟩
  · exact ⟨(s.stream k).queue, (s.stream k).recordsLost, handRecord_stream_ne _ _ _ _ _ _ _ hk⟩

theorem issueMissing_sameSetup (i : StreamIx) (r : MissingRecord) (s : State) : SameSetup s (issueMissing i r s) := by
  refine SameSetup.trans ⟨fun p => ?_, fun k => ⟨(s.stream k).queue, (s.stream k).recordsLost, ?_⟩⟩ (handRecord_sameSetup ..)
  · by_cases hp : p = r.port
    · subst hp
      exact ⟨_, countPort_port_self ..⟩
    · exact ⟨(s.port p).missing, by rw [countPort_port_ne _ _ _ _ _ hp]⟩
  · rw [countPort_stream]

theorem setFactor_sameSetup (f : Factor) (s : State) : SameSetup s (setFactor f s) :=
  SameSetup.of_eq (fun _ => setFactor_port ..) (fun _ => setFactor_stream ..)

theorem streamCheck_sameSetup (e : TrigEntry) (s : State) : SameSetup s (streamCheck e s) :=
  SameSetup.of_eq (fun _ => streamCheck_port ..) (fun _ => streamCheck_stream ..)

/-! ### Factors that stay set -/

theorem Raised.has_of_has {fs : List Factor} {s t : State} (h : Raised fs s t) {f : Factor} (hf : s.evu.has f = true) :
    t.evu.has f = true := by
  rw [h.factors, hf, Bool.true_or]

theorem Raised.has_of_mem {fs : List Factor} {s t : State} (h : Raised fs s t) {f : Factor} (hf : f ∈ fs) : t.evu.has f = true := by
  rw [h.factors, decide_eq_true hf, Bool.or_true]

theorem streamCheck_raised (e : TrigEntry) (s : State) :
    Raised (if (s.stream e.stream).boundPort = e.port then [] else [.trqPlanMismatch]) s (streamCheck e s) := by
  unfold streamCheck
  split
  · exact Raised.refl s
  · exact setFactor_raised .trqPlanMismatch s

/-! ### A refused trigger (R34, R40) -/

/-- A trigger that ends without firing: the stream check, the record and the counter, and the factor of the cause. -/
def refuseTrigger (e : TrigEntry) (cause : Cause) (f : Factor) (s : State) : State :=
  setFactor f (failTrigger e (checkedStream e s) cause (streamCheck e s))

/-- The missing record of a trigger that never fired (R83). -/
def triggerRecord (e : TrigEntry) (cause : Cause) (l : LineTime) : MissingRecord :=
  { part := e.part, plan := e.plan, tag := e.tag, port := e.port, count := none, dueF := e.due, decisionL := l, cause }

theorem triggerRecord_payload (e : TrigEntry) (cause : Cause) (l : LineTime) :
    (triggerRecord e cause l).payload = triggerMissing e cause.code l := rfl

theorem failTrigger_eq (e : TrigEntry) (i : StreamIx) (cause : Cause) (s : State) :
    failTrigger e i cause s = countTrq (issueMissing i (triggerRecord e cause s.lineTime) s).trq.triggersFailed
      (fun x n => { x with triggersFailed := n }) (issueMissing i (triggerRecord e cause s.lineTime) s) := rfl

theorem failTrigger_trq (e : TrigEntry) (i : StreamIx) (cause : Cause) (s : State) :
    (failTrigger e i cause s).trq = { s.trq with triggersFailed := s.trq.triggersFailed + 1 } := by
  simp [failTrigger]

/-- A refused trigger only raises factors. -/
theorem failTrigger_raised (e : TrigEntry) (i : StreamIx) (cause : Cause) (s : State) : ∃ fs, Raised fs s (failTrigger e i cause s) := by
  rw [failTrigger_eq]
  exact ⟨_, (issueMissing_raised ..).trans (countTrq_raised ..)⟩

theorem failTrigger_port (e : TrigEntry) (i : StreamIx) (cause : Cause) (s : State) (q : PortIx) :
    (failTrigger e i cause s).port q =
      if q = e.port then { s.port q with missing := (s.port q).missing + 1 } else s.port q := by
  rw [failTrigger, countTrq_port]
  split
  · rename_i h
    subst h
    exact issueMissing_port_self i _ s
  · rename_i h
    exact issueMissing_port_ne i _ s q h

theorem failTrigger_cbm (e : TrigEntry) (i : StreamIx) (cause : Cause) (s : State) :
    (failTrigger e i cause s).cbm = (issueMissing i (triggerRecord e cause s.lineTime) s).cbm := countTrq_cbm ..

theorem failTrigger_sameSetup (e : TrigEntry) (i : StreamIx) (cause : Cause) (s : State) : SameSetup s (failTrigger e i cause s) :=
  (issueMissing_sameSetup i _ s).trans (SameSetup.of_eq (fun _ => countTrq_port ..) (fun _ => countTrq_stream ..))

/-- The record of a trigger that never fired, handed over (R83, R99, R120). -/
theorem failTrigger_went (e : TrigEntry) (i : StreamIx) (cause : Cause) (s : State) :
    RecordWent i .missing (triggerMissing e cause.code s.lineTime) (s.stream i).frameCounter false s (failTrigger e i cause s) := by
  have hwent := issueMissing_went i (triggerRecord e cause s.lineTime) s
  rw [triggerRecord_payload] at hwent
  rw [failTrigger_eq]
  exact hwent.congr rfl (countTrq_cbm ..) (countTrq_raised ..).has_of_has

theorem refuseTrigger_trq (e : TrigEntry) (cause : Cause) (f : Factor) (s : State) :
    (refuseTrigger e cause f s).trq = { s.trq with triggersFailed := s.trq.triggersFailed + 1 } := by
  rw [refuseTrigger, setFactor_trq, failTrigger_trq, streamCheck_trq]

theorem refuseTrigger_xcr (e : TrigEntry) (cause : Cause) (f : Factor) (s : State) : (refuseTrigger e cause f s).xcr = s.xcr := by
  rw [refuseTrigger, setFactor_xcr, failTrigger_xcr, streamCheck_xcr]

theorem refuseTrigger_bpt (e : TrigEntry) (cause : Cause) (f : Factor) (s : State) : (refuseTrigger e cause f s).bpt = s.bpt := by
  rw [refuseTrigger, setFactor_bpt, failTrigger_bpt, streamCheck_bpt]

theorem refuseTrigger_port (e : TrigEntry) (cause : Cause) (f : Factor) (s : State) (q : PortIx) :
    (refuseTrigger e cause f s).port q =
      if q = e.port then { s.port q with missing := (s.port q).missing + 1 } else s.port q := by
  rw [refuseTrigger, setFactor_port, failTrigger_port, streamCheck_port]

theorem refuseTrigger_sameSetup (e : TrigEntry) (cause : Cause) (f : Factor) (s : State) : SameSetup s (refuseTrigger e cause f s) :=
  ((streamCheck_sameSetup e s).trans (failTrigger_sameSetup ..)).trans (setFactor_sameSetup ..)

theorem refuseTrigger_has_factor (e : TrigEntry) (cause : Cause) (f : Factor) (s : State) :
    (refuseTrigger e cause f s).evu.has f = true := (setFactor_raised f _).has_of_mem (List.mem_singleton.2 rfl)

theorem refuseTrigger_has_mismatch (e : TrigEntry) (cause : Cause) (f : Factor) (s : State)
    (h : (s.stream e.stream).boundPort ≠ e.port) : (refuseTrigger e cause f s).evu.has .trqPlanMismatch = true := by
  have hcheck := streamCheck_raised e s
  rw [if_neg h] at hcheck
  obtain ⟨fs, hfail⟩ := failTrigger_raised e (checkedStream e s) cause (streamCheck e s)
  exact (setFactor_raised f _).has_of_has (hfail.has_of_has (hcheck.has_of_mem (List.mem_singleton.2 rfl)))

theorem refuseTrigger_went (e : TrigEntry) (cause : Cause) (f : Factor) (s : State) :
    RecordWent (checkedStream e s) .missing (triggerMissing e cause.code s.lineTime) (s.stream (checkedStream e s)).frameCounter false s
      (refuseTrigger e cause f s) := by
  have hwent := failTrigger_went e (checkedStream e s) cause (streamCheck e s)
  rw [streamCheck_lineTime, streamCheck_stream] at hwent
  exact hwent.congr (streamCheck_cbm e s).symm (setFactor_cbm ..) (setFactor_raised f _).has_of_has

/-! ### The firing procedure's four outcomes (R35) -/

theorem firingProcedure_portOff {e : TrigEntry} {s : State} (h : (s.port e.port).enabled = false) :
    firingProcedure e s = refuseTrigger e .portOff .trqPortOff s := by
  unfold firingProcedure
  dsimp only
  rw [streamCheck_port, if_pos h]
  rfl

theorem Stage.armed_iff (g : Stage) : g.armed = true ↔ g.pulse = 0 ∧ g.gap = 0 := by
  simp [Stage.armed]

theorem firingProcedure_overtrigger {e : TrigEntry} {s : State} (h : (s.port e.port).enabled = true)
    (hbusy : ¬ ((s.stage e.port).pulse = 0 ∧ (s.stage e.port).gap = 0)) :
    firingProcedure e s = refuseTrigger e .overtrigger .trqOvertrigger s := by
  have harmed : (s.stage e.port).armed = false := Bool.eq_false_iff.2 (mt (Stage.armed_iff _).1 hbusy)
  unfold firingProcedure
  dsimp only
  rw [streamCheck_port, if_neg (by simp [h]), streamCheck_stage, if_pos harmed]
  rfl

theorem firingProcedure_listFull {e : TrigEntry} {s : State} (h : (s.port e.port).enabled = true)
    (harmed : (s.stage e.port).pulse = 0 ∧ (s.stage e.port).gap = 0) (hfull : 8 ≤ (s.exposures e.port).length) :
    firingProcedure e s = refuseTrigger e .listFull .trqListFull s := by
  have harmed' := (Stage.armed_iff _).2 harmed
  unfold firingProcedure
  dsimp only
  rw [streamCheck_port, if_neg (by simp [h]), streamCheck_stage, if_neg (by simp [harmed']), streamCheck_exposures, Config.exposureMax, if_pos hfull]
  rfl

theorem firingProcedure_fires {e : TrigEntry} {s : State} (h : (s.port e.port).enabled = true)
    (harmed : (s.stage e.port).pulse = 0 ∧ (s.stage e.port).gap = 0) (hroom : (s.exposures e.port).length < 8) :
    firingProcedure e s = fireTrigger e (checkedStream e s) (streamCheck e s) := by
  have harmed' := (Stage.armed_iff _).2 harmed
  unfold firingProcedure
  dsimp only
  rw [streamCheck_port, if_neg (by simp [h]), streamCheck_stage, if_neg (by simp [harmed']), streamCheck_exposures,
    Config.exposureMax, if_neg (Nat.not_le.2 hroom)]

/-! ### One due head (R33) -/

theorem dropReused_bpt (p : PortIx) (c : BitVec 8) (s : State) : (dropReused p c s).bpt = s.bpt := by
  have hkeep (l : List Exposure) (t : State) : (l.foldl (fun u x => setFactor (.camNoFrame p)
      (closeExposure p .noFrame u.lineTime x u)) t).bpt = t.bpt := by
    induction l generalizing t with
    | nil => rfl
    | cons x rest ih => rw [List.foldl_cons, ih, setFactor_bpt, closeExposure_bpt]
  rw [dropReused, hkeep, State.setExposures_bpt]

theorem fireTrigger_bpt (e : TrigEntry) (i : StreamIx) (s : State) : (fireTrigger e i s).bpt = s.bpt := by
  rw [fireTrigger, appendExposure, State.setExposures_bpt, dropReused_bpt, countTrq_bpt, State.setStage_bpt]

theorem firingProcedure_bpt (e : TrigEntry) (s : State) : (firingProcedure e s).bpt = s.bpt := by
  by_cases hen : (s.port e.port).enabled = true
  · by_cases harmed : (s.stage e.port).pulse = 0 ∧ (s.stage e.port).gap = 0
    · by_cases hroom : (s.exposures e.port).length < 8
      · rw [firingProcedure_fires hen harmed hroom, fireTrigger_bpt, streamCheck_bpt]
      · rw [firingProcedure_listFull hen harmed (Nat.le_of_not_lt hroom), refuseTrigger_bpt]
    · rw [firingProcedure_overtrigger hen harmed, refuseTrigger_bpt]
  · rw [firingProcedure_portOff (Bool.eq_false_iff.2 hen), refuseTrigger_bpt]

theorem finePos_of_bpt {s t : State} (h : t.bpt = s.bpt) : t.finePos = s.finePos := by
  rw [State.finePos, State.finePos, h]

/-- Entries that F has not reached stay (R33). -/
theorem fireDue_of_not_due {queue : List TrigEntry} {s : State} (h : ∀ x, queue.head? = some x → reached s.finePos x.due = false) :
    fireDue queue s = s.setTrigQueue queue := by
  cases queue with
  | nil => rfl
  | cons x rest =>
    rw [fireDue, h x rfl]
    rfl

theorem changeOfF_of_not_due {s : State} (h : ∀ x, s.trq.queue.head? = some x → reached s.finePos x.due = false) : changeOfF s = s := by
  rw [changeOfF, fireDue_of_not_due h, State.setTrigQueue_self]

/-- A due head leaves the queue through the firing procedure, and the rest is examined in the state that leaves (R33). -/
theorem changeOfF_of_due {s : State} {e : TrigEntry} {rest : List TrigEntry} (hqueue : s.trq.queue = e :: rest)
    (hdue : reached s.finePos e.due = true) : changeOfF s = changeOfF (firingProcedure e (s.setTrigQueue rest)) := by
  rw [changeOfF, hqueue, fireDue, if_pos hdue, changeOfF, firingProcedure_queue, State.setTrigQueue_trq_queue]

/-- A due head whose successor is not due is the only one handled. -/
theorem changeOfF_of_one_due {s : State} {e : TrigEntry} {rest : List TrigEntry} (hqueue : s.trq.queue = e :: rest)
    (hdue : reached s.finePos e.due = true) (hrest : ∀ x, rest.head? = some x → reached s.finePos x.due = false) :
    changeOfF s = firingProcedure e (s.setTrigQueue rest) := by
  rw [changeOfF_of_due hqueue hdue]
  refine changeOfF_of_not_due ?_
  rw [firingProcedure_queue, State.setTrigQueue_trq_queue, finePos_of_bpt (firingProcedure_bpt ..), State.setTrigQueue_finePos]
  exact hrest

/-! ### A due trigger that cannot fire (O10) -/

/-- Settles O10: each of the three causes is the same refusal with its own cause and factor, at the state whose queue has lost the head. -/
theorem dueTriggerRefused : Obligations.DueTriggerRefused := by
  intro s e rest code factor hqueue hdue hrest hcause
  have hrefused : ∃ cause : Cause, cause.code = code ∧ changeOfF s = refuseTrigger e cause factor (s.setTrigQueue rest) := by
    rw [changeOfF_of_one_due hqueue hdue hrest]
    obtain ⟨hoff, rfl, rfl⟩ | ⟨hen, hbusy, rfl, rfl⟩ | ⟨hen, hpulse, hgap, hfull, rfl, rfl⟩ := hcause
    · exact ⟨.portOff, rfl, firingProcedure_portOff hoff⟩
    · exact ⟨.overtrigger, rfl, firingProcedure_overtrigger hen hbusy⟩
    · exact ⟨.listFull, rfl, firingProcedure_listFull hen ⟨hpulse, hgap⟩ hfull⟩
  obtain ⟨cause, rfl, heq⟩ := hrefused
  intro i t
  have ht : t = refuseTrigger e cause factor (s.setTrigQueue rest) := heq
  rw [ht]
  refine ⟨refuseTrigger_trq .., refuseTrigger_xcr .., refuseTrigger_bpt .., ?_, refuseTrigger_has_factor ..,
    refuseTrigger_has_mismatch _ _ _ (s.setTrigQueue rest), refuseTrigger_went e cause factor (s.setTrigQueue rest)⟩
  rw [refuseTrigger_port, if_pos rfl, State.setTrigQueue_port]

end Sys2Proof.Machine
end

section
/-! PROOFS. Triggers that fire (O9). -/

namespace Sys2Proof.Machine

/-! ### The exposures that a reused trigger count closes (R65) -/

/-- A trigger count that no exposure of the list bears closes none. -/
theorem dropReused_of_new {p : PortIx} {c : BitVec 8} {s : State} (h : ∀ x ∈ s.exposures p, x.count ≠ c) : dropReused p c s = s := by
  have hold : (s.exposures p).filter (fun x => x.count == c) = [] := by
    rw [List.filter_eq_nil_iff]
    intro x hx
    simpa using h x hx
  have hkept : (s.exposures p).filter (fun x => x.count != c) = s.exposures p := by
    rw [List.filter_eq_self]
    intro x hx
    simpa using h x hx
  rw [dropReused, hold, hkept, State.setExposures_self]
  rfl

/-- A trigger count that one exposure of the list bears closes this one. -/
theorem dropReused_of_one {p : PortIx} {c : BitVec 8} {s : State} {older younger : List Exposure} {x : Exposure}
    (hlist : s.exposures p = older ++ x :: younger) (hx : x.count = c) (hother : ∀ y ∈ older ++ younger, y.count ≠ c) :
    dropReused p c s =
      setFactor (.camNoFrame p) (closeExposure p .noFrame s.lineTime x (s.setExposures p (older ++ younger))) := by
  have hne (l : List Exposure) (h : ∀ y ∈ l, y.count ≠ c) : l.filter (fun y => y.count == c) = [] ∧ l.filter (fun y => y.count != c) = l := by
    rw [List.filter_eq_nil_iff, List.filter_eq_self]
    exact ⟨fun y hy => by simpa using h y hy, fun y hy => by simpa using h y hy⟩
  obtain ⟨holderOld, holderKept⟩ := hne older fun y hy => hother y (List.mem_append_left _ hy)
  obtain ⟨hyoungOld, hyoungKept⟩ := hne younger fun y hy => hother y (List.mem_append_right _ hy)
  have hold : (s.exposures p).filter (fun y => y.count == c) = [x] := by
    rw [hlist, List.filter_append, holderOld, List.filter_cons_of_pos (by simp [hx]), hyoungOld]
    rfl
  have hkept : (s.exposures p).filter (fun y => y.count != c) = older ++ younger := by
    rw [hlist, List.filter_append, holderKept, List.filter_cons_of_neg (by simp [hx]), hyoungKept]
  rw [dropReused, hold, hkept]
  rfl

theorem closeExposure_sameSetup (p : PortIx) (cause : Cause) (l : LineTime) (x : Exposure) (s : State) :
    SameSetup s (closeExposure p cause l x s) := issueMissing_sameSetup ..

theorem dropReused_sameSetup (p : PortIx) (c : BitVec 8) (s : State) : SameSetup s (dropReused p c s) := by
  have hfold (l : List Exposure) (t : State) : SameSetup t (l.foldl (fun u x => setFactor (.camNoFrame p)
      (closeExposure p .noFrame u.lineTime x u)) t) := by
    induction l generalizing t with
    | nil => exact SameSetup.refl t
    | cons x rest ih => exact ((closeExposure_sameSetup ..).trans (setFactor_sameSetup ..)).trans (ih _)
  exact (SameSetup.of_eq (s := s) (t := s.setExposures p _) (fun _ => rfl) (fun _ => rfl)).trans (hfold _ _)

/-! ### A fire (R36) -/

theorem TrigPolarity.activeLevel_eq (x : TrigPolarity) : x.activeLevel = (x == .activeHigh) := by
  cases x <;> rfl

/-- The stage of a port that fires for `e`. -/
def firedStage (e : TrigEntry) (s : State) : Stage :=
  { s.stage e.port with
    out := (s.port e.port).polarity.activeLevel, pulse := e.width, count := (s.stage e.port).count + 1 }

/-- A fire before its exposure: the stage and the triggers fired counter. -/
def startFire (e : TrigEntry) (s : State) : State :=
  countTrq s.trq.triggersFired (fun x n => { x with triggersFired := n }) (s.setStage e.port (firedStage e s))

/-- The exposure of a fire (R64). -/
def firedExposure (e : TrigEntry) (i : StreamIx) (s : State) : Exposure :=
  { part := e.part, plan := e.plan, tag := e.tag, stream := i, fireF := s.finePos, fireL := s.lineTime
    count := (s.stage e.port).count + 1
    deadline := s.lineTime + BitVec.ofNat 48 ((s.port e.port).exposureTimeout.toNat * 1000) }

theorem startFire_trq (e : TrigEntry) (s : State) :
    (startFire e s).trq =
      { s.trq with triggersFired := s.trq.triggersFired + 1, stages := s.trq.stages.set e.port (firedStage e s) } := countTrq_trq ..

theorem formExposure_startFire (e : TrigEntry) (i : StreamIx) (s : State) : formExposure e i (startFire e s) = firedExposure e i s := by
  have hstage : (startFire e s).stage e.port = firedStage e s := by
    rw [State.stage, startFire_trq]
    exact Vector.getElem_set_self _
  rw [formExposure, hstage, startFire, countTrq_finePos, countTrq_lineTime, countTrq_port]
  rfl

theorem fireTrigger_eq (e : TrigEntry) (i : StreamIx) (s : State) :
    fireTrigger e i s = appendExposure e.port (firedExposure e i s) (startFire e s) := by
  rw [← formExposure_startFire]
  rfl

theorem fireTrigger_trq (e : TrigEntry) (i : StreamIx) (s : State) :
    (fireTrigger e i s).trq =
      { s.trq with triggersFired := s.trq.triggersFired + 1, stages := s.trq.stages.set e.port (firedStage e s) } := by
  rw [fireTrigger_eq, appendExposure_trq, startFire_trq]

theorem startFire_sameSetup (e : TrigEntry) (s : State) : SameSetup s (startFire e s) :=
  SameSetup.of_eq (fun _ => countTrq_port ..) (fun _ => countTrq_stream ..)

theorem fireTrigger_sameSetup (e : TrigEntry) (i : StreamIx) (s : State) : SameSetup s (fireTrigger e i s) := by
  rw [fireTrigger_eq]
  exact ((startFire_sameSetup e s).trans (dropReused_sameSetup ..)).trans (SameSetup.of_eq (fun _ => rfl) (fun _ => rfl))

theorem startFire_exposures (e : TrigEntry) (s : State) (q : PortIx) : (startFire e s).exposures q = s.exposures q := countTrq_exposures ..

theorem startFire_raised (e : TrigEntry) (s : State) : Raised (wrapsAt s.trq.triggersFired .trqWrap) s (startFire e s) :=
  (countTrq_raised s.trq.triggersFired (fun x n => { x with triggersFired := n }) (s.setStage e.port (firedStage e s))).congr rfl rfl rfl rfl

/-! ### The fire at a change of F -/

/-- The state from which the head `e` fires: the head has left the queue, and the stream check is done. -/
def headChecked (e : TrigEntry) (rest : List TrigEntry) (s : State) : State := streamCheck e (s.setTrigQueue rest)

/-- A due head on an armed, enabled port with room in its list fires (R35, R36). -/
theorem changeOfF_fires {s : State} {e : TrigEntry} {rest : List TrigEntry} (hqueue : s.trq.queue = e :: rest)
    (hdue : reached s.finePos e.due = true) (hrest : ∀ x, rest.head? = some x → reached s.finePos x.due = false)
    (hen : (s.port e.port).enabled = true) (hpulse : (s.stage e.port).pulse = 0) (hgap : (s.stage e.port).gap = 0)
    (hroom : (s.exposures e.port).length < 8) :
    changeOfF s = appendExposure e.port (firedExposure e (checkedStream e s) s) (startFire e (headChecked e rest s)) := by
  rw [changeOfF_of_one_due hqueue hdue hrest, firingProcedure_fires (s := s.setTrigQueue rest) hen ⟨hpulse, hgap⟩ hroom, fireTrigger_eq]
  simp only [firedExposure, streamCheck_finePos, streamCheck_lineTime, streamCheck_stage, streamCheck_port, headChecked]
  rfl

theorem headChecked_exposures (e : TrigEntry) (rest : List TrigEntry) (s : State) (q : PortIx) :
    (startFire e (headChecked e rest s)).exposures q = s.exposures q := by
  rw [startFire_exposures, headChecked, streamCheck_exposures, State.setTrigQueue_exposures]

theorem headChecked_sameSetup (e : TrigEntry) (rest : List TrigEntry) (s : State) : SameSetup s (headChecked e rest s) :=
  SameSetup.of_eq (fun _ => streamCheck_port ..) (fun _ => streamCheck_stream ..)

theorem firedStage_headChecked (e : TrigEntry) (rest : List TrigEntry) (s : State) :
    firedStage e (headChecked e rest s) = firedStage e s := by
  rw [firedStage, headChecked, streamCheck_stage, streamCheck_port]
  rfl

theorem startFire_headChecked_trq (e : TrigEntry) (rest : List TrigEntry) (s : State) :
    (startFire e (headChecked e rest s)).trq =
      { s.trq with
        queue := rest, triggersFired := s.trq.triggersFired + 1, stages := s.trq.stages.set e.port (firedStage e s) } := by
  rw [startFire_trq, firedStage_headChecked, headChecked, streamCheck_trq]
  rfl

theorem startFire_headChecked_raised (e : TrigEntry) (rest : List TrigEntry) (s : State) :
    Raised ((if (s.stream e.stream).boundPort = e.port then [] else [.trqPlanMismatch]) ++ wrapsAt s.trq.triggersFired .trqWrap) s
      (startFire e (headChecked e rest s)) := by
  have hcheck := streamCheck_raised e (s.setTrigQueue rest)
  have hstart := startFire_raised e (headChecked e rest s)
  rw [headChecked, streamCheck_trq] at hstart
  exact (hcheck.trans hstart).congr rfl rfl rfl rfl

/-- The start of a fire touches TRQ alone. -/
theorem startFire_headChecked_rest (e : TrigEntry) (rest : List TrigEntry) (s : State) :
    (startFire e (headChecked e rest s)).withReportsOf s = { s with trq := (startFire e (headChecked e rest s)).trq } := by
  refine State.ext_blocks ?_ rfl ?_ ?_ ?_ ?_ ?_ rfl ?_ rfl ?_ ?_ <;> simp [startFire, headChecked]

theorem firedStage_armed {e : TrigEntry} {s : State} (hgap : (s.stage e.port).gap = 0) :
    firedStage e s =
      { pulse := e.width, gap := 0, count := (s.stage e.port).count + 1, out := (s.port e.port).polarity == .activeHigh } := by
  rw [firedStage, hgap, TrigPolarity.activeLevel_eq]

/-! ### The firing procedure does not look at the Trigger Queue -/

theorem setFactor_ite (f : Factor) (s : State) :
    setFactor f s =
      if ((s.evu.mark f).isActive f.group && !s.evu.isActive f.group) && ((s.evu.mark f).hasNews && !(s.evu.mark f).eventPending) then
        createEvent { s with evu := s.evu.mark f }
      else { s with evu := s.evu.mark f } := by
  unfold setFactor judgeEvent
  dsimp only
  split <;> simp [*]

theorem setFactor_setTrigQueue (f : Factor) (q : List TrigEntry) (s : State) :
    setFactor f (s.setTrigQueue q) = (setFactor f s).setTrigQueue q := by
  rw [setFactor_ite, setFactor_ite, apply_ite (fun t : State => t.setTrigQueue q)]
  rfl

theorem wrapFactor_setTrigQueue (old : BitVec 32) (f : Factor) (q : List TrigEntry) (s : State) :
    wrapFactor old f (s.setTrigQueue q) = (wrapFactor old f s).setTrigQueue q := by
  unfold wrapFactor
  split
  · exact setFactor_setTrigQueue f q s
  · rfl

theorem handRecord_setTrigQueue (i : StreamIx) (kind : CellKind) (payload : List Byte) (f : BitVec 8) (q : List TrigEntry) (s : State) :
    handRecord i kind payload f false (s.setTrigQueue q) = (handRecord i kind payload f false s).setTrigQueue q := by
  have hlose : loseRecord i f false (s.setTrigQueue q) = (loseRecord i f false s).setTrigQueue q :=
    (congrArg (setFactor .cbmRecordLost) (wrapFactor_setTrigQueue _ _ q (s.setStream i _))).trans (setFactor_setTrigQueue ..)
  by_cases hlost : (s.stream i).state = .closed ∨ s.freeCount ≤ s.cbm.reserved
  · rw [handRecord_lost kind payload f false hlost, handRecord_lost (s := s.setTrigQueue q) kind payload f false hlost, hlose]
  · push Not at hlost
    obtain ⟨hopen, hroom⟩ := hlost
    unfold handRecord
    rw [if_pos ⟨hopen, hroom⟩, if_pos ⟨hopen, hroom⟩, hlose, State.setTrigQueue_cbm]
    cases takeHead s.cbm.free with
    | none => rfl
    | some x => rfl

theorem issueMissing_setTrigQueue (i : StreamIx) (r : MissingRecord) (q : List TrigEntry) (s : State) :
    issueMissing i r (s.setTrigQueue q) = (issueMissing i r s).setTrigQueue q := by
  have hcount : countPort r.port Port.missing (fun x n => { x with missing := n }) (s.setTrigQueue q) =
      (countPort r.port Port.missing (fun x n => { x with missing := n }) s).setTrigQueue q :=
    wrapFactor_setTrigQueue _ _ q (s.setPort r.port _)
  unfold issueMissing
  rw [hcount]
  exact handRecord_setTrigQueue ..

theorem failTrigger_setTrigQueue (e : TrigEntry) (i : StreamIx) (cause : Cause) (q : List TrigEntry) (s : State) :
    failTrigger e i cause (s.setTrigQueue q) = (failTrigger e i cause s).setTrigQueue q := by
  rw [failTrigger_eq, failTrigger_eq, State.setTrigQueue_lineTime, issueMissing_setTrigQueue]
  generalize issueMissing i (triggerRecord e cause s.lineTime) s = t
  exact wrapFactor_setTrigQueue _ _ q { t with trq := { t.trq with triggersFailed := t.trq.triggersFailed + 1 } }

theorem streamCheck_setTrigQueue (e : TrigEntry) (q : List TrigEntry) (s : State) :
    streamCheck e (s.setTrigQueue q) = (streamCheck e s).setTrigQueue q := by
  unfold streamCheck
  rw [State.setTrigQueue_stream]
  split
  · rfl
  · exact setFactor_setTrigQueue ..

theorem refuseTrigger_setTrigQueue (e : TrigEntry) (cause : Cause) (f : Factor) (q : List TrigEntry) (s : State) :
    refuseTrigger e cause f (s.setTrigQueue q) = (refuseTrigger e cause f s).setTrigQueue q := by
  unfold refuseTrigger
  rw [streamCheck_setTrigQueue]
  exact (congrArg (setFactor f) (failTrigger_setTrigQueue ..)).trans (setFactor_setTrigQueue ..)

theorem dropReused_setTrigQueue (p : PortIx) (c : BitVec 8) (q : List TrigEntry) (s : State) :
    dropReused p c (s.setTrigQueue q) = (dropReused p c s).setTrigQueue q := by
  have hfold (l : List Exposure) (t : State) :
      l.foldl (fun u x => setFactor (.camNoFrame p) (closeExposure p .noFrame u.lineTime x u)) (t.setTrigQueue q) =
        (l.foldl (fun u x => setFactor (.camNoFrame p) (closeExposure p .noFrame u.lineTime x u)) t).setTrigQueue q := by
    induction l generalizing t with
    | nil => rfl
    | cons x rest ih =>
      rw [List.foldl_cons, List.foldl_cons, ← ih]
      congr 1
      exact (congrArg (setFactor (.camNoFrame p)) (issueMissing_setTrigQueue ..)).trans (setFactor_setTrigQueue ..)
  exact hfold _ (s.setExposures p _)

theorem fireTrigger_setTrigQueue (e : TrigEntry) (i : StreamIx) (q : List TrigEntry) (s : State) :
    fireTrigger e i (s.setTrigQueue q) = (fireTrigger e i s).setTrigQueue q := by
  have hstart : startFire e (s.setTrigQueue q) = (startFire e s).setTrigQueue q :=
    wrapFactor_setTrigQueue _ _ q
      { s with trq :=
        { s.trq with triggersFired := s.trq.triggersFired + 1, stages := s.trq.stages.set e.port (firedStage e s) } }
  have hform : firedExposure e i (s.setTrigQueue q) = firedExposure e i s := rfl
  rw [fireTrigger_eq, fireTrigger_eq, hstart, hform, appendExposure, appendExposure, dropReused_setTrigQueue]
  rfl

theorem firingProcedure_setTrigQueue (e : TrigEntry) (q : List TrigEntry) (s : State) :
    firingProcedure e (s.setTrigQueue q) = (firingProcedure e s).setTrigQueue q := by
  by_cases hen : (s.port e.port).enabled = true
  · by_cases harmed : (s.stage e.port).pulse = 0 ∧ (s.stage e.port).gap = 0
    · by_cases hroom : (s.exposures e.port).length < 8
      · rw [firingProcedure_fires hen harmed hroom, firingProcedure_fires (s := s.setTrigQueue q) hen harmed hroom,
          streamCheck_setTrigQueue]
        exact fireTrigger_setTrigQueue ..
      · rw [firingProcedure_listFull hen harmed (Nat.le_of_not_lt hroom),
          firingProcedure_listFull (s := s.setTrigQueue q) hen harmed (Nat.le_of_not_lt hroom), refuseTrigger_setTrigQueue]
    · rw [firingProcedure_overtrigger hen harmed, firingProcedure_overtrigger (s := s.setTrigQueue q) hen harmed,
        refuseTrigger_setTrigQueue]
  · rw [firingProcedure_portOff (Bool.eq_false_iff.2 hen), firingProcedure_portOff (s := s.setTrigQueue q) (Bool.eq_false_iff.2 hen),
      refuseTrigger_setTrigQueue]

/-! ### The clauses of O9 -/

/-- A fire whose trigger count is on no exposure of the list. -/
theorem changeOfF_fires_new {s : State} {e : TrigEntry} {rest : List TrigEntry} (hqueue : s.trq.queue = e :: rest)
    (hdue : reached s.finePos e.due = true) (hrest : ∀ x, rest.head? = some x → reached s.finePos x.due = false)
    (hen : (s.port e.port).enabled = true) (hpulse : (s.stage e.port).pulse = 0) (hgap : (s.stage e.port).gap = 0)
    (hroom : (s.exposures e.port).length < 8) (hnew : ∀ x ∈ s.exposures e.port, x.count ≠ (s.stage e.port).count + 1) :
    changeOfF s = (startFire e (headChecked e rest s)).setExposures e.port
      (s.exposures e.port ++ [firedExposure e (checkedStream e s) s]) := by
  have hdrop : dropReused e.port (firedExposure e (checkedStream e s) s).count (startFire e (headChecked e rest s)) =
      startFire e (headChecked e rest s) := dropReused_of_new (by rw [headChecked_exposures]; exact hnew)
  rw [changeOfF_fires hqueue hdue hrest hen hpulse hgap hroom, appendExposure, hdrop, headChecked_exposures]

/-- A fire whose trigger count is on one exposure of the list, which is closed first (R65). -/
theorem changeOfF_fires_reused {s : State} {e : TrigEntry} {rest : List TrigEntry} {older younger : List Exposure} {x : Exposure}
    (hqueue : s.trq.queue = e :: rest) (hdue : reached s.finePos e.due = true)
    (hrest : ∀ x, rest.head? = some x → reached s.finePos x.due = false) (hen : (s.port e.port).enabled = true)
    (hpulse : (s.stage e.port).pulse = 0) (hgap : (s.stage e.port).gap = 0) (hroom : (s.exposures e.port).length < 8)
    (hlist : s.exposures e.port = older ++ x :: younger) (hcount : x.count = (s.stage e.port).count + 1)
    (hother : ∀ y ∈ older ++ younger, y.count ≠ x.count) :
    changeOfF s = (setFactor (.camNoFrame e.port) (closeExposure e.port .noFrame s.lineTime x
      ((startFire e (headChecked e rest s)).setExposures e.port (older ++ younger)))).setExposures e.port
        (older ++ younger ++ [firedExposure e (checkedStream e s) s]) := by
  have hdrop := dropReused_of_one (p := e.port) (c := (s.stage e.port).count + 1) (s := startFire e (headChecked e rest s)) (x := x)
    (by rw [headChecked_exposures]; exact hlist) hcount (hcount ▸ hother)
  have hline : (startFire e (headChecked e rest s)).lineTime = s.lineTime := by simp [startFire, headChecked]
  rw [hline] at hdrop
  have hform : (firedExposure e (checkedStream e s) s).count = (s.stage e.port).count + 1 := rfl
  rw [changeOfF_fires hqueue hdue hrest hen hpulse hgap hroom, appendExposure, hform, hdrop, setFactor_exposures, closeExposure_exposures,
    State.setExposures_exposures_self]

/-- The second of two due entries, after a fire on the same port (R33, R38): its port is no longer armed. -/
theorem changeOfF_second {s u : State} {x : TrigEntry} {rest : List TrigEntry} (hsetup : SameSetup s u) (hbpt : u.bpt = s.bpt)
    (hdue : reached s.finePos x.due = true) (hrest : ∀ y, rest.head? = some y → reached s.finePos y.due = false)
    (hen : (s.port x.port).enabled = true) (hbusy : (u.stage x.port).pulse ≠ 0) :
    changeOfF (u.setTrigQueue (x :: rest)) = refuseTrigger x .overtrigger .trqOvertrigger (u.setTrigQueue rest) := by
  have hfine : u.finePos = s.finePos := finePos_of_bpt hbpt
  rw [changeOfF_of_one_due (s := u.setTrigQueue (x :: rest)) rfl (by rw [State.setTrigQueue_finePos, hfine]; exact hdue)
    (by rw [State.setTrigQueue_finePos, hfine]; exact hrest)]
  refine firingProcedure_overtrigger (s := u.setTrigQueue rest) ?_ fun harmed => hbusy harmed.1
  rw [State.setTrigQueue_port, hsetup.enabled]
  exact hen

/-- Settles O9: a fire without and with a reused trigger count, an entry not reached, and several due entries one after another. -/
theorem dueTriggerFires : Obligations.DueTriggerFires := by
  unfold Obligations.DueTriggerFires
  intro formed fired
  refine ⟨?_, ?_, fun s => changeOfF_of_not_due, ?_⟩
  · intro s e rest hqueue hdue hrest hen hpulse hgap hroom hnew bound
    rw [changeOfF_fires_new hqueue hdue hrest hen hpulse hgap hroom hnew]
    refine ⟨(startFire_headChecked_raised e rest s).congr rfl rfl rfl rfl, ?_⟩
    have hrest' := congrArg (fun t : State => t.setExposures e.port (s.exposures e.port ++ [formed s e]))
      (startFire_headChecked_rest e rest s)
    refine Eq.trans hrest' ?_
    rw [startFire_headChecked_trq, firedStage_armed hgap]
    rfl
  · intro s e rest older younger x hqueue hdue hrest hen hpulse hgap hlist hroom hcount hother t
    have ht := changeOfF_fires_reused hqueue hdue hrest hen hpulse hgap hroom hlist hcount hother
    have hv := startFire_headChecked_rest e rest s
    have htrq := startFire_headChecked_trq e rest s
    have hbefore := startFire_headChecked_raised e rest s
    generalize startFire e (headChecked e rest s) = v at ht hv htrq hbefore
    have hcbm : v.cbm = s.cbm := (congrArg State.cbm hv :)
    have hport (q : PortIx) : v.port q = s.port q := (congrArg (fun w : State => w.port q) hv :)
    have hstream (k : StreamIx) : v.stream k = s.stream k := (congrArg (fun w : State => w.stream k) hv :)
    have hlists (q : PortIx) : v.exposures q = s.exposures q := (congrArg (fun w : State => w.exposures q) hv :)
    have hwent := issueMissing_went x.stream (exposureRecord e.port x .noFrame s.lineTime)
      (v.setExposures e.port (older ++ younger))
    rw [State.setExposures_stream, hstream] at hwent
    change t = _ at ht
    rw [ht]
    refine ⟨?_, State.setExposures_exposures_self .., fun q hq => ?_, ?_, fun q hq => ?_, ?_, ?_, fun k hk => ?_, ?_⟩
    · rw [State.setExposures_trq, setFactor_trq, closeExposure_trq, State.setExposures_trq, htrq, firedStage_armed hgap]
    · rw [State.setExposures_exposures_ne _ _ _ _ hq, setFactor_exposures, closeExposure_exposures,
        State.setExposures_exposures_ne _ _ _ _ hq, hlists]
    · rw [State.setExposures_port, setFactor_port, closeExposure_port_self, State.setExposures_port, hport]
    · rw [State.setExposures_port, setFactor_port, closeExposure_port_ne _ _ _ _ _ _ hq, State.setExposures_port, hport]
    · exact (setFactor_raised (.camNoFrame e.port) _).has_of_mem (List.mem_singleton.2 rfl)
    · rw [State.setExposures_cbm, setFactor_cbm, closeExposure_reserved, State.setExposures_cbm, hcbm]
    · rw [State.setExposures_stream, setFactor_stream, closeExposure_eq, issueMissing_stream_ne _ _ _ _ hk, State.setExposures_stream,
        hstream]
    · exact hwent.congr hcbm.symm (setFactor_cbm ..) (setFactor_raised (.camNoFrame e.port) _).has_of_has
  · intro s e rest hqueue hdue u
    have hu : u = firingProcedure e (s.setTrigQueue []) := changeOfF_of_one_due (s := s.setTrigQueue [e]) rfl hdue nofun
    have hsplit : changeOfF s = changeOfF (u.setTrigQueue rest) := by
      rw [hu, ← firingProcedure_setTrigQueue, changeOfF_of_due hqueue hdue]
      rfl
    refine ⟨hsplit, ?_⟩
    rintro x rest' rfl hdue' hrest hport hwidth hen hpulse hgap hroom i t
    have hfires : u = fireTrigger e (checkedStream e s) (headChecked e [] s) := by
      rw [hu, firingProcedure_fires (s := s.setTrigQueue []) hen ⟨hpulse, hgap⟩ hroom]
      rfl
    have hbpt : u.bpt = s.bpt := by rw [hfires, fireTrigger_bpt, headChecked, streamCheck_bpt, State.setTrigQueue_bpt]
    have hsetup : SameSetup s u := by
      rw [hfires]
      exact (headChecked_sameSetup e [] s).trans (fireTrigger_sameSetup ..)
    have htrq : u.trq = { s.trq with
        queue := [], triggersFired := s.trq.triggersFired + 1, stages := s.trq.stages.set e.port (firedStage e s) } := by
      rw [hfires, fireTrigger_trq, firedStage_headChecked, headChecked, streamCheck_trq]
      rfl
    have hstage : u.stage x.port = firedStage e s := by
      rw [State.stage, htrq, hport]
      exact Vector.getElem_set_self _
    have ht : t = refuseTrigger x .overtrigger .trqOvertrigger (u.setTrigQueue rest') :=
      hsplit.trans (changeOfF_second hsetup hbpt hdue' hrest (hport ▸ hen) (by rw [hstage]; exact hwidth))
    have htrqt : t.trq = { u.trq with queue := rest', triggersFailed := u.trq.triggersFailed + 1 } := by
      rw [ht, refuseTrigger_trq]
      rfl
    have hwent := refuseTrigger_went x .overtrigger .trqOvertrigger (u.setTrigQueue rest')
    have hstream : checkedStream x (u.setTrigQueue rest') = i := hsetup.checkedStream x
    have hline : (u.setTrigQueue rest').lineTime = s.bpt.lineTime := congrArg Bpt.lineTime hbpt
    rw [hstream, hline, State.setTrigQueue_stream, hsetup.frameCounter, ← ht] at hwent
    refine ⟨by rw [htrqt], by rw [htrqt, htrq], by rw [htrqt, htrq], ?_, ?_, ?_, hwent⟩
    · rw [State.stage, htrqt]
      rfl
    · rw [State.exposures, ht, refuseTrigger_xcr]
      rfl
    · rw [ht]
      exact refuseTrigger_has_factor ..

end Sys2Proof.Machine
end

section
/-! PROOFS. A trigger tick: what the sensors leave of the ports and the stages, and the stages' own counting (O11). -/

namespace Sys2Proof.Machine

/-! ### What the sensors leave alone -/

theorem insertTrigger_of_room {e : TrigEntry} {s : State} (h : s.trq.queue.length < 64) :
    insertTrigger e s = s.setTrigQueue (insertEntry s.finePos e s.trq.queue) := if_pos h

theorem insertTrigger_of_full {e : TrigEntry} {s : State} (h : 64 ≤ s.trq.queue.length) :
    insertTrigger e s = refuseTrigger e .queueFull .trqQueueFull s := if_neg (Nat.not_lt.2 h)

/-- The ports and the streams but for missing records, and the trigger stages, stay. -/
structure SameStages (s t : State) : Prop where
  setup : SameSetup s t
  stages : t.trq.stages = s.trq.stages

theorem SameStages.refl (s : State) : SameStages s s := ⟨SameSetup.refl s, rfl⟩

theorem SameStages.trans {s t u : State} (h : SameStages s t) (k : SameStages t u) : SameStages s u :=
  ⟨h.setup.trans k.setup, k.stages.trans h.stages⟩

theorem foldl_sameStages {α : Type} (f : State → α → State) (h : ∀ s a, SameStages s (f s a)) (l : List α) (s : State) :
    SameStages s (l.foldl f s) := by
  induction l generalizing s with
  | nil => exact SameStages.refl s
  | cons a rest ih => exact (h s a).trans (ih _)

theorem SameStages.ite {s t u : State} {c : Prop} [Decidable c] (ht : SameStages s t) (hu : SameStages s u) :
    SameStages s (if c then t else u) := by
  split
  · exact ht
  · exact hu

theorem insertTrigger_sameStages (e : TrigEntry) (s : State) : SameStages s (insertTrigger e s) := by
  by_cases hroom : s.trq.queue.length < 64
  · rw [insertTrigger_of_room hroom]
    exact ⟨SameSetup.of_eq (fun _ => rfl) (fun _ => rfl), rfl⟩
  · rw [insertTrigger_of_full (Nat.le_of_not_lt hroom)]
    exact ⟨refuseTrigger_sameSetup .., by rw [refuseTrigger_trq]⟩

theorem setTrq_sameStages (s : State) (x : Trq) (h : x.stages = s.trq.stages) : SameStages s { s with trq := x } :=
  ⟨SameSetup.of_eq (fun _ => rfl) (fun _ => rfl), h⟩

theorem setFactor_sameStages (f : Factor) (s : State) : SameStages s (setFactor f s) :=
  ⟨setFactor_sameSetup f s, by rw [setFactor_trq]⟩

theorem countTrq_sameStages (old : BitVec 32) (upd : Trq → BitVec 32 → Trq) (s : State)
    (h : (upd s.trq (old + 1)).stages = s.trq.stages) : SameStages s (countTrq old upd s) :=
  ⟨SameSetup.of_eq (fun _ => countTrq_port ..) (fun _ => countTrq_stream ..), by rw [countTrq_trq, h]⟩

theorem setSensor_sameStages (n : SensorIx) (x : Sensor) (s : State) : SameStages s (s.setSensor n x) := setTrq_sameStages s _ rfl

theorem registerPart_sameStages (n : SensorIx) (s : State) : SameStages s (registerPart n s) := by
  unfold registerPart
  refine SameStages.trans (SameStages.trans (SameStages.trans (setTrq_sameStages s _ (by rfl)) (countTrq_sameStages _ _ _ (by rfl)))
    (setSensor_sameStages n _ _)) (foldl_sameStages _ (fun u i => ?_) _ _)
  exact SameStages.ite (insertTrigger_sameStages _ u) (SameStages.refl u)

theorem registrationGate_sameStages (n : SensorIx) (level : Bool) (s : State) : SameStages s (registrationGate n level s) :=
  SameStages.ite
    (SameStages.ite (countTrq_sameStages _ _ s rfl)
      (SameStages.ite ((countTrq_sameStages _ _ s (by rfl)).trans (setFactor_sameStages ..)) (registerPart_sameStages n s)))
    (SameStages.refl s)

theorem sampleSensor_sameStages (n : SensorIx) (sample : Bool) (s : State) : SameStages s (sampleSensor n sample s) :=
  have hset := setSensor_sameStages n { s.sensor n with filter := (filterSample (s.sensor n).depth sample (s.sensor n).filter).1 } s
  SameStages.ite (hset.trans (registrationGate_sameStages ..)) hset

/-! ### The two halves of a trigger tick -/

/-- The four sensors sampled (R22, R28). -/
def sampleAll (lines : BitVec 4) (s : State) : State := (List.finRange 4).foldl (fun u n => sampleSensor n (lines.getLsbD n.val) u) s

/-- The six stages' counting (R37). -/
def tickStages (s : State) : State := (List.finRange 6).foldl (fun u p => u.setStage p (tickStage (u.port p) (u.stage p))) s

theorem exec_triggerTick (lines : BitVec 4) (s : State) : exec (.triggerTick lines) s = .next (tickStages (sampleAll lines s)) := rfl

/-- The counting changes the trigger stages alone. -/
theorem tickStages_rest (s : State) : tickStages s = { s with trq := { s.trq with stages := (tickStages s).trq.stages } } := by
  have hkeeps := foldl_keeps (fun u : State => { u with trq := { u.trq with stages := s.trq.stages } })
    (fun p u => u.setStage p (tickStage (u.port p) (u.stage p))) (fun _ _ => rfl) (List.finRange 6) s
  exact congrArg (fun u : State => { u with trq := { u.trq with stages := (tickStages s).trq.stages } }) hkeeps

theorem tickStages_stage (s : State) (p : PortIx) : (tickStages s).stage p = tickStage (s.port p) (s.stage p) := by
  have hview := allPorts_view (fun u q => (u.port q, u.stage q)) (fun p u => u.setStage p (tickStage (u.port p) (u.stage p)))
    (fun _ x => (x.1, tickStage x.1 x.2))
    (fun p u q => by
      by_cases hq : q = p
      · subst hq; simp
      · simp [hq]) s p
  exact congrArg Prod.snd hview

/-! ### A stage's tick (R37) -/

/-- A counter that stops at 0. -/
theorem countDown_eq (x : BitVec 16) : (if x = 0 then 0 else x - 1) = BitVec.ofNat 16 (x.toNat - 1) := by
  split
  · rename_i h
    rw [h]
    rfl
  · rename_i h
    have hpos : x.toNat ≠ 0 := fun h0 => h (BitVec.eq_of_toNat_eq h0)
    apply BitVec.eq_of_toNat_eq
    have := x.isLt
    have hone : (1 : BitVec 16).toNat = 1 := rfl
    rw [BitVec.toNat_sub, BitVec.toNat_ofNat, hone]
    omega

theorem tickStage_eq (x : Port) (g : Stage) :
    tickStage x g =
      if g.pulse = 1 then { g with pulse := 0, gap := x.rearmGap, out := x.polarity == .activeLow }
      else { g with pulse := BitVec.ofNat 16 (g.pulse.toNat - 1), gap := BitVec.ofNat 16 (g.gap.toNat - 1) } := by
  rw [tickStage, endPulse, TrigPolarity.inactiveLevel_eq, countDown_eq, countDown_eq]

theorem endPulse_eq (x : Port) (g : Stage) :
    endPulse x g = { g with pulse := 0, gap := x.rearmGap, out := x.polarity == .activeLow } := by
  rw [endPulse, TrigPolarity.inactiveLevel_eq]

/-- The configuration that a stage's tick reads is not among what the sensors change. -/
theorem tickStage_congr {x y : Port} (hpolarity : x.polarity = y.polarity) (hgap : x.rearmGap = y.rearmGap) (g : Stage) :
    tickStage x g = tickStage y g := by
  rw [tickStage_eq, tickStage_eq, hpolarity, hgap]

/-- Settles O11: the sensors leave the stages and the ports' trigger configuration, and each stage is ticked once. -/
theorem triggerStagesCount : Obligations.TriggerStagesCount := by
  refine ⟨fun lines s => ⟨_, exec_triggerTick lines s, fun p => ?_⟩, fun p s h => ?_, fun p s h => ?_⟩
  · obtain ⟨hsetup, hstages⟩ : SameStages s (sampleAll lines s) := foldl_sameStages _ (fun _ _ => sampleSensor_sameStages ..) _ s
    obtain ⟨n, hport⟩ := hsetup.port p
    have hstage : (sampleAll lines s).stage p = s.stage p := by rw [State.stage, hstages]; rfl
    rw [tickStages_stage, hstage, tickStage_congr (y := s.port p) (by rw [hport]) (by rw [hport]), tickStage_eq]
  · rw [← endPulse_eq]
    exact congrArg Host.Outcome.next (if_pos h)
  · exact congrArg Host.Outcome.next (if_pos h)

end Sys2Proof.Machine
end

section
/-! PROOFS. Sensor transitions that register no part (O13). -/

namespace Sys2Proof.Machine

/-! ### One sample of one sensor (R22, R24-R26) -/

/-- A sensor whose line shows its accepted level: its run starts again. -/
def Sensor.quiet (x : Sensor) : Sensor := { x with filter := { x.filter with run := 0 } }

/-- A sensor whose transition to `level` is accepted. -/
def Sensor.taken (x : Sensor) (level : Bool) : Sensor := { x with filter := { level, run := 0 } }

theorem sampleSensor_same {n : SensorIx} {b : Bool} {s : State} (h : b = (s.sensor n).filter.level) :
    sampleSensor n b s = s.setSensor n (s.sensor n).quiet := by
  unfold sampleSensor
  dsimp only
  rw [h, filterSample_same]
  rfl

theorem sampleSensor_accepted {n : SensorIx} {b : Bool} {s : State} (hdiff : b ≠ (s.sensor n).filter.level)
    (hrun : (s.sensor n).filter.run + 1 = 2 ^ (s.sensor n).depth) :
    sampleSensor n b s = registrationGate n b (s.setSensor n ((s.sensor n).taken b)) := by
  unfold sampleSensor
  dsimp only
  rw [filterSample_accepted hdiff.symm hrun]
  rfl

theorem Transition.isTo_iff (x : Transition) (b : Bool) : x.isTo b = true ↔ (x = .rising ↔ b = true) := by
  cases x <;> cases b <;> decide

theorem lockedOut_iff (x : Sensor) (f : FinePos) :
    lockedOut x f = true ↔ ∃ last, x.lastReg = some last ∧ (f - last).toNat < x.lockout.toNat := by
  unfold lockedOut
  split
  · rename_i hnone
    simp [hnone]
  · rename_i last hlast
    simp [hlast]

/-- Sensor `n` asks to register at a transition to `b` (R24). -/
def State.asks (s : State) (n : SensorIx) (b : Bool) : Prop :=
  s.lvc.level = .run ∧ (s.sensor n).enabled = true ∧ ((s.sensor n).transition = .rising ↔ b = true)

theorem State.asks_iff (s : State) (n : SensorIx) (b : Bool) :
    s.asks n b ↔ s.lvc.level = .run ∧ (s.sensor n).enabled = true ∧ (s.sensor n).transition.isTo b = true := by
  rw [State.asks, Transition.isTo_iff]

theorem registrationGate_ignored {n : SensorIx} {b : Bool} {s : State} (h : ¬ s.asks n b) : registrationGate n b s = s :=
  if_neg (mt (s.asks_iff n b).2 h)

theorem registrationGate_motion {n : SensorIx} {b : Bool} {s : State} (h : s.asks n b) (hdir : s.bpt.lastDir ≠ .forward) :
    registrationGate n b s = countTrq s.trq.reverseSensorEdges (fun q k => { q with reverseSensorEdges := k }) s := by
  unfold registrationGate
  dsimp only
  rw [if_pos ((s.asks_iff n b).1 h), if_pos hdir]

theorem registrationGate_locked {n : SensorIx} {b : Bool} {s : State} (h : s.asks n b) (hdir : s.bpt.lastDir = .forward)
    (hlocked : lockedOut (s.sensor n) s.finePos = true) :
    registrationGate n b s = setFactor .trqLockout (countTrq s.trq.lockoutEdges (fun q k => { q with lockoutEdges := k }) s) := by
  unfold registrationGate
  dsimp only
  rw [if_pos ((s.asks_iff n b).1 h), if_neg (not_not.2 hdir), if_pos hlocked]

theorem registrationGate_registers {n : SensorIx} {b : Bool} {s : State} (h : s.asks n b) (hdir : s.bpt.lastDir = .forward)
    (hlocked : lockedOut (s.sensor n) s.finePos ≠ true) : registrationGate n b s = registerPart n s := by
  unfold registrationGate
  dsimp only
  rw [if_pos ((s.asks_iff n b).1 h), if_neg (not_not.2 hdir), if_neg hlocked]

/-! ### The sensors that see no transition -/

/-- The sensors of `l` sampled. -/
def samples (lines : BitVec 4) (l : List SensorIx) (s : State) : State := l.foldl (fun u n => sampleSensor n (lines.getLsbD n.val) u) s

/-- `t` is `s` but for its sensors. -/
def OnlySensors (s t : State) : Prop := t = { s with trq := { s.trq with sensors := t.trq.sensors } }

/-- Sensors whose lines show their accepted levels change nothing but their runs. -/
theorem samples_quiet (lines : BitVec 4) (l : List SensorIx) (s : State)
    (h : ∀ m ∈ l, lines.getLsbD m.val = (s.sensor m).filter.level) :
    OnlySensors s (samples lines l s) ∧
      ∀ m, (samples lines l s).sensor m = if m ∈ l then (s.sensor m).quiet else s.sensor m := by
  induction l generalizing s with
  | nil => exact ⟨rfl, fun m => (if_neg (List.not_mem_nil)).symm⟩
  | cons n rest ih =>
    have hfirst : samples lines (n :: rest) s = samples lines rest (s.setSensor n (s.sensor n).quiet) := by
      rw [← sampleSensor_same (h n List.mem_cons_self)]
      rfl
    have hlevel (m : SensorIx) : ((s.setSensor n (s.sensor n).quiet).sensor m).filter.level = (s.sensor m).filter.level := by
      rw [State.setSensor_sensor]
      split
      · rename_i hm
        rw [hm]
        rfl
      · rfl
    obtain ⟨hrest, hsensors⟩ := ih (s.setSensor n (s.sensor n).quiet) fun m hm => by
      rw [hlevel]
      exact h m (List.mem_cons_of_mem _ hm)
    rw [hfirst]
    refine ⟨hrest, fun m => ?_⟩
    rw [hsensors, State.setSensor_sensor]
    by_cases hm : m = n
    · subst hm
      simp [Sensor.quiet]
    · simp [hm]

/-! ### One sensor's transition among quiet ones -/

/-- All four sensors sampled, where only sensor `n` sees a transition: it is judged in a state that differs from `s` by the runs of the
sensors before it and by its own filter, and the runs of the sensors after it are all that follows. -/
theorem sampleAll_one {lines : BitVec 4} {n : SensorIx} {s : State}
    (hother : ∀ m : SensorIx, m ≠ n → lines.getLsbD m.val = (s.sensor m).filter.level)
    (hdiff : lines.getLsbD n.val ≠ (s.sensor n).filter.level) (hrun : (s.sensor n).filter.run + 1 = 2 ^ (s.sensor n).depth) :
    ∃ u, OnlySensors s u ∧ u.sensor n = (s.sensor n).taken (lines.getLsbD n.val) ∧
      ∀ v, v = registrationGate n (lines.getLsbD n.val) u → v.trq.sensors = u.trq.sensors →
        OnlySensors v (sampleAll lines s) ∧ ∀ m, ((sampleAll lines s).sensor m).lastReg = (s.sensor m).lastReg := by
  obtain ⟨before, after, hall⟩ := List.append_of_mem (List.mem_finRange n)
  have hnodup : (before ++ n :: after).Nodup := hall ▸ List.nodup_finRange 4
  obtain ⟨hn, hrest⟩ := List.nodup_cons.1 (List.perm_middle.nodup_iff.1 hnodup)
  have hafter (m : SensorIx) (hm : m ∈ after) : m ≠ n ∧ m ∉ before := by
    refine ⟨fun h => hn (h ▸ List.mem_append_right _ hm), fun hb => ?_⟩
    exact (List.nodup_append.1 hrest).2.2 m hb m hm rfl
  have hnbefore : n ∉ before := fun h => hn (List.mem_append_left _ h)
  obtain ⟨honly, hsensors⟩ := samples_quiet lines before s fun m hm => hother m fun h => hnbefore (h ▸ hm)
  have hnth : (samples lines before s).sensor n = s.sensor n := by rw [hsensors, if_neg hnbefore]
  refine ⟨(samples lines before s).setSensor n ((s.sensor n).taken (lines.getLsbD n.val)), ?_, State.setSensor_sensor_self .., ?_⟩
  · rw [OnlySensors, honly]
    rfl
  rintro v hv hkept
  have hvsensor (m : SensorIx) : v.sensor m =
      if m = n then (s.sensor n).taken (lines.getLsbD n.val) else (samples lines before s).sensor m := by
    rw [← State.setSensor_sensor, State.sensor, hkept]
    rfl
  have hsplit : sampleAll lines s = samples lines after v := by
    have hgate := sampleSensor_accepted (n := n) (b := lines.getLsbD n.val) (s := samples lines before s) (hnth ▸ hdiff) (hnth ▸ hrun)
    rw [hnth, ← hv] at hgate
    rw [sampleAll, hall, List.foldl_append, List.foldl_cons, ← hgate]
    rfl
  have hlevel (m : SensorIx) (hm : m ∈ after) : lines.getLsbD m.val = (v.sensor m).filter.level := by
    obtain ⟨hne, hnot⟩ := hafter m hm
    rw [hvsensor, if_neg hne, hsensors, if_neg hnot]
    exact hother m hne
  obtain ⟨honly', hsensors'⟩ := samples_quiet lines after v hlevel
  rw [hsplit]
  refine ⟨honly', fun m => ?_⟩
  have hquiet (x : Sensor) : x.quiet.lastReg = x.lastReg := rfl
  have htaken (x : Sensor) (b : Bool) : (x.taken b).lastReg = x.lastReg := rfl
  rw [hsensors', apply_ite Sensor.lastReg, hquiet, ite_self, hvsensor]
  split
  · rename_i h
    rw [htaken, h]
  · rw [hsensors, apply_ite Sensor.lastReg, hquiet, ite_self]

theorem OnlySensors.asks {s u : State} (h : OnlySensors s u) {n : SensorIx} {b : Bool} (hn : u.sensor n = (s.sensor n).taken b) :
    u.asks n b ↔ s.asks n b := by
  rw [State.asks, State.asks, hn, h]
  rfl

theorem tickStages_trq (s : State) : (tickStages s).trq = { s.trq with stages := (tickStages s).trq.stages } :=
  (congrArg State.trq (tickStages_rest s) :)

theorem tickStages_evu (s : State) : (tickStages s).evu = s.evu := (congrArg State.evu (tickStages_rest s) :)

theorem tickStages_mge (s : State) : (tickStages s).mge = s.mge := (congrArg State.mge (tickStages_rest s) :)

theorem tickStages_sensor (s : State) (n : SensorIx) : (tickStages s).sensor n = s.sensor n := by
  rw [State.sensor, tickStages_trq]
  rfl

/-- What a trigger tick leaves of TRQ where no part registers: the sensors, the stages and the two counters of refused transitions. -/
structure NoPart (s t : State) (reverse lockout : BitVec 32) : Prop where
  trq : t.trq = { s.trq with
    sensors := t.trq.sensors, stages := t.trq.stages
    reverseSensorEdges := t.trq.reverseSensorEdges, lockoutEdges := t.trq.lockoutEdges }
  lastReg : ∀ m, (t.sensor m).lastReg = (s.sensor m).lastReg
  reverse : t.trq.reverseSensorEdges = reverse
  lockout : t.trq.lockoutEdges = lockout

/-- A tick at which only sensor `n` sees a transition, judged in the state `u`: where the gate only counts, no part is registered. -/
theorem triggerTick_one {lines : BitVec 4} {n : SensorIx} {s : State}
    (hother : ∀ m : SensorIx, m ≠ n → lines.getLsbD m.val = (s.sensor m).filter.level)
    (hdiff : lines.getLsbD n.val ≠ (s.sensor n).filter.level) (hrun : (s.sensor n).filter.run + 1 = 2 ^ (s.sensor n).depth) :
    ∃ u, OnlySensors s u ∧ u.sensor n = (s.sensor n).taken (lines.getLsbD n.val) ∧
      ∀ v reverse lockout, v = registrationGate n (lines.getLsbD n.val) u →
        v.trq = { u.trq with reverseSensorEdges := reverse, lockoutEdges := lockout } →
        NoPart s (tickStages (sampleAll lines s)) reverse lockout ∧
          (tickStages (sampleAll lines s)).evu = v.evu ∧ (tickStages (sampleAll lines s)).mge = v.mge := by
  obtain ⟨u, honly, hn, hrest⟩ := sampleAll_one hother hdiff hrun
  refine ⟨u, honly, hn, fun v reverse lockout hv hvtrq => ?_⟩
  obtain ⟨hfinal, hregs⟩ := hrest v hv (by rw [hvtrq])
  have htrq : u.trq = { s.trq with sensors := u.trq.sensors } := (congrArg State.trq honly :)
  have hwtrq : (sampleAll lines s).trq = { v.trq with sensors := (sampleAll lines s).trq.sensors } := (congrArg State.trq hfinal :)
  have ht := tickStages_trq (sampleAll lines s)
  rw [hwtrq, hvtrq, htrq] at ht
  refine ⟨⟨?_, fun m => by rw [tickStages_sensor, hregs], ?_, ?_⟩, ?_, ?_⟩
  · rw [ht]
  · rw [ht]
  · rw [ht]
  · rw [tickStages_evu]
    exact (congrArg State.evu hfinal :)
  · rw [tickStages_mge]
    exact (congrArg State.mge hfinal :)

/-- Settles O13: the gate's three refusals, each in a state that the other sensors have only sampled. -/
theorem registrationRefused : Obligations.RegistrationRefused := by
  intro s n lines hother hdiff hrun asks moves locked hnot
  obtain ⟨u, honly, hn, hend⟩ := triggerTick_one hother hdiff hrun
  have hasks : u.asks n (lines.getLsbD n.val) ↔ asks := honly.asks hn
  have hbpt : u.bpt = s.bpt := (congrArg State.bpt honly :)
  have hlocked : lockedOut (u.sensor n) u.finePos = true ↔ locked := by
    rw [lockedOut_iff, hn, finePos_of_bpt hbpt]
    rfl
  have hreverse : u.trq.reverseSensorEdges = s.trq.reverseSensorEdges := (congrArg (fun x : State => x.trq.reverseSensorEdges) honly :)
  have hlockout : u.trq.lockoutEdges = s.trq.lockoutEdges := (congrArg (fun x : State => x.trq.lockoutEdges) honly :)
  have hevu : u.evu = s.evu := (congrArg State.evu honly :)
  have hmge : u.mge = s.mge := (congrArg State.mge honly :)
  refine ⟨_, exec_triggerTick lines s, ?_⟩
  by_cases ha : asks
  · by_cases hm : moves
    · have hl : locked := by
        by_contra hl
        exact hnot ⟨ha, hm, hl⟩
      have hgate := registrationGate_locked (hasks.2 ha) (by rw [hbpt]; exact hm) (hlocked.2 hl)
      obtain ⟨hpart, hevu', hmge'⟩ := hend _ s.trq.reverseSensorEdges (s.trq.lockoutEdges + 1) rfl (by
        rw [hgate, setFactor_trq, countTrq_trq, ← hreverse, ← hlockout])
      refine ⟨hpart.trq, hpart.lastReg, fun h => absurd ha h, fun ⟨_, h⟩ => absurd hm h, fun _ => ⟨hpart.reverse, hpart.lockout, ?_⟩⟩
      rw [hgate, hlockout] at hevu' hmge'
      refine (((countTrq_raised ..).trans (setFactor_raised .trqLockout _)).congr hevu.symm hmge.symm hevu' hmge').perm fun f => ?_
      simp [or_comm]
    · have hgate := registrationGate_motion (hasks.2 ha) (by rw [hbpt]; exact hm)
      obtain ⟨hpart, hevu', hmge'⟩ := hend _ (s.trq.reverseSensorEdges + 1) s.trq.lockoutEdges rfl (by
        rw [hgate, countTrq_trq, ← hreverse, ← hlockout])
      refine ⟨hpart.trq, hpart.lastReg, fun h => absurd ha h, fun _ => ⟨hpart.reverse, hpart.lockout, ?_⟩, fun ⟨_, h, _⟩ => absurd h hm⟩
      rw [hgate, hreverse] at hevu' hmge'
      exact (countTrq_raised ..).congr hevu.symm hmge.symm hevu' hmge'
  · have hgate := registrationGate_ignored (mt hasks.1 ha)
    obtain ⟨hpart, hevu', -⟩ := hend u s.trq.reverseSensorEdges s.trq.lockoutEdges hgate.symm (by rw [← hreverse, ← hlockout])
    exact ⟨hpart.trq, hpart.lastReg, fun _ => ⟨hpart.reverse, hpart.lockout, hevu'.trans hevu⟩, fun ⟨h, _⟩ => absurd h ha,
      fun ⟨h, _⟩ => absurd h ha⟩

end Sys2Proof.Machine
end

section
/-! PROOFS. The Trigger Queue's order, and the records of triggers refused one after another. -/

namespace Sys2Proof.Machine

/-! ### The place of an entry (R31) -/

theorem insertEntry_perm (f : FinePos) (e : TrigEntry) (q : List TrigEntry) : (insertEntry f e q).Perm (q ++ [e]) := by
  induction q with
  | nil => exact List.Perm.refl _
  | cons x rest ih =>
    simp only [insertEntry]
    split
    · exact (List.perm_append_singleton e (x :: rest)).symm
    · exact ih.cons x

/-- The queue is in the order of distance (R31). -/
def Ordered (f : FinePos) (q : List TrigEntry) : Prop := q.Pairwise (fun a b => dueDistance f a.due ≤ dueDistance f b.due)

theorem Ordered.insertEntry {f : FinePos} {q : List TrigEntry} (h : Ordered f q) (e : TrigEntry) : Ordered f (insertEntry f e q) := by
  induction q with
  | nil => exact List.pairwise_singleton _ _
  | cons x rest ih =>
    obtain ⟨hhead, htail⟩ := List.pairwise_cons.1 h
    simp only [Machine.insertEntry]
    split
    · rename_i hlt
      refine List.pairwise_cons.2 ⟨fun y hy => ?_, h⟩
      obtain rfl | hy := List.mem_cons.1 hy
      · exact hlt.le
      · exact hlt.le.trans (hhead y hy)
    · rename_i hge
      refine List.pairwise_cons.2 ⟨fun y hy => ?_, ih htail⟩
      obtain hold | hnew := List.mem_append.1 ((insertEntry_perm f e rest).mem_iff.1 hy)
      · exact hhead y hold
      · rw [List.mem_singleton.1 hnew]
        exact Nat.le_of_not_lt hge

/-- Equal due positions stand in the order of their insertion (R31). -/
theorem Ordered.insertEntry_filter {f : FinePos} {q : List TrigEntry} (h : Ordered f q) (e : TrigEntry) (due : FinePos) :
    (Machine.insertEntry f e q).filter (fun x => x.due == due) = (q ++ [e]).filter (fun x => x.due == due) := by
  induction q with
  | nil => rfl
  | cons x rest ih =>
    obtain ⟨hhead, htail⟩ := List.pairwise_cons.1 h
    simp only [Machine.insertEntry]
    split
    · rename_i hlt
      by_cases hdue : e.due = due
      · have hnone : (x :: rest).filter (fun y => y.due == due) = [] := by
          rw [List.filter_eq_nil_iff]
          intro y hy hyd
          have hle : dueDistance f x.due ≤ dueDistance f y.due := by
            obtain rfl | hy := List.mem_cons.1 hy
            · exact Nat.le_refl _
            · exact hhead y hy
          rw [beq_iff_eq.1 hyd, ← hdue] at hle
          exact absurd hlt (Nat.not_lt.2 hle)
        rw [List.filter_append, hnone, List.filter_cons, hnone, List.filter_cons, List.filter_nil, List.nil_append]
      · have hbeq : (e.due == due) = false := beq_eq_false_iff_ne.2 hdue
        rw [List.filter_append, List.filter_cons_of_neg (by simp [hbeq]), List.filter_singleton, hbeq]
        exact (List.append_nil _).symm
    · rw [List.cons_append, List.filter_cons, List.filter_cons, ih htail]

/-- Entries inserted one after another. -/
def insertEntries (f : FinePos) (es q : List TrigEntry) : List TrigEntry := es.foldl (fun q e => insertEntry f e q) q

theorem insertEntries_append (f : FinePos) (es : List TrigEntry) (e : TrigEntry) (q : List TrigEntry) :
    insertEntries f (es ++ [e]) q = insertEntry f e (insertEntries f es q) := List.foldl_concat ..

theorem insertEntries_perm (f : FinePos) (es q : List TrigEntry) : (insertEntries f es q).Perm (q ++ es) := by
  induction es using List.reverseRecOn with
  | nil => rw [List.append_nil]; exact List.Perm.refl _
  | append_singleton es e ih =>
    rw [insertEntries_append, ← List.append_assoc]
    exact (insertEntry_perm f e _).trans (ih.append_right [e])

theorem insertEntries_length (f : FinePos) (es q : List TrigEntry) : (insertEntries f es q).length = q.length + es.length := by
  rw [(insertEntries_perm f es q).length_eq, List.length_append]

theorem Ordered.insertEntries {f : FinePos} {q : List TrigEntry} (h : Ordered f q) (es : List TrigEntry) :
    Ordered f (insertEntries f es q) ∧ ∀ due, (Machine.insertEntries f es q).filter (fun x => x.due == due) =
      (q ++ es).filter (fun x => x.due == due) := by
  induction es using List.reverseRecOn with
  | nil =>
    rw [List.append_nil]
    exact ⟨h, fun _ => rfl⟩
  | append_singleton es e ih =>
    obtain ⟨hordered, hfilter⟩ := ih
    rw [insertEntries_append]
    refine ⟨hordered.insertEntry e, fun due => ?_⟩
    rw [hordered.insertEntry_filter, List.filter_append, hfilter, ← List.filter_append, List.append_assoc]

/-! ### Records of refused triggers, one after another -/

theorem handMissing_append (records : List (StreamIx × List Byte)) (r : StreamIx × List Byte) (s : State) :
    handMissing (records ++ [r]) s =
      handRecord r.1 .missing r.2 ((handMissing records s).stream r.1).frameCounter false (handMissing records s) := List.foldl_concat ..

theorem handMissing_sameSetup (records : List (StreamIx × List Byte)) (s : State) : SameSetup s (handMissing records s) := by
  induction records using List.reverseRecOn with
  | nil => exact SameSetup.refl s
  | append_singleton records r ih =>
    rw [handMissing_append]
    exact ih.trans (handRecord_sameSetup ..)

/-- The missing records of triggers of `s` that never fired, each for its checked stream (R34, R40). -/
def triggerRecords (code : Byte) (es : List TrigEntry) (s : State) : List (StreamIx × List Byte) :=
  es.map (fun e => (checkedStream e s, triggerMissing e code s.lineTime))

theorem triggerRecords_append (code : Byte) (es : List TrigEntry) (e : TrigEntry) (s : State) :
    triggerRecords code (es ++ [e]) s = triggerRecords code es s ++ [(checkedStream e s, triggerMissing e code s.lineTime)] :=
  List.map_append

/-- `t` has the records of the triggers `es` of `s`, refused with a cause of this code, and the ports' missing counters that go with them. -/
structure RecordsOf (code : Byte) (es : List TrigEntry) (s t : State) : Prop where
  cbm : t.cbm = (handMissing (triggerRecords code es s) s).cbm
  port : ∀ p, t.port p = { s.port p with
    missing := (s.port p).missing + BitVec.ofNat 32 (es.filter (fun e => e.port == p)).length }

theorem RecordsOf.refl (code : Byte) (s : State) : RecordsOf code [] s s :=
  ⟨rfl, fun p => by simp⟩

theorem RecordsOf.congr {code : Byte} {es : List TrigEntry} {s t u : State} (h : RecordsOf code es s t) (hcbm : u.cbm = t.cbm)
    (hcpr : u.cpr = t.cpr) : RecordsOf code es s u :=
  ⟨hcbm.trans h.cbm, fun p => by
    have hport : u.port p = t.port p := by rw [State.port, hcpr]; rfl
    rw [hport, h.port]⟩

theorem RecordsOf.sameSetup {code : Byte} {es : List TrigEntry} {s t : State} (h : RecordsOf code es s t) : SameSetup s t := by
  refine ⟨fun p => ⟨_, h.port p⟩, fun i => ?_⟩
  obtain ⟨q, n, hi⟩ := (handMissing_sameSetup (triggerRecords code es s) s).stream i
  exact ⟨q, n, by rw [State.stream, h.cbm]; exact hi⟩

theorem issueMissing_cbm (i : StreamIx) (r : MissingRecord) (s : State) :
    (issueMissing i r s).cbm = (handRecord i .missing r.payload (s.stream i).frameCounter false s).cbm := by
  rw [issueMissing, countPort_stream]
  exact handRecord_cbm_congr (countPort_cbm ..) ..

/-- One more refused trigger. -/
theorem RecordsOf.failTrigger {es : List TrigEntry} {s t : State} {cause : Cause} (h : RecordsOf cause.code es s t)
    (hline : t.lineTime = s.lineTime) (e : TrigEntry) :
    RecordsOf cause.code (es ++ [e]) s (failTrigger e (checkedStream e s) cause t) := by
  refine ⟨?_, fun p => ?_⟩
  · have hstream : t.stream (checkedStream e s) = (handMissing (triggerRecords cause.code es s) s).stream (checkedStream e s) := by
      rw [State.stream, State.stream, h.cbm]
    rw [failTrigger_cbm, issueMissing_cbm, triggerRecord_payload, hstream, hline, triggerRecords_append, handMissing_append]
    exact handRecord_cbm_congr h.cbm ..
  · rw [failTrigger_port, h.port, List.filter_append, List.length_append, List.filter_singleton, BitVec.ofNat_add, ← BitVec.add_assoc]
    by_cases hp : p = e.port
    · simp [hp]
    · have hbeq : (e.port == p) = false := beq_eq_false_iff_ne.2 (Ne.symm hp)
      simp [hp, hbeq]

end Sys2Proof.Machine
end

section
/-! PROOFS. Parts registered at a trigger tick (O12): what the registrations so far have done, kept sensor by sensor and entry by entry. -/

namespace Sys2Proof.Machine

/-! ### The factors of a refusal beside those of its record -/

/-- A refused trigger at `t` raises what its record raises at a state with the same CBM, and wraps. -/
theorem failTrigger_raised_like {t v : State} (h : t.cbm = v.cbm) (e : TrigEntry) (i : StreamIx) (cause : Cause) {code : Byte}
    (hcode : cause.code = code) :
    ∃ fs gs, Raised fs t (failTrigger e i cause t) ∧
      Raised gs v (handRecord i .missing (triggerMissing e code t.lineTime) (v.stream i).frameCounter false v) ∧
      ∀ f, f ≠ .trqWrap → (∀ p, f ≠ .camWrap p) → (f ∈ fs ↔ f ∈ gs) := by
  subst hcode
  have hstream : t.stream i = v.stream i := by rw [State.stream, State.stream, h]
  have hcount : t.freeCount = v.freeCount := by rw [State.freeCount, State.freeCount, h]
  have hfail := (issueMissing_raised i (triggerRecord e cause t.lineTime) t).trans
    (countTrq_raised (issueMissing i (triggerRecord e cause t.lineTime) t).trq.triggersFailed (fun x n => { x with triggersFailed := n }) _)
  rw [← failTrigger_eq, hstream, hcount, h] at hfail
  refine ⟨_, _, hfail, handRecord_raised i .missing _ _ false v, fun f htrq hcam => ?_⟩
  have hwrap (old : BitVec 32) : f ∉ wrapsAt old .trqWrap := by
    unfold wrapsAt
    split <;> simp [htrq]
  have hcamwrap (old : BitVec 32) (p : PortIx) : f ∉ wrapsAt old (.camWrap p) := by
    unfold wrapsAt
    split <;> simp [hcam]
  simp only [List.mem_append, hwrap, hcamwrap, false_or, or_false]

/-! ### What the registrations have done -/

/-- The entries that a queue still takes (R31). -/
def State.room (s : State) : Nat := 64 - s.trq.queue.length

/-- The blocks that a registration leaves alone. -/
def State.still (s : State) : Bpt × Xcr × Flk × Scd × Ccr × Lvc × List Instr :=
  (s.bpt, s.xcr, s.flk, s.scd, s.ccr, s.lvc, s.pending)

/-- From `s` to `t`, `k` parts have been registered, and the entries `es` have come to the Trigger Queue: as many as it takes are in it, and
the others are refused. -/
structure Registered (es : List TrigEntry) (k : Nat) (s t : State) : Prop where
  still : t.still = s.still
  trq : t.trq = { s.trq with
    partCounter := s.trq.partCounter + BitVec.ofNat 32 k, partsRegistered := s.trq.partsRegistered + BitVec.ofNat 32 k
    triggersFailed := s.trq.triggersFailed + BitVec.ofNat 32 (es.drop s.room).length
    queue := insertEntries s.finePos (es.take s.room) s.trq.queue, sensors := t.trq.sensors }
  records : RecordsOf 5 (es.drop s.room) s t
  factors : ∀ f, f ≠ .trqWrap → (∀ p, f ≠ .camWrap p) →
    t.evu.has f = ((handMissing (triggerRecords 5 (es.drop s.room) s) s).evu.has f ||
      decide (f = .trqQueueFull ∧ es.drop s.room ≠ []) ||
      decide (f = .trqPlanMismatch ∧ ∃ e ∈ es.drop s.room, (s.stream e.stream).boundPort ≠ e.port))
  quiet : es.drop s.room = [] → Raised (if 4294967296 ≤ s.trq.partsRegistered.toNat + k then [.trqWrap] else []) s t

theorem Registered.refl (s : State) : Registered [] 0 s s := by
  refine ⟨rfl, ?_, ?_, fun f _ _ => ?_, fun _ => ?_⟩
  · simp [insertEntries]
  · rw [List.drop_nil]
    exact RecordsOf.refl 5 s
  · simp [triggerRecords, handMissing]
  · rw [if_neg (by have := s.trq.partsRegistered.isLt; omega)]
    exact Raised.refl s

theorem Registered.bpt {es : List TrigEntry} {k : Nat} {s t : State} (h : Registered es k s t) : t.bpt = s.bpt :=
  congrArg Prod.fst h.still

theorem Registered.finePos {es : List TrigEntry} {k : Nat} {s t : State} (h : Registered es k s t) : t.finePos = s.finePos :=
  finePos_of_bpt h.bpt

theorem Registered.lineTime {es : List TrigEntry} {k : Nat} {s t : State} (h : Registered es k s t) : t.lineTime = s.lineTime := by
  rw [State.lineTime, State.lineTime, h.bpt]

theorem Registered.planEntry {es : List TrigEntry} {k : Nat} {s t : State} (h : Registered es k s t) (i : PlanIx) :
    t.planEntry i = s.planEntry i := by
  rw [State.planEntry, h.trq]
  rfl

theorem Registered.queue_length {es : List TrigEntry} {k : Nat} {s t : State} (h : Registered es k s t) :
    t.trq.queue.length = s.trq.queue.length + min s.room es.length := by
  rw [h.trq, insertEntries_length, List.length_take]

/-- A step that leaves the reports, the ports, the streams and TRQ's other fields, but may change the sensors. -/
theorem Registered.setSensor {es : List TrigEntry} {k : Nat} {s t : State} (h : Registered es k s t) (n : SensorIx) (x : Sensor) :
    Registered es k s (t.setSensor n x) := by
  refine ⟨h.still, ?_, h.records.congr rfl rfl, h.factors, fun hnone => (h.quiet hnone).congr rfl rfl rfl rfl⟩
  have htrq := h.trq
  rw [State.setSensor, htrq]

/-- An entry that finds room (R30, R31). -/
theorem Registered.insert_room {es : List TrigEntry} {k : Nat} {s t : State} (h : Registered es k s t) (e : TrigEntry)
    (hroom : es.length < s.room) : Registered (es ++ [e]) k s (insertTrigger e t) := by
  have hlen : t.trq.queue.length < 64 := by
    rw [h.queue_length]
    unfold State.room at *
    omega
  have hdrop : es.drop s.room = [] := List.drop_of_length_le hroom.le
  have hdrop' : (es ++ [e]).drop s.room = [] := List.drop_of_length_le (by simp only [List.length_append, List.length_singleton]; omega)
  have htake : es.take s.room = es := List.take_of_length_le hroom.le
  have htake' : (es ++ [e]).take s.room = es ++ [e] :=
    List.take_of_length_le (by simp only [List.length_append, List.length_singleton]; omega)
  obtain ⟨hstill, htrq, hrecords, hfactors, hquiet⟩ := h
  have hfine : t.finePos = s.finePos := finePos_of_bpt (congrArg Prod.fst hstill)
  rw [hdrop] at htrq hrecords hfactors hquiet
  rw [htake] at htrq
  rw [insertTrigger_of_room hlen, hfine]
  refine ⟨hstill, ?_, ?_, ?_, ?_⟩
  · rw [hdrop', htake', insertEntries_append, State.setTrigQueue, htrq]
  · rw [hdrop']
    exact hrecords.congr rfl rfl
  · rw [hdrop']
    exact hfactors
  · rw [hdrop']
    exact fun hnil => (hquiet hnil).congr rfl rfl rfl rfl

theorem refuseTrigger_still (e : TrigEntry) (cause : Cause) (f : Factor) (s : State) : (refuseTrigger e cause f s).still = s.still := by
  simp [State.still, refuseTrigger]

/-- The factors before a refusal, the refusal's own and its record's are the factors after it. -/
theorem refused_factors_iff (before record full any mismatch earlier last : Prop) :
    (((((before ∨ (full ∧ any)) ∨ (mismatch ∧ earlier)) ∨ (mismatch ∧ last)) ∨ record) ∨ full) ↔
      (((before ∨ record) ∨ full) ∨ (mismatch ∧ (earlier ∨ last))) := by
  tauto

/-- An entry that finds 64 queued (R32). -/
theorem Registered.insert_full {es : List TrigEntry} {k : Nat} {s t : State} (h : Registered es k s t) (e : TrigEntry)
    (hfull : s.room ≤ es.length) : Registered (es ++ [e]) k s (insertTrigger e t) := by
  have hlen : 64 ≤ t.trq.queue.length := by
    rw [h.queue_length]
    unfold State.room at *
    omega
  have hdrop : (es ++ [e]).drop s.room = es.drop s.room ++ [e] := List.drop_append_of_le_length hfull
  have htake : (es ++ [e]).take s.room = es.take s.room := List.take_append_of_le_length hfull
  have hchecked : checkedStream e t = checkedStream e s := h.records.sameSetup.checkedStream e
  have hbound : (t.stream e.stream).boundPort = (s.stream e.stream).boundPort := h.records.sameSetup.boundPort e.stream
  have hline : (streamCheck e t).lineTime = s.lineTime := by rw [streamCheck_lineTime, h.lineTime]
  have hcheck : RecordsOf 5 (es.drop s.room) s (streamCheck e t) := h.records.congr (streamCheck_cbm ..) (streamCheck_cpr ..)
  have hrecords := RecordsOf.failTrigger (cause := .queueFull) hcheck hline e
  rw [insertTrigger_of_full hlen]
  refine ⟨?_, ?_, ?_, fun f htrq hcam => ?_, fun hnil => ?_⟩
  · rw [refuseTrigger_still, h.still]
  · rw [refuseTrigger_trq, hdrop, htake, h.trq, List.length_append, List.length_singleton, BitVec.ofNat_add, ← BitVec.add_assoc]
    rfl
  · rw [hdrop, refuseTrigger, hchecked]
    exact hrecords.congr (setFactor_cbm ..) (setFactor_cpr ..)
  · obtain ⟨fs, gs, hfs, hgs, hsame⟩ := failTrigger_raised_like hcheck.cbm e (checkedStream e s) .queueFull (code := 5) rfl
    rw [hline] at hgs
    rw [hdrop, triggerRecords_append, handMissing_append, refuseTrigger, hchecked, (setFactor_raised ..).factors, hfs.factors,
      (streamCheck_raised e t).factors, h.factors f htrq hcam, hbound]
    dsimp only
    rw [hgs.factors f]
    have hmismatch : (∃ x ∈ es.drop s.room ++ [e], (s.stream x.stream).boundPort ≠ x.port) ↔
        (∃ x ∈ es.drop s.room, (s.stream x.stream).boundPort ≠ x.port) ∨ (s.stream e.stream).boundPort ≠ e.port := by
      simp only [List.mem_append, List.mem_singleton, or_and_right, exists_or, exists_eq_left]
    have hnew : f ∈ (if (s.stream e.stream).boundPort = e.port then [] else [Factor.trqPlanMismatch]) ↔
        f = .trqPlanMismatch ∧ (s.stream e.stream).boundPort ≠ e.port := by
      split <;> simp [*]
    rw [Bool.eq_iff_iff]
    simp only [Bool.or_eq_true, decide_eq_true_eq, hmismatch, hnew, hsame f htrq hcam, List.mem_singleton, ne_eq,
      List.append_eq_nil_iff, List.cons_ne_nil, and_false, not_false_eq_true, and_true]
    exact refused_factors_iff ..
  · rw [hdrop] at hnil
    exact absurd hnil (by simp)

theorem Registered.insert {es : List TrigEntry} {k : Nat} {s t : State} (h : Registered es k s t) (e : TrigEntry) :
    Registered (es ++ [e]) k s (insertTrigger e t) := by
  by_cases hroom : es.length < s.room
  · exact h.insert_room e hroom
  · exact h.insert_full e (Nat.le_of_not_lt hroom)

theorem insertTrigger_sensor (e : TrigEntry) (s : State) (m : SensorIx) : (insertTrigger e s).sensor m = s.sensor m := by
  by_cases hroom : s.trq.queue.length < 64
  · rw [insertTrigger_of_room hroom]
    rfl
  · rw [insertTrigger_of_full (Nat.le_of_not_lt hroom), State.sensor, refuseTrigger_trq]
    rfl

/-! ### A registration (R27, R30) -/

/-- The Trigger Queue entries of a part with this number, registered at sensor `n` (R30). -/
def planTriggers (n : SensorIx) (part : BitVec 32) (plans : List PlanIx) (s : State) : List TrigEntry :=
  (plans.filter (fun i => (s.planEntry i).enabled && (s.planEntry i).sensor == n)).map
    (fun i => planTrigger part i (s.planEntry i) s.finePos)

/-- The entries of one part, in plan index order. -/
theorem Registered.plans {es : List TrigEntry} {k : Nat} {s t : State} (h : Registered es k s t) (n : SensorIx) (part : BitVec 32)
    (plans : List PlanIx) :
    Registered (es ++ planTriggers n part plans s) k s (plans.foldl (fun u i =>
      let x := u.planEntry i
      if x.enabled = true ∧ x.sensor = n then insertTrigger (planTrigger part i x u.finePos) u else u) t) ∧
    ∀ m, (plans.foldl (fun u i =>
      let x := u.planEntry i
      if x.enabled = true ∧ x.sensor = n then insertTrigger (planTrigger part i x u.finePos) u else u) t).sensor m = t.sensor m := by
  induction plans generalizing es t with
  | nil =>
    refine ⟨?_, fun _ => rfl⟩
    rw [planTriggers, List.filter_nil, List.map_nil, List.append_nil]
    exact h
  | cons i rest ih =>
    rw [List.foldl_cons]
    dsimp only
    rw [h.planEntry, h.finePos]
    by_cases hplan : (s.planEntry i).enabled = true ∧ (s.planEntry i).sensor = n
    · obtain ⟨hrest, hsensors⟩ := ih (h.insert (planTrigger part i (s.planEntry i) s.finePos))
      have hmem : planTriggers n part (i :: rest) s = planTrigger part i (s.planEntry i) s.finePos :: planTriggers n part rest s := by
        rw [planTriggers, List.filter_cons_of_pos (by simpa using hplan), List.map_cons]
        rfl
      rw [if_pos hplan, hmem]
      refine ⟨?_, fun m => by rw [hsensors, insertTrigger_sensor]⟩
      rwa [List.append_assoc] at hrest
    · have hnot : planTriggers n part (i :: rest) s = planTriggers n part rest s := by
        rw [planTriggers, List.filter_cons_of_neg (by simpa using hplan)]
        rfl
      rw [if_neg hplan, hnot]
      exact ih h

/-- A part number taken and the part counted (R27). -/
def countPart (s : State) : State :=
  countTrq s.trq.partsRegistered (fun x k => { x with partsRegistered := k })
    { s with trq := { s.trq with partCounter := s.trq.partCounter + 1 } }

theorem registerPart_eq (n : SensorIx) (s : State) :
    registerPart n s = (List.finRange 16).foldl (fun u i =>
      let x := u.planEntry i
      if x.enabled = true ∧ x.sensor = n then insertTrigger (planTrigger s.trq.partCounter i x u.finePos) u else u)
        ((countPart s).setSensor n { (countPart s).sensor n with lastReg := some (countPart s).finePos }) := rfl

theorem countPart_trq (s : State) : (countPart s).trq =
    { s.trq with partCounter := s.trq.partCounter + 1, partsRegistered := s.trq.partsRegistered + 1 } := countTrq_trq ..

/-- A counter that has been incremented `k` times wraps at one of the increments, or at the next (R190). -/
theorem wraps_or (a : BitVec 32) (k : Nat) (f : Factor) (g : Factor) :
    g ∈ (if 4294967296 ≤ a.toNat + k then [f] else []) ++ wrapsAt (a + BitVec.ofNat 32 k) f ↔
      g ∈ (if 4294967296 ≤ a.toNat + (k + 1) then [f] else []) := by
  have hlt := a.isLt
  have hwrap : a + BitVec.ofNat 32 k = 0xFFFFFFFF#32 ↔ (a.toNat + k) % 4294967296 = 4294967295 := by
    rw [← BitVec.toNat_inj, BitVec.toNat_add, BitVec.toNat_ofNat, Nat.add_mod_mod]
    rfl
  simp only [wrapsAt, hwrap, List.mem_append]
  by_cases hg : g = f
  · split_ifs <;> simp [hg] <;> omega
  · split_ifs <;> simp [hg]

theorem Registered.count {es : List TrigEntry} {k : Nat} {s t : State} (h : Registered es k s t) : Registered es (k + 1) s (countPart t) := by
  have hcount : Raised (wrapsAt t.trq.partsRegistered .trqWrap) t (countPart t) :=
    (countTrq_raised t.trq.partsRegistered (fun x k => { x with partsRegistered := k })
      { t with trq := { t.trq with partCounter := t.trq.partCounter + 1 } }).congr rfl rfl rfl rfl
  have hpart (x : BitVec 32) : x + BitVec.ofNat 32 k + 1 = x + BitVec.ofNat 32 (k + 1) := by
    rw [BitVec.add_assoc, BitVec.ofNat_add]
    rfl
  refine ⟨?_, ?_, h.records.congr (countTrq_cbm ..) (countTrq_cpr ..), fun f htrq hcam => ?_, fun hnil => ?_⟩
  · rw [← h.still]
    simp [State.still, countPart]
  · rw [countPart_trq, h.trq, hpart, hpart]
  · have hnot : f ∉ wrapsAt t.trq.partsRegistered .trqWrap := by
      unfold wrapsAt
      split <;> simp [htrq]
    rw [hcount.factors, decide_eq_false hnot, Bool.or_false]
    exact h.factors f htrq hcam
  · have hregs : t.trq.partsRegistered = s.trq.partsRegistered + BitVec.ofNat 32 k := by rw [h.trq]
    rw [hregs] at hcount
    exact ((h.quiet hnil).trans hcount).perm fun f => wraps_or _ _ _ f

/-- A part registered (R27, R30). -/
theorem Registered.register {es : List TrigEntry} {k : Nat} {s t : State} (h : Registered es k s t) (n : SensorIx) :
    Registered (es ++ planTriggers n (s.trq.partCounter + BitVec.ofNat 32 k) (List.finRange 16) s) (k + 1) s (registerPart n t) ∧
      ∀ m, (registerPart n t).sensor m = if m = n then { t.sensor n with lastReg := some s.finePos } else t.sensor m := by
  have hpart : t.trq.partCounter = s.trq.partCounter + BitVec.ofNat 32 k := by rw [h.trq]
  have hsensor (m : SensorIx) : (countPart t).sensor m = t.sensor m := by
    rw [State.sensor, countPart_trq]
    rfl
  rw [registerPart_eq, hpart, h.count.finePos, hsensor]
  obtain ⟨hreg, hsensors⟩ := (h.count.setSensor n { t.sensor n with lastReg := some s.finePos }).plans n
    (s.trq.partCounter + BitVec.ofNat 32 k) (List.finRange 16)
  refine ⟨hreg, fun m => ?_⟩
  rw [hsensors, State.setSensor_sensor, hsensor]

/-! ### The sensors of a tick (R22, R28) -/

/-- Sensor `n` of `s` registers at a tick with these lines. -/
structure Registers (lines : BitVec 4) (s : State) (n : SensorIx) : Prop where
  diff : lines.getLsbD n.val ≠ (s.sensor n).filter.level
  run : (s.sensor n).filter.run + 1 = 2 ^ (s.sensor n).depth
  asks : s.asks n (lines.getLsbD n.val)
  free : lockedOut (s.sensor n) s.finePos ≠ true

/-- A sensor after it has registered. -/
def Sensor.registered (x : Sensor) (level : Bool) (f : FinePos) : Sensor := { x.taken level with lastReg := some f }

theorem Registered.sample {lines : BitVec 4} {es : List TrigEntry} {k : Nat} {s t : State} {n : SensorIx} (h : Registered es k s t)
    (hdir : s.bpt.lastDir = .forward) (hn : Registers lines s n) (hsame : t.sensor n = s.sensor n) :
    Registered (es ++ planTriggers n (s.trq.partCounter + BitVec.ofNat 32 k) (List.finRange 16) s) (k + 1) s
        (sampleSensor n (lines.getLsbD n.val) t) ∧
      ∀ m, (sampleSensor n (lines.getLsbD n.val) t).sensor m =
        if m = n then (s.sensor n).registered (lines.getLsbD n.val) s.finePos else t.sensor m := by
  have hset := h.setSensor n ((s.sensor n).taken (lines.getLsbD n.val))
  have hself : (t.setSensor n ((s.sensor n).taken (lines.getLsbD n.val))).sensor n = (s.sensor n).taken (lines.getLsbD n.val) :=
    State.setSensor_sensor_self ..
  have hlvc : t.lvc = s.lvc := congrArg (fun x => x.2.2.2.2.2.1) h.still
  have hasks : (t.setSensor n ((s.sensor n).taken (lines.getLsbD n.val))).asks n (lines.getLsbD n.val) := by
    rw [State.asks, hself, State.setSensor_lvc, hlvc]
    exact hn.asks
  have hgate := registrationGate_registers hasks (by rw [hset.bpt]; exact hdir) (by rw [hself, hset.finePos]; exact hn.free)
  rw [sampleSensor_accepted (hsame ▸ hn.diff) (hsame ▸ hn.run), hsame, hgate]
  obtain ⟨hreg, hsensors⟩ := hset.register n
  refine ⟨hreg, fun m => ?_⟩
  rw [hsensors, State.setSensor_sensor_self]
  split
  · rfl
  · rename_i hm
    rw [State.setSensor_sensor_ne _ _ _ _ hm]

/-- The entries of the parts that the sensors `regs` register, the first of them with part number `k` after the counter. -/
def entriesOf (s : State) (regs : List SensorIx) (k : Nat) : List TrigEntry :=
  (regs.zipIdx k).flatMap (fun (n, j) => planTriggers n (s.trq.partCounter + BitVec.ofNat 32 j) (List.finRange 16) s)

/-- Sensors sampled in order: those that register, and those that see no transition. -/
theorem Registered.samples {lines : BitVec 4} {regs : List SensorIx} {s : State} (hdir : s.bpt.lastDir = .forward)
    (hregs : ∀ n ∈ regs, Registers lines s n) (hquiet : ∀ m, m ∉ regs → lines.getLsbD m.val = (s.sensor m).filter.level)
    {l : List SensorIx} (hnodup : l.Nodup) {es : List TrigEntry} {k : Nat} {t : State} (h : Registered es k s t)
    (hsame : ∀ m ∈ l, t.sensor m = s.sensor m) :
    Registered (es ++ entriesOf s (l.filter (· ∈ regs)) k) (k + (l.filter (· ∈ regs)).length) s (Machine.samples lines l t) ∧
      ∀ m, (Machine.samples lines l t).sensor m =
        if m ∈ l then
          (if m ∈ regs then (s.sensor m).registered (lines.getLsbD m.val) s.finePos else (s.sensor m).quiet)
        else t.sensor m := by
  induction l generalizing es k t with
  | nil =>
    refine ⟨?_, fun m => (if_neg List.not_mem_nil).symm⟩
    rw [List.filter_nil, entriesOf, List.zipIdx_nil, List.flatMap_nil, List.append_nil]
    exact h
  | cons n rest ih =>
    obtain ⟨hn, hrest⟩ := List.nodup_cons.1 hnodup
    have hne (m : SensorIx) (hm : m ∈ rest) : m ≠ n := fun heq => hn (heq ▸ hm)
    have hn' := hsame n List.mem_cons_self
    have hfold : Machine.samples lines (n :: rest) t = Machine.samples lines rest (sampleSensor n (lines.getLsbD n.val) t) := rfl
    rw [hfold]
    by_cases hmem : n ∈ regs
    · obtain ⟨hreg, hsensors⟩ := h.sample hdir (hregs n hmem) hn'
      obtain ⟨hfin, hall⟩ := ih hrest hreg fun m hm => by
        rw [hsensors, if_neg (hne m hm)]
        exact hsame m (List.mem_cons_of_mem _ hm)
      rw [List.filter_cons_of_pos (by simpa using hmem), entriesOf, List.zipIdx_cons, List.flatMap_cons, List.length_cons]
      rw [List.append_assoc, Nat.add_assoc, Nat.add_comm 1] at hfin
      refine ⟨hfin, fun m => ?_⟩
      rw [hall, hsensors]
      by_cases hm : m = n
      · subst hm
        simp [hn, hmem]
      · simp [hm]
    · have hsample := sampleSensor_same (n := n) (b := lines.getLsbD n.val) (s := t) (by rw [hn']; exact hquiet n hmem)
      rw [hsample, hn']
      obtain ⟨hfin, hall⟩ := ih hrest (h.setSensor n (s.sensor n).quiet) fun m hm => by
        rw [State.setSensor_sensor_ne _ _ _ _ (hne m hm)]
        exact hsame m (List.mem_cons_of_mem _ hm)
      rw [List.filter_cons_of_neg (by simpa using hmem)]
      refine ⟨hfin, fun m => ?_⟩
      rw [hall, State.setSensor_sensor]
      by_cases hm : m = n
      · subst hm
        simp [hn, hmem]
      · simp [hm]

/-- Sensors in ascending number are those of all four that are among them. -/
theorem filter_mem_sensors {regs : List SensorIx} (h : regs.Pairwise (· < ·)) : (List.finRange 4).filter (· ∈ regs) = regs := by
  have hsorted : ((List.finRange 4).filter (· ∈ regs)).Pairwise (· < ·) := (List.sortedLT_finRange 4).pairwise.filter _
  refine List.Perm.eq_of_pairwise' hsorted h ?_
  rw [List.perm_ext_iff_of_nodup (hsorted.imp (fun hlt => hlt.ne)) (h.imp (fun hlt => hlt.ne))]
  simp

theorem tickStages_still (s : State) : (tickStages s).still = s.still := (congrArg State.still (tickStages_rest s) :)

theorem tickStages_cbm (s : State) : (tickStages s).cbm = s.cbm := (congrArg State.cbm (tickStages_rest s) :)

theorem tickStages_cpr (s : State) : (tickStages s).cpr = s.cpr := (congrArg State.cpr (tickStages_rest s) :)

/-- The account of a tick's registrations, read block by block, once the stages have counted. -/
theorem Registered.rest {es : List TrigEntry} {k : Nat} {s u : State} (h : Registered es k s u) :
    (tickStages u).withReportsOf s = { s with
      trq := { s.trq with
        partCounter := s.trq.partCounter + BitVec.ofNat 32 k
        partsRegistered := s.trq.partsRegistered + BitVec.ofNat 32 k
        triggersFailed := s.trq.triggersFailed + BitVec.ofNat 32 (es.drop s.room).length
        queue := (tickStages u).trq.queue, sensors := (tickStages u).trq.sensors, stages := (tickStages u).trq.stages }
      cpr := (tickStages u).cpr, cbm := (tickStages u).cbm } := by
  have hstill := (tickStages_still u).trans h.still
  simp only [State.still, Prod.mk.injEq] at hstill
  obtain ⟨hbpt, hxcr, hflk, hscd, hccr, hlvc, hpending⟩ := hstill
  refine State.ext_blocks hbpt ?_ rfl hxcr rfl hflk hscd rfl hccr rfl hlvc hpending
  have htrq := tickStages_trq u
  rw [h.trq] at htrq
  rw [withReportsOf_trq, htrq]

theorem Registered.queue {es : List TrigEntry} {k : Nat} {s u : State} (h : Registered es k s u) :
    (tickStages u).trq.queue = insertEntries s.finePos (es.take s.room) s.trq.queue := by
  rw [tickStages_trq, h.trq]

/-- Registrations of which no entry is refused (R31). -/
theorem Registered.none_refused {es : List TrigEntry} {k : Nat} {s u : State} (h : Registered es k s u) (hnil : es.drop s.room = []) :
    Raised (if 4294967296 ≤ s.trq.partsRegistered.toNat + k then [.trqWrap] else []) s (tickStages u) ∧ (tickStages u).cpr = s.cpr ∧
      (tickStages u).cbm = s.cbm := by
  have hrecords := h.records
  rw [hnil] at hrecords
  refine ⟨(h.quiet hnil).congr rfl rfl (tickStages_evu u) (tickStages_mge u), ?_, ?_⟩
  · rw [tickStages_cpr]
    refine cpr_ext fun p => ?_
    simp [hrecords.port]
  · rw [tickStages_cbm, hrecords.cbm]
    rfl

/-- Settles O12: the registrations' account at the end of the sensors' sampling, read clause by clause. -/
theorem partRegistered : Obligations.PartRegistered := by
  intro s regs lines hsorted hrun hdir hquiet hregs entries kept refused bound distance
  have hregisters (n : SensorIx) (hn : n ∈ regs) : Registers lines s n := by
    obtain ⟨hdiff, hrunlen, hen, htrans, hfree⟩ := hregs n hn
    refine ⟨hdiff, hrunlen, ⟨hrun, hen, htrans⟩, fun hlocked => ?_⟩
    obtain ⟨last, hlast, hlt⟩ := (lockedOut_iff _ _).1 hlocked
    exact absurd hlt (Nat.not_lt.2 (hfree last hlast))
  obtain ⟨hreg, hsensors⟩ := (Registered.refl s).samples hdir hregisters hquiet (List.nodup_finRange 4) fun _ _ => rfl
  rw [filter_mem_sensors hsorted, List.nil_append, Nat.zero_add] at hreg
  change Registered entries regs.length s (sampleAll lines s) at hreg
  have hsensor (m : SensorIx) : (tickStages (sampleAll lines s)).sensor m =
      if m ∈ regs then (s.sensor m).registered (lines.getLsbD m.val) s.finePos else (s.sensor m).quiet := by
    rw [tickStages_sensor]
    exact (hsensors m).trans (if_pos (List.mem_finRange m))
  refine ⟨_, exec_triggerTick lines s, hreg.rest, fun n hn => ?_, fun m hm => ?_, ?_, fun hordered => ?_, hreg.none_refused, ?_,
    fun p => ?_, fun f htrq hcam => ?_⟩
  · rw [hsensor, if_pos hn]
    rfl
  · rw [hsensor, if_neg hm]
    rfl
  · rw [hreg.queue]
    exact insertEntries_perm ..
  · rw [hreg.queue]
    exact Ordered.insertEntries hordered kept
  · rw [tickStages_cbm]
    exact hreg.records.cbm
  · rw [State.port, tickStages_cpr]
    exact hreg.records.port p
  · rw [tickStages_evu]
    exact hreg.factors f htrq hcam

end Sys2Proof.Machine
end

section
/-! PROOFS. SET_LEVEL (O46). -/

namespace Sys2Proof.Machine

/-! ### The queued triggers closed (R41) -/

/-- From `s` to `t`, the queued triggers `es` of `s` have been closed with LEVEL_DOWN. -/
structure Dropped (es : List TrigEntry) (s t : State) : Prop where
  records : RecordsOf 7 es s t
  trq : t.trq = { s.trq with queue := t.trq.queue, triggersFailed := s.trq.triggersFailed + BitVec.ofNat 32 es.length }
  bpt : t.bpt = s.bpt

theorem dropTriggers_dropped {es : List TrigEntry} {s t : State} (h : Dropped es s t) (q : List TrigEntry) :
    Dropped (es ++ q) s (dropTriggers q t) := by
  induction q generalizing es t with
  | nil =>
    rw [List.append_nil]
    exact ⟨h.records.congr rfl rfl, by rw [dropTriggers, State.setTrigQueue, h.trq], h.bpt⟩
  | cons e rest ih =>
    have hline : (streamCheck e (t.setTrigQueue rest)).lineTime = s.lineTime := by
      rw [streamCheck_lineTime, State.setTrigQueue_lineTime, State.lineTime, h.bpt]
      rfl
    have hbefore : RecordsOf Cause.levelDown.code es s (streamCheck e (t.setTrigQueue rest)) :=
      h.records.congr (streamCheck_cbm ..) (streamCheck_cpr ..)
    have hstep := hbefore.failTrigger hline e
    rw [← h.records.sameSetup.checkedStream e] at hstep
    have hdropped : Dropped (es ++ [e]) s (failTrigger e (checkedStream e t) .levelDown (streamCheck e (t.setTrigQueue rest))) := by
      refine ⟨hstep, ?_, by rw [failTrigger_bpt, streamCheck_bpt, State.setTrigQueue_bpt, h.bpt]⟩
      rw [failTrigger_trq, streamCheck_trq, State.setTrigQueue, h.trq, List.length_append, List.length_singleton, BitVec.ofNat_add,
        ← BitVec.add_assoc]
      rfl
    have hrest := ih hdropped
    rwa [List.append_assoc] at hrest

/-- What the closing of the queued triggers leaves alone. -/
theorem dropTriggers_still (q : List TrigEntry) (s : State) :
    (dropTriggers q s).still = s.still ∧ (dropTriggers q s).mge.requests = s.mge.requests := by
  induction q generalizing s with
  | nil => exact ⟨rfl, rfl⟩
  | cons e rest ih =>
    obtain ⟨hstill, hrequests⟩ := ih (failTrigger e (checkedStream e s) .levelDown (streamCheck e (s.setTrigQueue rest)))
    rw [dropTriggers, hstill, hrequests]
    simp [State.still]

/-! ### RUN left (R193) -/

/-- The start of EMPTYING toward `x` (R193). -/
def leaveRun (x : Level) (s : State) : State :=
  let t := dropTriggers s.trq.queue { s with lvc := { s.lvc with level := .emptying, target := some x } }
  { t with lvc := { t.lvc with drain := some (deadlineIn t.lvc.drainLimit t) } }

theorem beginTransition_run {x : Level} {s : State} (h : s.lvc.level = .run) : beginTransition x s = leaveRun x s := by
  rw [beginTransition, h]
  rfl

theorem leaveRun_dropped (x : Level) (s : State) : Dropped s.trq.queue s (leaveRun x s) := by
  have hbase : Dropped [] s { s with lvc := { s.lvc with level := .emptying, target := some x } } :=
    ⟨(RecordsOf.refl 7 s).congr rfl rfl, by simp, rfl⟩
  obtain ⟨hrecords, htrq, hbpt⟩ := dropTriggers_dropped hbase s.trq.queue
  exact ⟨hrecords.congr rfl rfl, htrq, hbpt⟩

theorem leaveRun_queue (x : Level) (s : State) : (leaveRun x s).trq.queue = [] := dropTriggers_queue ..

/-- The blocks beside TRQ, CPR, CBM, EVU and MGE after RUN has been left. -/
theorem leaveRun_rest (x : Level) (s : State) :
    (leaveRun x s).still = { s with lvc := { s.lvc with
        level := .emptying, target := some x
        drain := some (s.bpt.lineTime + BitVec.ofNat 48 (s.lvc.drainLimit.toNat * 100000)) } }.still ∧
      (leaveRun x s).mge.requests = s.mge.requests := by
  obtain ⟨hstill, hrequests⟩ := dropTriggers_still s.trq.queue { s with lvc := { s.lvc with level := .emptying, target := some x } }
  refine ⟨?_, hrequests⟩
  simp only [State.still, Prod.mk.injEq] at hstill
  obtain ⟨hbpt, hxcr, hflk, hscd, hccr, hlvc, hpending⟩ := hstill
  simp only [leaveRun, State.still, deadlineIn, State.lineTime, hbpt, hxcr, hflk, hscd, hccr, hlvc, hpending]
  rfl

theorem handMissing_cbm_congr (records : List (StreamIx × List Byte)) {s v : State} (h : s.cbm = v.cbm) :
    (handMissing records s).cbm = (handMissing records v).cbm := by
  induction records using List.reverseRecOn with
  | nil => exact h
  | append_singleton records r ih =>
    have hstream : (handMissing records s).stream r.1 = (handMissing records v).stream r.1 := by rw [State.stream, State.stream, ih]
    rw [handMissing_append, handMissing_append, hstream]
    exact handRecord_cbm_congr ih ..

theorem failTrigger_went_code {cause : Cause} {code : Byte} (hcode : cause.code = code) (e : TrigEntry) (i : StreamIx) (s : State) :
    RecordWent i .missing (triggerMissing e code s.lineTime) (s.stream i).frameCounter false s (failTrigger e i cause s) := by
  subst hcode
  exact failTrigger_went e i cause s

/-- The record of the only queued trigger. -/
theorem dropTriggers_one_went (e : TrigEntry) (s : State) :
    RecordWent (checkedStream e s) .missing (triggerMissing e 7 s.lineTime) (s.stream (checkedStream e s)).frameCounter false s
      (dropTriggers [e] s) := by
  have hwent := failTrigger_went_code (cause := .levelDown) (code := 7) rfl e (checkedStream e s) (streamCheck e (s.setTrigQueue []))
  rw [streamCheck_lineTime, streamCheck_stream, State.setTrigQueue_lineTime, State.setTrigQueue_stream] at hwent
  have hcbm : (dropTriggers [e] s).cbm = (failTrigger e (checkedStream e s) .levelDown (streamCheck e (s.setTrigQueue []))).cbm := by
    rw [dropTriggers, dropTriggers, State.setTrigQueue_cbm]
  have hevu : (dropTriggers [e] s).evu = (failTrigger e (checkedStream e s) .levelDown (streamCheck e (s.setTrigQueue []))).evu := by
    rw [dropTriggers, dropTriggers, State.setTrigQueue_evu]
  refine hwent.congr (by rw [streamCheck_cbm, State.setTrigQueue_cbm]) hcbm ?_
  rw [hevu]
  exact id

theorem leaveRun_went {x : Level} {s : State} {e : TrigEntry} (h : s.trq.queue = [e]) :
    RecordWent (checkedStream e s) .missing (triggerMissing e 7 s.lineTime) (s.stream (checkedStream e s)).frameCounter false s
      (leaveRun x s) := by
  have hwent := dropTriggers_one_went e { s with lvc := { s.lvc with level := .emptying, target := some x } }
  rw [← h] at hwent
  exact hwent.congr rfl rfl id

/-! ### The request (R193) -/

theorem exec_setLevel {s : State} {r : Request} {rest : List Request} (h : s.offers r rest) (hop : reqOp r = 9) :
    exec .setLevel s = .next (placeResponse false r (answerSetLevel r (s.popped rest))) :=
  congrArg Host.Outcome.next (takeRow_op h false hop answerSetLevel)

/-- The codes of the three settled levels (R122). -/
theorem ofCode_of_mem {n : Nat} {x : Level} (h : (n, x) ∈ [(0, Level.listen), (1, .standby), (2, .run)]) : Level.ofCode n = some x := by
  simp only [List.mem_cons, Prod.mk.injEq, List.not_mem_nil, or_false] at h
  obtain ⟨rfl, rfl⟩ | ⟨rfl, rfl⟩ | ⟨rfl, rfl⟩ := h <;> rfl

theorem ofCode_of_three_le {n : Nat} (h : 3 ≤ n) : Level.ofCode n = none := by
  match n, h with
  | n + 3, _ => rfl

/-- A SET_LEVEL at a settled level whose target has a code. -/
theorem answerSetLevel_target {r : Request} {s : State} {x : Level} (hsettled : s.lvc.level.settled = true)
    (hx : Level.ofCode (reqNat r 2) = some x) :
    answerSetLevel r s = okay (if x = s.lvc.level then setFactor .ctlLevelReached s else beginTransition x s) := by
  rw [answerSetLevel, hsettled, hx]
  rfl

theorem Level.settled_iff (x : Level) : x.settled = true ↔ x ∈ [Level.listen, .standby, .run] := by
  cases x <;> decide

theorem Level.not_settled_iff (x : Level) : x.settled = false ↔ x ∈ [Level.powering, .emptying, .shutting] := by
  cases x <;> decide

/-- Settles O46: the answer of LVC to each target at each settled level. -/
theorem setLevelRequest : Obligations.SetLevelRequest := by
  intro s r rest hoffer hop target codes reaches
  have hexec := exec_setLevel hoffer hop
  have hanswer {x : Level} (hsettled : s.lvc.level ∈ [Level.listen, .standby, .run]) (hx : (target, x) ∈ codes) :
      exec .setLevel s = .next ((if x = s.lvc.level then setFactor .ctlLevelReached (s.popped rest)
        else beginTransition x (s.popped rest)).placed (reply r 0)) := by
    rw [hexec, answerSetLevel_target (s := s.popped rest) ((Level.settled_iff _).2 hsettled) (ofCode_of_mem hx), placeResponse_okay]
    rfl
  refine ⟨fun hbusy => ?_, fun hsettled hcode => ?_, fun hsame => ?_, fun x hlevel hx hne => ?_, fun hlevel hx => ?_, fun hlevel hx => ?_,
    fun x hlevel hx hne => ?_⟩
  · have hfalse : (s.popped rest).lvc.level.settled = false := (Level.not_settled_iff _).2 hbusy
    rw [hexec, answerSetLevel, hfalse]
    exact congrArg Host.Outcome.next (placeResponse_refuse r .busy _ nofun)
  · have htrue : (s.popped rest).lvc.level.settled = true := (Level.settled_iff _).2 hsettled
    rw [hexec, answerSetLevel, htrue, ofCode_of_three_le hcode]
    exact congrArg Host.Outcome.next (placeResponse_refuse r .badValue _ nofun)
  · have hsettled : s.lvc.level ∈ [Level.listen, .standby, .run] := by
      simp only [codes, List.mem_cons, Prod.mk.injEq, List.not_mem_nil, or_false] at hsame
      simp only [List.mem_cons, List.not_mem_nil, or_false]
      tauto
    refine ⟨_, (hanswer hsettled hsame).trans (by rw [if_pos rfl]), setFactor_raised .ctlLevelReached _, ?_⟩
    rw [setFactor_withReports, if_pos rfl]
    rfl
  · have hbegin : beginTransition x (s.popped rest) = { s.popped rest with lvc := { s.lvc with
        level := .powering, target := some x, power := true
        settle := some (s.bpt.lineTime + BitVec.ofNat 48 (s.lvc.powerSettle.toNat * 100000)) } } := by
      rw [beginTransition, State.popped_lvc, hlevel]
      rfl
    rw [hanswer (by simp [hlevel]) hx, if_neg (by rw [hlevel]; exact hne), hbegin]
    rfl
  · have hbegin : beginTransition .run (s.popped rest) = arrive .run (s.popped rest) := by
      rw [beginTransition, State.popped_lvc, hlevel]
      rfl
    obtain ⟨hraised, hrest⟩ := arrive_spec .run (s.popped rest)
    simp only [reaches]
    rw [hanswer (x := .run) (by simp [hlevel]) (by simp [codes, hx]), if_neg (by rw [hlevel]; nofun), hbegin]
    refine ⟨_, rfl, hraised, ?_⟩
    rw [hrest, if_neg (by rw [hlevel]; nofun)]
    rfl
  · have hbegin : beginTransition .listen (s.popped rest) = enterShutting (s.popped rest) := by
      rw [beginTransition, State.popped_lvc, hlevel]
      rfl
    rw [hanswer (x := .listen) (by simp [hlevel]) (by simp [codes, hx]), if_neg (by rw [hlevel]; nofun), hbegin]
    exact ⟨_, rfl, relayShut_abortMarking rfl, rfl⟩
  · rw [hanswer (by simp [hlevel]) hx, if_neg (by rw [hlevel]; exact hne),
      beginTransition_run (s := s.popped rest) hlevel]
    obtain ⟨hrecords, htrq, hbpt⟩ := leaveRun_dropped x (s.popped rest)
    have hqueue := leaveRun_queue x (s.popped rest)
    obtain ⟨hstill, hrequests⟩ := leaveRun_rest x (s.popped rest)
    have hwent (e : TrigEntry) (he : s.trq.queue = [e]) := leaveRun_went (x := x) (s := s.popped rest) he
    refine ⟨leaveRun x (s.popped rest), rfl, hrequests, ?_, ?_, hrecords.port, ?_, hbpt, ?_, ?_, ?_, fun e he => ?_, ?_⟩
    · exact congrArg (fun y => y.2.2.2.2.2.1) hstill
    · rw [htrq, hqueue]
      rfl
    · exact congrArg (fun y => y.2.1) hstill
    · exact congrArg (fun y => y.2.2.1) hstill
    · exact congrArg (fun y => y.2.2.2.1) hstill
    · exact congrArg (fun y => y.2.2.2.2.1) hstill
    · exact (hwent e he).congr rfl rfl id
    · rw [hrecords.cbm]
      exact handMissing_cbm_congr _ rfl

end Sys2Proof.Machine
end

section
/-! PROOFS. WRITE to PLAN, STREAM, CAL_SHADOW, LEVEL, LINK, CAL_ACTIVE and no table (O39). -/

namespace Sys2Proof.Machine

/-! ### The row and its tables (R154) -/

theorem writesPlain_of {r : Request} (hop : reqOp r = 2) (ht : reqTable r ∈ [1, 3, 4, 5, 9, 10] ∨ 12 ≤ reqTable r) :
    writesPlain r = true := by
  have hother : reqTable r ∉ [0, 2, 6, 7, 8, 11] := by
    simp only [List.mem_cons, List.not_mem_nil, or_false] at ht ⊢
    omega
  rw [writesPlain, Bool.and_eq_true, beq_iff_eq, Bool.not_eq_true', List.contains_eq_mem, decide_eq_false_iff_not]
  exact ⟨hop, hother⟩

theorem exec_write {s : State} {r : Request} {rest : List Request} (h : s.offers r rest) (hop : reqOp r = 2)
    (ht : reqTable r ∈ [1, 3, 4, 5, 9, 10] ∨ 12 ≤ reqTable r) :
    exec .write s = .next (placeResponse false r (answerWritePlain r (s.popped rest))) :=
  congrArg Host.Outcome.next (takeRow_offers h false (writesPlain_of hop ht) answerWritePlain)

/-- A WRITE that its table refuses. -/
theorem exec_write_refuse {s : State} {r : Request} {rest : List Request} (h : s.offers r rest) (hop : reqOp r = 2)
    (ht : reqTable r ∈ [1, 3, 4, 5, 9, 10] ∨ 12 ≤ reqTable r) (x : Status) (hx : x ≠ .ok)
    (hanswer : answerWritePlain r (s.popped rest) = refuse x (s.popped rest)) :
    exec .write s = .next (s.answered rest (reply r x.code)) := by
  rw [exec_write h hop ht, hanswer, placeResponse_refuse r x _ hx]
  rfl

/-- A WRITE that its table carries out. -/
theorem exec_write_okay {s t : State} {r : Request} {rest : List Request} (h : s.offers r rest) (hop : reqOp r = 2)
    (ht : reqTable r ∈ [1, 3, 4, 5, 9, 10] ∨ 12 ≤ reqTable r) (hanswer : answerWritePlain r (s.popped rest) = okay (t.popped rest)) :
    exec .write s = .next (t.answered rest (reply r 0)) := by
  rw [exec_write h hop ht, hanswer, placeResponse_okay]
  rfl

theorem answerWritePlain_no_table {r : Request} (h : 12 ≤ reqTable r) (s : State) : answerWritePlain r s = refuse .badTable s := by
  unfold answerWritePlain
  split
  case h_7 => rfl
  all_goals omega

/-! ### What a WRITE stores in each table -/

theorem portOf_eq : portOf = Fin.ofNat 6 := rfl
theorem sensorOf_eq : sensorOf = Fin.ofNat 4 := rfl

theorem storePlan_reqFields (r : Request) (x : PlanEntry) :
    storePlan (reqFields [1, 1, 1, 4, 1, 2, 1] r) x =
      { enabled := newField [1, 1, 1, 4, 1, 2, 1] r 0 x.enabled (fun v => v == 1)
        sensor := newField [1, 1, 1, 4, 1, 2, 1] r 1 x.sensor (Fin.ofNat 4)
        port := newField [1, 1, 1, 4, 1, 2, 1] r 2 x.port (Fin.ofNat 6)
        offset := newField [1, 1, 1, 4, 1, 2, 1] r 3 x.offset (fun v => BitVec.ofNat 32 (max 1 (min 2147483648 v)))
        stream := newField [1, 1, 1, 4, 1, 2, 1] r 4 x.stream (Fin.ofNat 16)
        width := newField [1, 1, 1, 4, 1, 2, 1] r 5 x.width (fun v => BitVec.ofNat 16 (max 1 v))
        tag := newField [1, 1, 1, 4, 1, 2, 1] r 6 x.tag (BitVec.ofNat 8) } := by
  simp [storePlan, stored_reqFields, newField_clamp16, streamOf_eq, portOf_eq, sensorOf_eq]
  rfl

theorem storeStream_reqFields (r : Request) (x : Stream) :
    storeStream (reqFields [1, 2, 1, 1] r) x =
      { x with
        boundPort := newField [1, 2, 1, 1] r 0 x.boundPort (Fin.ofNat 6)
        reservation := newField [1, 2, 1, 1] r 1 x.reservation (fun v => BitVec.ofNat 16 (max 1 v))
        maxHeld := newField [1, 2, 1, 1] r 2 x.maxHeld (fun v => BitVec.ofNat 8 (max 1 v))
        spare := newField [1, 2, 1, 1] r 3 x.spare (fun v => v == 1) } := by
  simp [storeStream, stored_reqFields, newField_clamp16, newField_clamp8, portOf_eq]

theorem answerWritePlan_at {r : Request} {i : PlanIx} (h : reqIndex r = i.val) (s : State) :
    answerWritePlan r s =
      if !maskBelow 7 r || !fieldAtMost (reqFields [1, 1, 1, 4, 1, 2, 1] r) 0 1 || !fieldAtMost (reqFields [1, 1, 1, 4, 1, 2, 1] r) 1 3 ||
          !fieldAtMost (reqFields [1, 1, 1, 4, 1, 2, 1] r) 2 5 || !fieldAtMost (reqFields [1, 1, 1, 4, 1, 2, 1] r) 4 15 then
        refuse .badValue s
      else okay (s.setPlanEntry i (storePlan (reqFields [1, 1, 1, 4, 1, 2, 1] r) (s.planEntry i))) := by
  have hlt : reqIndex r < 16 := h ▸ i.isLt
  have hi : (⟨reqIndex r, hlt⟩ : PlanIx) = i := Fin.ext h
  rw [answerWritePlan, dif_pos hlt, hi]

theorem answerWriteStream_at {r : Request} {i : StreamIx} (h : reqIndex r = i.val) (s : State) :
    answerWriteStream r s =
      if (s.stream i).state ≠ .closed then refuse .state s
      else if !maskBelow 4 r || !fieldAtMost (reqFields [1, 2, 1, 1] r) 0 5 || !fieldAtMost (reqFields [1, 2, 1, 1] r) 3 1 then
        refuse .badValue s
      else okay (s.setStream i (storeStream (reqFields [1, 2, 1, 1] r) (s.stream i))) := by
  have hlt : reqIndex r < 16 := h ▸ i.isLt
  have hi : (⟨reqIndex r, hlt⟩ : StreamIx) = i := Fin.ext h
  rw [answerWriteStream, dif_pos hlt, hi]

/-- A slot of the shadow calendar after a WRITE that may or may not carry it (R143). -/
theorem storeShadow_reqFields {r : Request} {n : Fin 256} (h : reqIndex r = n.val) (s : State) :
    stored (reqFields [1] r) 0 s (fun v => setShadow (reqIndex r) (Slot.ofCode v) s) =
      { s with scd := { s.scd with shadow := s.scd.shadow.set n (newField [1] r 0 s.scd.shadow[n]
        (fun v => if h : v < 16 then .stream ⟨v, h⟩ else if v = 16 then .mgmt else .none)) } } := by
  have hmod : n.val % 256 = n.val := Nat.mod_eq_of_lt n.isLt
  rw [stored_reqFields [1] r 0 (by decide), h]
  unfold newField
  split
  · simp only [setShadow, hmod]
    rfl
  · simp

/-- Settles O39, table by table and check by check. -/
theorem otherTablesWritten : Obligations.OtherTablesWritten := by
  intro s r rest hoffer hop mask answers
  have refused (x : Status) (hx : x ≠ .ok) (ht) (hanswer) : answers s x.code := exec_write_refuse hoffer hop ht x hx hanswer
  have stored {t : State} (ht) (hanswer : _ = okay (t.popped rest)) : answers t 0 := exec_write_okay hoffer hop ht hanswer
  refine ⟨fun ht => ?_, fun ht => ?_, fun ht => ?_, fun ht => ?_, fun ht => ?_, fun ht => ?_, fun ht => ?_⟩
  · exact refused .badTable nofun (.inr ht) (answerWritePlain_no_table ht _)
  · intro w good
    have hgood : (!maskBelow 7 r || !fieldAtMost (reqFields w r) 0 1 || !fieldAtMost (reqFields w r) 1 3 ||
        !fieldAtMost (reqFields w r) 2 5 || !fieldAtMost (reqFields w r) 4 15) = true ↔ ¬ good := by
      simp only [good, Bool.or_eq_true, not_maskBelow, not_fieldAtMost w r 0 1 (by decide), not_fieldAtMost w r 1 3 (by decide),
        not_fieldAtMost w r 2 5 (by decide), not_fieldAtMost w r 4 15 (by decide), not_and_or, or_assoc]
      rfl
    have htable : reqTable r ∈ [1, 3, 4, 5, 9, 10] ∨ 12 ≤ reqTable r := by simp [ht]
    have hplan (t : State) : answerWritePlain r t = answerWritePlan r t := by simp only [answerWritePlain, ht]
    refine ⟨fun hi => ?_, fun i hi => ⟨fun hbad => ?_, fun hok => ?_⟩⟩
    · exact refused .badIndex nofun htable (by rw [hplan, answerWritePlan, dif_neg (Nat.not_lt.2 hi)])
    · exact refused .badValue nofun htable (by rw [hplan, answerWritePlan_at hi, if_pos (hgood.2 hbad)])
    · exact stored htable (by rw [hplan, answerWritePlan_at hi, if_neg (mt hgood.1 (not_not.2 hok)), storePlan_reqFields]; rfl)
  · intro w good
    have hgood : (!maskBelow 4 r || !fieldAtMost (reqFields w r) 0 5 || !fieldAtMost (reqFields w r) 3 1) = true ↔ ¬ good := by
      simp only [good, Bool.or_eq_true, not_maskBelow, not_fieldAtMost w r 0 5 (by decide), not_fieldAtMost w r 3 1 (by decide),
        not_and_or, or_assoc]
      rfl
    have htable : reqTable r ∈ [1, 3, 4, 5, 9, 10] ∨ 12 ≤ reqTable r := by simp [ht]
    have hstream (t : State) : answerWritePlain r t = answerWriteStream r t := by simp only [answerWritePlain, ht]
    refine ⟨fun hi => ?_, fun i hi => ⟨fun hopen => ?_, fun hclosed hbad => ?_, fun hclosed hok => ?_⟩⟩
    · exact refused .badIndex nofun htable (by rw [hstream, answerWriteStream, dif_neg (Nat.not_lt.2 hi)])
    · exact refused .state nofun htable (by rw [hstream, answerWriteStream_at hi]; exact if_pos hopen)
    · exact refused .badValue nofun htable
        (by rw [hstream, answerWriteStream_at hi]; exact (if_neg (not_not.2 hclosed)).trans (if_pos (hgood.2 hbad)))
    · exact stored htable (by
        rw [hstream, answerWriteStream_at hi, storeStream_reqFields]
        exact (if_neg (not_not.2 hclosed)).trans (if_neg (mt hgood.1 (not_not.2 hok))))
  · intro good
    have hgood : (!maskBelow 1 r || !fieldAtMost (reqFields [1] r) 0 17) = true ↔ ¬ good := by
      simp only [good, Bool.or_eq_true, not_maskBelow, not_fieldAtMost [1] r 0 17 (by decide), not_and_or]
      rfl
    have htable : reqTable r ∈ [1, 3, 4, 5, 9, 10] ∨ 12 ≤ reqTable r := by simp [ht]
    have hshadow (t : State) : answerWritePlain r t = answerWriteShadow r t := by simp only [answerWritePlain, ht]
    refine ⟨fun hswap => ?_, fun hswap hbad => ?_, fun hswap hok n hn => ?_⟩
    · exact refused .busy nofun htable (by rw [hshadow, answerWriteShadow]; exact if_pos hswap)
    · exact refused .badValue nofun htable
        (by rw [hshadow, answerWriteShadow]; exact (if_neg (ne_true_of_eq_false hswap)).trans (if_pos (hgood.2 hbad)))
    · exact stored htable (by
        rw [hshadow, answerWriteShadow, storeShadow_reqFields hn]
        exact (if_neg (ne_true_of_eq_false hswap)).trans (if_neg (mt hgood.1 (not_not.2 hok))))
  · exact refused .activeTable nofun (by simp [ht]) (by simp only [answerWritePlain, ht])
  · have hmask : (!maskBelow 2 r) = true ↔ 4 ≤ mask := (not_maskBelow 2 r).trans Nat.not_lt
    have htable : reqTable r ∈ [1, 3, 4, 5, 9, 10] ∨ 12 ≤ reqTable r := by simp [ht]
    have hlevel (t : State) : answerWritePlain r t = answerWriteLevel r t := by simp only [answerWritePlain, ht]
    refine ⟨fun hi => ?_, fun hi hbad => ?_, fun hi hok => ?_⟩
    · exact refused .badIndex nofun htable (by rw [hlevel, answerWriteLevel, if_pos hi])
    · exact refused .badValue nofun htable (by rw [hlevel, answerWriteLevel, if_neg (not_not.2 hi), if_pos (hmask.2 hbad)])
    · exact stored htable (by
        rw [hlevel, answerWriteLevel, if_neg (not_not.2 hi), if_neg (mt hmask.1 (Nat.not_le.2 hok)),
          stored_reqFields [1, 1] r 0 (by decide), stored_reqFields [1, 1] r 1 (by decide), newField_clamp8 _ _ _ _ rfl,
          newField_clamp8 _ _ _ _ rfl]
        rfl)
  · have hmask : (!maskBelow 1 r) = true ↔ 2 ≤ mask := (not_maskBelow 1 r).trans Nat.not_lt
    have htable : reqTable r ∈ [1, 3, 4, 5, 9, 10] ∨ 12 ≤ reqTable r := by simp [ht]
    have hlink (t : State) : answerWritePlain r t = answerWriteLink r t := by simp only [answerWritePlain, ht]
    refine ⟨fun hi => ?_, fun hi hbad => ?_, fun hi hok => ?_⟩
    · exact refused .badIndex nofun htable (by rw [hlink, answerWriteLink, if_pos hi])
    · exact refused .badValue nofun htable (by rw [hlink, answerWriteLink, if_neg (not_not.2 hi), if_pos (hmask.2 hbad)])
    · exact stored htable (by
        rw [hlink, answerWriteLink, if_neg (not_not.2 hi), if_neg (mt hmask.1 (Nat.not_le.2 hok)),
          stored_reqFields [1] r 0 (by decide)]
        rfl)

end Sys2Proof.Machine
end

section
/-! PROOFS. PORT_CMD: ENABLE and DISABLE (O44). -/

namespace Sys2Proof.Machine

/-! ### An Exposure List removed, whatever the cause (R74, R75, R84) -/

theorem exposureRecord_payload_code {cause : Cause} {code : Byte} (hcode : cause.code = code) (p : PortIx) (e : Exposure) (l : LineTime) :
    (exposureRecord p e cause l).payload = exposureMissing p e code l := by
  subst hcode
  rfl

/-- A closed exposure is a missing record handed over, once the port's counter has counted it. -/
theorem closeExposure_handRecord {cause : Cause} {code : Byte} (hcode : cause.code = code) (p : PortIx) (l : LineTime) (e : Exposure)
    (s : State) :
    closeExposure p cause l e s = handRecord e.stream .missing (exposureMissing p e code l) (s.stream e.stream).frameCounter false
      (countPort p Port.missing (fun x n => { x with missing := n }) s) := by
  rw [← exposureRecord_payload_code hcode, closeExposure, issueMissing, countPort_stream]
  rfl

/-- A closed exposure and its record alone. -/
theorem SameRecords.of_closeExposure {watched : Factor → Prop} {s v : State} (h : SameRecords watched s v) {cause : Cause} {code : Byte}
    (hcode : cause.code = code) (p : PortIx) (hwrap : ¬ watched (.camWrap p)) (l : LineTime) (e : Exposure) :
    SameRecords watched (closeExposure p cause l e s)
      (handRecord e.stream .missing (exposureMissing p e code l) (v.stream e.stream).frameCounter false v) := by
  have hcount : SameRecords watched (countPort p Port.missing (fun x n => { x with missing := n }) s) v := by
    refine h.raised_left (by simp) (countPort_raised p Port.missing (fun x n => { x with missing := n }) s) fun f hf => ?_
    unfold wrapsAt at hf
    split at hf <;> simp_all
  rw [closeExposure_handRecord hcode, h.stream]
  exact hcount.of_handRecord ..

/-- The removal of a list by the part and the missing records of the statement. -/
theorem SameRecords.of_removeAll_code {watched : Factor → Prop} {s v : State} (h : SameRecords watched s v) {cause : Cause} {code : Byte}
    (hcode : cause.code = code) (p : PortIx) (list : List Exposure) (hwrap : ¬ watched (.camWrap p)) :
    SameRecords watched (removeAll p cause list s) (handMissing (listMissing p list code s.lineTime) v) := by
  induction list generalizing s v with
  | nil => exact h.left rfl rfl
  | cons e rest ih =>
    have hunlisted : SameRecords watched (s.setExposures p rest) v := h.left (State.setExposures_cbm ..) (State.setExposures_evu ..)
    have hrest := ih (hunlisted.of_closeExposure hcode p hwrap s.lineTime e)
    rw [closeExposure_lineTime, State.setExposures_lineTime] at hrest
    exact hrest

theorem removeAll_requests (p : PortIx) (cause : Cause) (list : List Exposure) (s : State) :
    (removeAll p cause list s).mge.requests = s.mge.requests := by
  induction list generalizing s with
  | nil => rfl
  | cons e rest ih =>
    rw [removeAll, ih]
    simp

/-- The record of the only exposure of a list. -/
theorem removeAll_one_went {cause : Cause} {code : Byte} (hcode : cause.code = code) (p : PortIx) (x : Exposure) (s : State) :
    RecordWent x.stream .missing (exposureMissing p x code s.lineTime) (s.stream x.stream).frameCounter false s
      (removeAll p cause [x] s) := by
  have hwent := issueMissing_went x.stream (exposureRecord p x cause s.lineTime) (s.setExposures p [])
  rw [exposureRecord_payload_code hcode, State.setExposures_stream] at hwent
  exact hwent.congr (State.setExposures_cbm ..).symm (State.setExposures_cbm ..) id

/-! ### DISABLE in parts (R42, R60) -/

/-- The port off and disabled, its pulse and gap ended. -/
def quietPort (p : PortIx) (s : State) : State :=
  (s.setPort p { s.port p with enabled := false, state := .off }).setStage p (clearStage (s.port p) (s.stage p))

theorem quietPort_port (p : PortIx) (s : State) (q : PortIx) :
    (quietPort p s).port q = if q = p then { s.port p with enabled := false, state := .off } else s.port q := by
  rw [quietPort, State.setStage_port, State.setPort_port]

theorem quietPort_stage (p : PortIx) (s : State) (q : PortIx) :
    (quietPort p s).stage q = if q = p then clearStage (s.port p) (s.stage p) else s.stage q := by
  rw [quietPort, State.setStage_stage, State.setPort_stage]

/-- DISABLE at a port whose context of a frame stands just while it is IN_FRAME. -/
theorem disableSteps_of_enabled {p : PortIx} {s : State} (h : (s.port p).enabled = true)
    (hframe : (s.port p).frame.isSome = true ↔ (s.port p).state = .inFrame) :
    disableSteps p s = removeAll p .portOff (s.exposures p) (quietPort p (abortFrame p s)) := by
  have hlist : (quietPort p (abortFrame p s)).exposures p = s.exposures p := by simp [quietPort]
  have habort : (if (s.port p).state = .inFrame then abortFrame p s else s) = abortFrame p s := by
    split
    · rfl
    · rename_i hstate
      rw [abortFrame_none (Option.not_isSome_iff_eq_none.1 (mt hframe.1 hstate))]
  rw [disableSteps, if_pos h, habort, ← hlist]
  dsimp only
  rw [State.setPort_port_self]
  rfl

section
variable {p : PortIx} {s : State} (h : (s.port p).enabled = true) (hframe : (s.port p).frame.isSome = true ↔ (s.port p).state = .inFrame)
include h hframe

theorem disableSteps_exposures (q : PortIx) : (disableSteps p s).exposures q = if q = p then [] else s.exposures q := by
  rw [disableSteps_of_enabled h hframe, removeAll_exposures]
  simp [quietPort]

theorem disableSteps_port (q : PortIx) :
    (disableSteps p s).port q =
      if q = p then
        { s.port p with
          enabled := false, state := .off, frame := none
          missing := (s.port p).missing + BitVec.ofNat 32 (s.exposures p).length }
      else s.port q := by
  rw [disableSteps_of_enabled h hframe, removeAll_port]
  split
  · rw [quietPort_port, if_pos rfl, abortFrame_port, if_pos rfl]
  · rename_i hq
    rw [quietPort_port, if_neg hq, abortFrame_port, if_neg hq]

/-- The blocks beside CPR, XCR, CBM, EVU and MGE. -/
theorem disableSteps_beside : (disableSteps p s).beside = (quietPort p s).beside := by
  rw [disableSteps_of_enabled h hframe, removeAll_beside]
  simp [State.beside, quietPort, abortFrame_port, clearStage, State.setStage]

theorem disableSteps_stage (q : PortIx) :
    (disableSteps p s).stage q =
      if q = p then { s.stage p with pulse := 0, gap := 0, out := (s.port p).polarity == .activeLow } else s.stage q := by
  have htrq : (disableSteps p s).trq = (quietPort p s).trq := congrArg (fun x => x.2.1) (disableSteps_beside h hframe)
  rw [State.stage, htrq, ← State.stage, quietPort_stage, clearStage, TrigPolarity.inactiveLevel_eq]

theorem disableSteps_requests : (disableSteps p s).mge.requests = s.mge.requests := by
  rw [disableSteps_of_enabled h hframe, removeAll_requests]
  simp [quietPort]

/-- The ABORTED record and then the missing records (R57, R74). -/
theorem disableSteps_records {v : State} (hsame : SameRecords (· ≠ .camWrap p) s v) (hport : s.port p = v.port p) (hbpt : s.bpt = v.bpt) :
    SameRecords (· ≠ .camWrap p) (disableSteps p s) (handMissing (listMissing p (s.exposures p) 6 v.bpt.lineTime) (frameAborted p v)) := by
  have haborted := hsame.of_abortFrame p (by rw [hport]) (congrArg Bpt.lineTime hbpt)
  have hquiet : SameRecords (· ≠ .camWrap p) (quietPort p (abortFrame p s)) (frameAborted p v) := haborted.left rfl rfl
  have hline : (quietPort p (abortFrame p s)).lineTime = v.bpt.lineTime := by
    rw [← hbpt]
    exact abortFrame_lineTime p s
  rw [disableSteps_of_enabled h hframe, ← hline]
  exact hquiet.of_removeAll_code (cause := .portOff) rfl p _ (not_not.2 rfl)

theorem disableSteps_one_went {x : Exposure} (hstate : (s.port p).state ≠ .inFrame) (hone : s.exposures p = [x]) :
    RecordWent x.stream .missing (exposureMissing p x 6 s.lineTime) (s.stream x.stream).frameCounter false s (disableSteps p s) := by
  have hnone : (s.port p).frame = none := Option.not_isSome_iff_eq_none.1 (mt hframe.1 hstate)
  rw [disableSteps_of_enabled h hframe, abortFrame_none hnone, hone]
  exact (removeAll_one_went (cause := .portOff) (code := 6) rfl p x (quietPort p s)).congr rfl rfl id

end

theorem disableSteps_of_disabled {p : PortIx} {s : State} (h : (s.port p).enabled = false) : disableSteps p s = s := by
  simp [disableSteps, h]

/-! ### ENABLE (R59) -/

theorem Level.portsLive_iff (x : Level) : x.portsLive = true ↔ x = .standby ∨ x = .run ∨ x = .emptying ∨ x = .shutting := by
  cases x <;> decide

theorem enableSteps_of_enabled {p : PortIx} {s : State} (h : (s.port p).enabled = true) : enableSteps p s = s := by
  simp [enableSteps, h]

theorem enableSteps_of_disabled {p : PortIx} {s : State} (h : (s.port p).enabled = false) :
    enableSteps p s =
      (s.setPort p
        { s.port p with
          enabled := true
          state :=
            if (s.lvc.level = .standby ∨ s.lvc.level = .run ∨ s.lvc.level = .emptying ∨ s.lvc.level = .shutting) ∧
              (s.port p).state = .off then .idle else (s.port p).state }).setStage p { s.stage p with count := 0 } := by
  simp only [enableSteps, h, Level.portsLive_iff]
  rfl

/-! ### The command (R158) -/

theorem isPortCmd_of {a : Nat} {r : Request} (hop : reqOp r = 7) (ha : reqNat r 3 = a ∨ 2 ≤ reqNat r 3) : isPortCmd a r = true := by
  simpa [isPortCmd, opPortCmd, hop, Nat.lt_iff_add_one_le] using ha

/-- What each of the two rows of PORT_CMD does with a request that it accepts. -/
theorem exec_portCmd {a : Nat} {c : Instr} (hc : (a, c) ∈ [(0, Instr.enablePort), (1, .disablePort)]) {s : State} {r : Request}
    {rest : List Request} (h : s.offers r rest) (hop : reqOp r = 7) (ha : reqNat r 3 = a ∨ 2 ≤ reqNat r 3) :
    exec c s = .next (placeResponse false r (portCmd (if a = 0 then enableSteps else disableSteps) r (s.popped rest))) := by
  simp only [List.mem_cons, Prod.mk.injEq, List.not_mem_nil, or_false] at hc
  obtain ⟨rfl, rfl⟩ | ⟨rfl, rfl⟩ := hc
  · exact congrArg Host.Outcome.next (takeRow_offers h false (isPortCmd_of hop ha) (portCmd enableSteps))
  · exact congrArg Host.Outcome.next (takeRow_offers h false (isPortCmd_of hop ha) (portCmd disableSteps))

theorem portCmd_at {r : Request} {p : PortIx} (hp : reqNat r 2 = p.val) (ha : reqNat r 3 ≤ 1) (steps : PortIx → State → State) (s : State) :
    portCmd steps r s = okay (steps p s) := by
  have hlt : reqNat r 2 < 6 := hp ▸ p.isLt
  have hix : (⟨reqNat r 2, hlt⟩ : PortIx) = p := Fin.ext hp
  rw [portCmd, dif_pos hlt, if_neg (Nat.not_lt.2 ha), hix]

/-- Settles O44: the checks, ENABLE, and DISABLE as an abort, a quiet port and a list removed. -/
theorem portsEnabledAndDisabled : Obligations.PortsEnabledAndDisabled := by
  intro s r rest hoffer hop
  refine ⟨fun a c hc => ⟨fun hix ha => ?_, fun hix ha => ?_⟩, fun p hp => ⟨fun ha => ?_, fun ha => ?_⟩⟩
  · rw [exec_portCmd hc hoffer hop ha, portCmd, dif_neg (Nat.not_lt.2 hix), placeResponse_refuse r .badIndex _ nofun]
    rfl
  · rw [exec_portCmd hc hoffer hop (.inr ha), portCmd, dif_pos hix, if_pos (Nat.lt_of_succ_le ha), placeResponse_refuse r .badValue _ nofun]
    rfl
  · rw [exec_portCmd (a := 0) (by simp) hoffer hop (.inl ha), portCmd_at hp (by omega), placeResponse_okay, if_pos rfl]
    refine ⟨fun hen => ?_, fun hdis => ?_⟩
    · rw [enableSteps_of_enabled (s := s.popped rest) hen]
      rfl
    · rw [enableSteps_of_disabled (s := s.popped rest) hdis]
      rfl
  · rw [exec_portCmd (a := 1) (by simp) hoffer hop (.inl ha), portCmd_at hp (by omega), placeResponse_okay, if_neg (by decide)]
    refine ⟨fun hdis => ?_, fun hen hframe => ?_⟩
    · rw [disableSteps_of_disabled (s := s.popped rest) hdis]
      rfl
    · have hrecords : SameRecords (· ≠ .camWrap p) (s.popped rest) s := (SameRecords.refl s).left rfl rfl
      obtain ⟨hcbm, hfactors⟩ := disableSteps_records (s := s.popped rest) hen hframe hrecords rfl rfl
      have hbeside := disableSteps_beside (s := s.popped rest) hen hframe
      refine ⟨disableSteps p (s.popped rest), rfl, disableSteps_requests (s := s.popped rest) hen hframe, ?_, fun q hq => ?_, ?_,
        fun q hq => ?_, ?_, fun q hq => ?_, congrArg (fun x => x.1) hbeside, congrArg (fun x => x.2.2.2.2.2) hbeside,
        congrArg (fun x => x.2.2.2.2.1) hbeside, fun x hstate hone => ?_, hcbm, hfactors⟩
      · rw [disableSteps_exposures (s := s.popped rest) hen hframe, if_pos rfl]
      · rw [disableSteps_exposures (s := s.popped rest) hen hframe, if_neg hq]
        rfl
      · rw [disableSteps_stage (s := s.popped rest) hen hframe, if_pos rfl]
        rfl
      · rw [disableSteps_stage (s := s.popped rest) hen hframe, if_neg hq]
        rfl
      · rw [disableSteps_port (s := s.popped rest) hen hframe, if_pos rfl]
        rfl
      · rw [disableSteps_port (s := s.popped rest) hen hframe, if_neg hq]
        rfl
      · exact (disableSteps_one_went (s := s.popped rest) hen hframe hstate hone).congr rfl rfl id

end Sys2Proof.Machine
end

section
/-! PROOFS. What BufferLaw, StreamLaw and PortLaw see of a state, and the moves on it of which every command's work is made (O53, O55, O56). -/

namespace Sys2Proof.Machine

/-! ### The view -/

/-- What the laws see of a stream. -/
structure StreamView where
  queue : List Nat
  bound : PortIx
  state : StreamState
  inProgress : Bool

/-- What the laws see of a port; of its frame, the stream and the assembly cell. -/
structure PortView where
  frame : Option (StreamIx × Option Nat)
  state : PortState
  enabled : Bool

/-- What the laws see of a state: the free list, the streams, the ports and the cells in transmission. -/
structure LawView where
  free : List Nat
  streams : StreamIx → StreamView
  ports : PortIx → PortView
  sending : List Nat

def Stream.lawView (x : Stream) : StreamView :=
  { queue := x.queue.map QCell.index, bound := x.boundPort, state := x.state, inProgress := x.inProgress }

def FrameCtx.lawView (f : FrameCtx) : StreamIx × Option Nat := (f.stream, f.assembly.map Assembly.index)

def Port.lawView (x : Port) : PortView := { frame := x.frame.map FrameCtx.lawView, state := x.state, enabled := x.enabled }

def State.lawView (s : State) : LawView :=
  { free := freeCells s.cbm.free, streams := fun i => (s.stream i).lawView, ports := fun p => (s.port p).lawView
    sending := s.sendingCells }

def LawView.setStream (v : LawView) (i : StreamIx) (x : StreamView) : LawView := { v with streams := Function.update v.streams i x }

def LawView.setPort (v : LawView) (p : PortIx) (x : PortView) : LawView := { v with ports := Function.update v.ports p x }

@[simp] theorem LawView.setStream_free (v : LawView) (i : StreamIx) (x : StreamView) : (v.setStream i x).free = v.free := rfl
@[simp] theorem LawView.setStream_ports (v : LawView) (i : StreamIx) (x : StreamView) : (v.setStream i x).ports = v.ports := rfl
@[simp] theorem LawView.setStream_sending (v : LawView) (i : StreamIx) (x : StreamView) : (v.setStream i x).sending = v.sending := rfl
@[simp] theorem LawView.setStream_streams (v : LawView) (i : StreamIx) (x : StreamView) (j : StreamIx) :
    (v.setStream i x).streams j = if j = i then x else v.streams j := Function.update_apply ..
@[simp] theorem LawView.setPort_free (v : LawView) (p : PortIx) (x : PortView) : (v.setPort p x).free = v.free := rfl
@[simp] theorem LawView.setPort_streams (v : LawView) (p : PortIx) (x : PortView) : (v.setPort p x).streams = v.streams := rfl
@[simp] theorem LawView.setPort_sending (v : LawView) (p : PortIx) (x : PortView) : (v.setPort p x).sending = v.sending := rfl
@[simp] theorem LawView.setPort_ports (v : LawView) (p : PortIx) (x : PortView) (q : PortIx) :
    (v.setPort p x).ports q = if q = p then x else v.ports q := Function.update_apply ..

@[simp] theorem LawView.setStream_self (v : LawView) (i : StreamIx) : v.setStream i (v.streams i) = v := by
  simp [LawView.setStream]

@[simp] theorem LawView.setPort_self (v : LawView) (p : PortIx) : v.setPort p (v.ports p) = v := by
  simp [LawView.setPort]

@[simp] theorem LawView.setStream_setStream (v : LawView) (i : StreamIx) (x y : StreamView) :
    (v.setStream i x).setStream i y = v.setStream i y := by
  simp [LawView.setStream]

@[simp] theorem LawView.setPort_setPort (v : LawView) (p : PortIx) (x y : PortView) : (v.setPort p x).setPort p y = v.setPort p y := by
  simp [LawView.setPort]

/-! ### The moves -/

/-- A record is queued in the cell at the head of the free list, on a stream that is not CLOSED (R99). -/
inductive RecordMove : LawView → LawView → Prop
  | queue {v : LawView} {i : StreamIx} {k : Nat} {rest : List Nat} (free : v.free = k :: rest) (state : (v.streams i).state ≠ .closed) :
    RecordMove v ({ v with free := rest }.setStream i { v.streams i with queue := (v.streams i).queue ++ [k] })

/-- The moves of cells, frames and streams. -/
inductive Move : LawView → LawView → Prop
  | record {v w : LawView} (h : RecordMove v w) : Move v w
  /-- A drained stream closes (R106). -/
  | close {v : LawView} {i : StreamIx} (queue : (v.streams i).queue = []) (progress : (v.streams i).inProgress = false) :
    Move v (v.setStream i { v.streams i with state := .closed })
  /-- A frame's assembly cell joins its stream's queue (R95). -/
  | commit {v : LawView} {p : PortIx} {i : StreamIx} {k : Nat} (frame : (v.ports p).frame = some (i, some k)) :
    Move v ((v.setStream i { v.streams i with queue := (v.streams i).queue ++ [k] }).setPort p { v.ports p with frame := some (i, none) })
  /-- The head of the free list becomes a frame's assembly cell (R94). -/
  | fill {v : LawView} {p : PortIx} {i : StreamIx} {k : Nat} {rest : List Nat} (frame : (v.ports p).frame = some (i, none))
      (free : v.free = k :: rest) :
    Move v ({ v with free := rest }.setPort p { v.ports p with frame := some (i, some k) })
  /-- A frame is admitted (R51, R91). -/
  | start {v : LawView} {p : PortIx} {i : StreamIx} (bound : (v.streams i).bound = p) (opened : (v.streams i).state = .opened)
      (ready : (v.ports p).state ≠ .inFrame) (live : (v.ports p).state ≠ .off) :
    Move v ((v.setStream i { v.streams i with inProgress := true }).setPort p
      { v.ports p with frame := some (i, none), state := .inFrame })
  /-- A frame without an assembly cell ends (R55, R57, R58). -/
  | finish {v : LawView} {p : PortIx} {i : StreamIx} (frame : (v.ports p).frame = some (i, none)) {x : PortState} (out : x ≠ .inFrame) :
    Move v ((v.setStream i { v.streams i with inProgress := false }).setPort p { v.ports p with frame := none, state := x })
  /-- A port without a frame goes to another state, and is not raised from OFF. -/
  | park {v : LawView} {p : PortIx} (ready : (v.ports p).state ≠ .inFrame ∨ (v.ports p).frame = none) {x : PortState}
      (out : x ≠ .inFrame) (live : x ≠ .off → (v.ports p).state ≠ .off) :
    Move v (v.setPort p { v.ports p with state := x })
  /-- A port that is OFF is disabled (R60). -/
  | disable {v : LawView} {p : PortIx} (off : (v.ports p).state = .off) : Move v (v.setPort p { v.ports p with enabled := false })
  /-- The head of a queue goes into transmission (R102, R116). -/
  | send {v : LawView} {i : StreamIx} {k : Nat} {rest : List Nat} (queue : (v.streams i).queue = k :: rest) (idle : v.sending = []) :
    Move v ({ v with sending := [k] }.setStream i { v.streams i with queue := rest })
  /-- The cell in transmission returns to the free list (R102, R116). -/
  | sent {v : LawView} : Move v { v with free := v.free ++ v.sending, sending := [] }
  /-- A queue returns to the free list (R107). -/
  | flush {v : LawView} {i : StreamIx} :
    Move v ({ v with free := v.free ++ (v.streams i).queue }.setStream i { v.streams i with queue := [] })
  /-- A stream opens, or begins to drain (R105, R106). -/
  | restate {v : LawView} {i : StreamIx} {x : StreamState} (open' : x ≠ .closed) :
    Move v (v.setStream i { v.streams i with state := x })
  /-- A CLOSED stream is bound anew (R110). -/
  | rebind {v : LawView} {i : StreamIx} {p : PortIx} (closed : (v.streams i).state = .closed) :
    Move v (v.setStream i { v.streams i with bound := p })
  /-- The flag of a stream that no frame is on (R107; the flag is clear already where StreamLaw holds). -/
  | unflag {v : LawView} {i : StreamIx} (none : ∀ p a, (v.ports p).frame ≠ some (i, a)) :
    Move v (v.setStream i { v.streams i with inProgress := false })

/-- Any number of moves. -/
abbrev Moves : LawView → LawView → Prop := Relation.ReflTransGen Move

/-- Any number of records queued. -/
abbrev RecordMoves : LawView → LawView → Prop := Relation.ReflTransGen RecordMove

theorem RecordMoves.moves {v w : LawView} (h : RecordMoves v w) : Moves v w := Relation.ReflTransGen.mono (r := RecordMove) (fun _ _ => Move.record) _ _ h

/-- Records leave the ports, and of the streams all but the queues. -/
theorem RecordMoves.keeps {v w : LawView} (h : RecordMoves v w) :
    w.ports = v.ports ∧ w.sending = v.sending ∧ ∀ i, ∃ q, w.streams i = { v.streams i with queue := q } := by
  induction h with
  | refl => exact ⟨rfl, rfl, fun i => ⟨_, rfl⟩⟩
  | tail _ hmove ih =>
    obtain ⟨hports, hsending, hstreams⟩ := ih
    cases hmove with
    | queue hfree hstate =>
      refine ⟨hports, hsending, fun j => ?_⟩
      obtain ⟨q, hq⟩ := hstreams j
      rw [LawView.setStream_streams]
      split
      · rename_i hj
        subst hj
        exact ⟨_, by rw [hq]⟩
      · exact ⟨q, hq⟩

/-! ### The laws on the view -/

/-- FramesMatch on the view. -/
def LawView.Matched (v : LawView) : Prop := ∀ p, (v.ports p).frame.isSome = true ↔ (v.ports p).state = .inFrame

/-- The assembly cell of a port. -/
def PortView.filling (x : PortView) : List Nat := (x.frame.bind Prod.snd).toList

/-- How often a cell stands in the four places. -/
def LawView.count (v : LawView) (k : Nat) : Nat :=
  v.free.count k + ∑ i, (v.streams i).queue.count k + ∑ p, (v.ports p).filling.count k + v.sending.count k

/-- What StreamLaw says of streams and frames. -/
structure LawView.Carried (v : LawView) : Prop where
  bound : ∀ p i a, (v.ports p).frame = some (i, a) → (v.streams i).bound = p
  flag : ∀ i, (v.streams i).inProgress = true ↔ ∃ p a, (v.ports p).frame = some (i, a)
  closed : ∀ i, (v.streams i).state = .closed → (v.streams i).queue = [] ∧ (v.streams i).inProgress = false

/-- A port is not OFF only while it is enabled and `live` holds. -/
def LawView.LiveOnly (live : Prop) (v : LawView) : Prop := ∀ p, (v.ports p).state ≠ .off → (v.ports p).enabled = true ∧ live

theorem count_flatMap_finRange {n : Nat} (f : Fin n → List Nat) (k : Nat) :
    ((List.finRange n).flatMap f).count k = ∑ i, (f i).count k := by
  rw [List.count_flatMap, Fin.sum_univ_def]
  rfl

theorem bufferLaw_iff (s : State) :
    BufferLaw s ↔ s.lawView.Matched ∧ ∀ k, s.lawView.count k = (List.range 262144).count k := by
  have hfilling (p : PortIx) : (s.assemblyOf p).toList = (s.lawView.ports p).filling := by
    cases hframe : (s.port p).frame <;> simp [State.assemblyOf, State.lawView, Port.lawView, PortView.filling, FrameCtx.lawView, hframe]
  refine and_congr (forall_congr' fun p => ?_) ?_
  · simp [State.lawView, Port.lawView]
  · rw [List.perm_iff_count]
    refine forall_congr' fun k => ?_
    simp only [List.count_append, State.queuedCells, State.assemblyCells, List.filterMap_eq_flatMap_toList, count_flatMap_finRange, hfilling]
    rfl

theorem streamLaw_iff (s : State) : StreamLaw s ↔ s.lawView.Matched ∧ s.lawView.Carried := by
  have hframe (p : PortIx) (i : StreamIx) :
      (∃ a, (s.lawView.ports p).frame = some (i, a)) ↔ ∃ f, (s.port p).frame = some f ∧ f.stream = i := by
    constructor
    · rintro ⟨a, h⟩
      obtain ⟨f, hf, heq⟩ := Option.map_eq_some_iff.1 h
      exact ⟨f, hf, congrArg Prod.fst heq⟩
    · rintro ⟨f, hf, rfl⟩
      exact ⟨f.assembly.map Assembly.index, by simp [State.lawView, Port.lawView, hf, FrameCtx.lawView]⟩
  have hempty (i : StreamIx) : (s.lawView.streams i).queue = [] ↔ (s.stream i).queue = [] := List.map_eq_nil_iff
  have hmatched : s.lawView.Matched ↔ FramesMatch s := by simp [LawView.Matched, FramesMatch, State.lawView, Port.lawView]
  rw [hmatched]
  constructor
  · rintro ⟨hm, hbound, hflag, hclosed⟩
    refine ⟨hm, fun p i a h => ?_, fun i => (hflag i).trans ?_, fun i h => ?_⟩
    · obtain ⟨f, hf, rfl⟩ := (hframe p i).1 ⟨a, h⟩
      exact hbound p f hf
    · exact exists_congr fun p => (hframe p i).symm
    · obtain ⟨hqueue, hprogress⟩ := hclosed i h
      exact ⟨(hempty i).2 hqueue, hprogress⟩
  · rintro ⟨hm, hbound, hflag, hclosed⟩
    refine ⟨hm, fun p f h => ?_, fun i => (hflag i).trans ?_, fun i h => ?_⟩
    · obtain ⟨a, ha⟩ := (hframe p f.stream).2 ⟨f, h, rfl⟩
      exact hbound p f.stream a ha
    · exact exists_congr fun p => hframe p i
    · obtain ⟨hqueue, hprogress⟩ := hclosed i h
      exact ⟨(hempty i).1 hqueue, hprogress⟩

/-- The levels of R47 at which ports are live. -/
def State.portsLive (s : State) : Prop :=
  s.lvc.level = .standby ∨ s.lvc.level = .run ∨ s.lvc.level = .emptying ∨ s.lvc.level = .shutting

theorem portLaw_iff (s : State) : PortLaw s ↔ s.lawView.Matched ∧ LevelLaw s ∧ s.lawView.LiveOnly s.portsLive := by
  have hmatched : s.lawView.Matched ↔ FramesMatch s := by simp [LawView.Matched, FramesMatch, State.lawView, Port.lawView]
  rw [hmatched]
  rfl

/-! ### Each move keeps the laws -/

theorem LawView.Matched.setPort {v : LawView} (h : v.Matched) {p : PortIx} {x : PortView}
    (hx : x.frame.isSome = true ↔ x.state = .inFrame) : (v.setPort p x).Matched := by
  intro q
  rw [LawView.setPort_ports]
  split
  · exact hx
  · exact h q

theorem Move.matched {v w : LawView} (h : Move v w) (hv : v.Matched) : w.Matched := by
  cases h with
  | record h => cases h with | queue _ _ => exact hv
  | close _ _ => exact hv
  | @commit p i k frame => exact LawView.Matched.setPort (v := v.setStream _ _) hv (by simp [← hv p, frame])
  | @fill p i k rest frame free => exact LawView.Matched.setPort (v := { v with free := rest }) hv (by simp [← hv p, frame])
  | start _ _ _ _ => exact LawView.Matched.setPort (v := v.setStream _ _) hv (by simp)
  | finish frame out => exact LawView.Matched.setPort (v := v.setStream _ _) hv (by simp [out])
  | @park p ready x out live =>
    have hnone : (v.ports p).frame = none := by
      obtain hstate | hnone := ready
      · simpa [← hv p] using hstate
      · exact hnone
    exact hv.setPort (by simp [hnone, out])
  | disable _ => exact hv.setPort (hv _)
  | send _ _ => exact hv
  | sent => exact hv
  | flush => exact hv
  | restate _ => exact hv
  | rebind _ => exact hv
  | unflag _ => exact hv

theorem sum_update {n : Nat} {α : Type} (g : α → Nat) (f : Fin n → α) (i : Fin n) (x : α) :
    ∑ j, g (Function.update f i x j) + g (f i) = ∑ j, g (f j) + g x := by
  have hrest : ∑ j ∈ Finset.univ \ {i}, g (Function.update f i x j) = ∑ j ∈ Finset.univ \ {i}, g (f j) :=
    Finset.sum_congr rfl fun j hj => by rw [Function.update_of_ne (by simpa using hj)]
  rw [Finset.sum_eq_add_sum_sdiff_singleton_of_mem (Finset.mem_univ i), Finset.sum_eq_add_sum_sdiff_singleton_of_mem (Finset.mem_univ i)
    (fun j => g (f j)), hrest, Function.update_self]
  omega

theorem LawView.count_setStream (v : LawView) (i : StreamIx) (x : StreamView) (k : Nat) :
    (v.setStream i x).count k + (v.streams i).queue.count k = v.count k + x.queue.count k := by
  have hsum : ∑ j, (Function.update v.streams i x j).queue.count k + (v.streams i).queue.count k =
      ∑ j, (v.streams j).queue.count k + x.queue.count k := sum_update (fun y : StreamView => y.queue.count k) v.streams i x
  simp only [LawView.count, LawView.setStream]
  omega

theorem LawView.count_setPort (v : LawView) (p : PortIx) (x : PortView) (k : Nat) :
    (v.setPort p x).count k + (v.ports p).filling.count k = v.count k + x.filling.count k := by
  have hsum : ∑ q, (Function.update v.ports p x q).filling.count k + (v.ports p).filling.count k =
      ∑ q, (v.ports q).filling.count k + x.filling.count k := sum_update (fun y : PortView => y.filling.count k) v.ports p x
  simp only [LawView.count, LawView.setPort]
  omega

theorem LawView.count_setFree (v : LawView) (free : List Nat) (k : Nat) :
    { v with free := free }.count k + v.free.count k = v.count k + free.count k := by
  simp only [LawView.count]
  omega

/-- The moves of cells take each from one place to another. -/
theorem Move.count {v w : LawView} (h : Move v w) (hv : v.Matched) (k : Nat) : w.count k = v.count k := by
  cases h with
  | record h =>
    cases h with
    | @queue i j rest free _ =>
      have hfree := v.count_setFree rest k
      have hstream := LawView.count_setStream { v with free := rest } i { v.streams i with queue := (v.streams i).queue ++ [j] } k
      simp only [free, List.count_append, List.count_cons, List.count_nil] at hfree hstream ⊢
      omega
  | @close i _ _ =>
    have hstream := v.count_setStream i { v.streams i with state := .closed } k
    exact Nat.add_right_cancel hstream
  | @commit p i j frame =>
    have hstream := v.count_setStream i { v.streams i with queue := (v.streams i).queue ++ [j] } k
    have hport := LawView.count_setPort (v.setStream i { v.streams i with queue := (v.streams i).queue ++ [j] }) p
      { v.ports p with frame := some (i, none) } k
    simp only [LawView.setStream_ports, PortView.filling, frame, Option.bind_some, Option.toList_some, Option.toList_none,
      List.count_append, List.count_nil] at hstream hport ⊢
    omega
  | @fill p i j rest frame free =>
    have hfree := v.count_setFree rest k
    have hport := LawView.count_setPort { v with free := rest } p { v.ports p with frame := some (i, some j) } k
    simp only [PortView.filling, frame, free, Option.bind_some, Option.toList_some, Option.toList_none, List.count_cons,
      List.count_nil] at hfree hport ⊢
    omega
  | @start p i _ _ ready _ =>
    have hnone : (v.ports p).frame = none := by simpa [← hv p] using ready
    have hstream := v.count_setStream i { v.streams i with inProgress := true } k
    have hport := LawView.count_setPort (v.setStream i { v.streams i with inProgress := true }) p
      { v.ports p with frame := some (i, none), state := .inFrame } k
    simp only [LawView.setStream_ports, PortView.filling, hnone, Option.bind_some, Option.bind_none, Option.toList_none] at hstream hport ⊢
    omega
  | @finish p i frame x _ =>
    have hstream := v.count_setStream i { v.streams i with inProgress := false } k
    have hport := LawView.count_setPort (v.setStream i { v.streams i with inProgress := false }) p
      { v.ports p with frame := none, state := x } k
    simp only [LawView.setStream_ports, PortView.filling, frame, Option.bind_some, Option.bind_none, Option.toList_none] at hstream hport ⊢
    omega
  | park _ _ _ => exact Nat.add_right_cancel (v.count_setPort ..)
  | disable _ => exact Nat.add_right_cancel (v.count_setPort ..)
  | @send i j rest queue idle =>
    have hstream := LawView.count_setStream { v with sending := [j] } i { v.streams i with queue := rest } k
    simp only [LawView.count, queue, idle, List.count_cons, List.count_nil] at hstream ⊢
    omega
  | sent =>
    simp only [LawView.count, List.count_append, List.count_nil]
    omega
  | @flush i =>
    have hfree := v.count_setFree (v.free ++ (v.streams i).queue) k
    have hstream := LawView.count_setStream { v with free := v.free ++ (v.streams i).queue } i { v.streams i with queue := [] } k
    simp only [List.count_append, List.count_nil] at hfree hstream ⊢
    omega
  | restate _ => exact Nat.add_right_cancel (v.count_setStream ..)
  | rebind _ => exact Nat.add_right_cancel (v.count_setStream ..)
  | unflag _ => exact Nat.add_right_cancel (v.count_setStream ..)

/-- A stream changed but for its flag, with no change of its port while a frame is on it. -/
theorem LawView.Carried.setStream {v : LawView} (h : v.Carried) {i : StreamIx} {x : StreamView}
    (hbound : x.bound = (v.streams i).bound ∨ (v.streams i).inProgress = false) (hflag : x.inProgress = (v.streams i).inProgress)
    (hclosed : x.state = .closed → x.queue = [] ∧ x.inProgress = false) : (v.setStream i x).Carried := by
  refine ⟨fun p j a hframe => ?_, fun j => ?_, fun j => ?_⟩
  · rw [LawView.setStream_streams]
    split
    · rename_i hj
      subst hj
      have hset : (v.streams j).inProgress = true := (h.flag j).2 ⟨p, a, hframe⟩
      rw [hbound.resolve_right (by simp [hset]), h.bound p j a hframe]
    · exact h.bound p j a hframe
  · rw [LawView.setStream_streams, LawView.setStream_ports, ← h.flag j]
    split
    · rename_i hj
      rw [hflag, hj]
    · rfl
  · rw [LawView.setStream_streams]
    split
    · exact hclosed
    · exact h.closed j

/-- A port changed but for its frame's stream. -/
theorem LawView.Carried.setPort {v : LawView} (h : v.Carried) {p : PortIx} {x : PortView}
    (hframe : x.frame.map Prod.fst = (v.ports p).frame.map Prod.fst) : (v.setPort p x).Carried := by
  have hsame (q : PortIx) (i : StreamIx) : (∃ a, ((v.setPort p x).ports q).frame = some (i, a)) ↔ ∃ a, (v.ports q).frame = some (i, a) := by
    have hmap (y : PortView) : (∃ a, y.frame = some (i, a)) ↔ y.frame.map Prod.fst = some i := by
      rw [Option.map_eq_some_iff]
      exact ⟨fun ⟨a, ha⟩ => ⟨_, ha, rfl⟩, fun ⟨⟨j, a⟩, ha, hj⟩ => ⟨a, by rw [ha, ← hj]⟩⟩
    rw [hmap, hmap, LawView.setPort_ports]
    split
    · rename_i hq
      rw [hframe, hq]
    · rfl
  refine ⟨fun q i a hq => ?_, fun i => (h.flag i).trans (exists_congr fun q => (hsame q i).symm), h.closed⟩
  obtain ⟨b, hb⟩ := (hsame q i).1 ⟨a, hq⟩
  exact h.bound q i b hb

/-- A stream that carries a frame is not CLOSED. -/
theorem LawView.Carried.not_closed {v : LawView} (h : v.Carried) {p : PortIx} {i : StreamIx} {a : Option Nat}
    (hframe : (v.ports p).frame = some (i, a)) : (v.streams i).state ≠ .closed := by
  intro hclosed
  have hset : (v.streams i).inProgress = true := (h.flag i).2 ⟨p, a, hframe⟩
  simp [(h.closed i hclosed).2] at hset

theorem Move.carried {v w : LawView} (h : Move v w) (hm : v.Matched) (hv : v.Carried) : w.Carried := by
  cases h with
  | record h =>
    cases h with
    | @queue i k rest free state =>
      exact LawView.Carried.setStream (v := { v with free := rest }) ⟨hv.bound, hv.flag, hv.closed⟩ (.inl rfl) rfl
        fun hc => absurd hc state
  | @close i queue progress => exact hv.setStream (.inl rfl) rfl fun _ => ⟨queue, progress⟩
  | @commit p i k frame =>
    have hstream : (v.setStream i { v.streams i with queue := (v.streams i).queue ++ [k] }).Carried :=
      hv.setStream (.inl rfl) rfl fun hc => absurd hc (hv.not_closed frame)
    exact hstream.setPort (by simp [frame])
  | @fill p i k rest frame free =>
    exact LawView.Carried.setPort (v := { v with free := rest }) ⟨hv.bound, hv.flag, hv.closed⟩ (by simp [frame])
  | @start p i bound opened ready live =>
    have hnone : (v.ports p).frame = none := by simpa [← hm p] using ready
    refine ⟨fun q j a hq => ?_, fun j => ?_, fun j => ?_⟩
    · simp only [LawView.setPort_ports, LawView.setPort_streams, LawView.setStream_ports, LawView.setStream_streams] at hq ⊢
      split at hq
      · rename_i hqp
        cases hq
        rw [if_pos rfl, hqp]
        exact bound
      · have hbound := hv.bound q j a hq
        split
        · rename_i hj
          rw [← hj]
          exact hbound
        · exact hbound
    · simp only [LawView.setPort_ports, LawView.setPort_streams, LawView.setStream_ports, LawView.setStream_streams]
      split
      · rename_i hj
        exact ⟨fun _ => ⟨p, none, by rw [if_pos rfl, hj]⟩, fun _ => rfl⟩
      · rename_i hj
        rw [hv.flag j]
        refine exists_congr fun q => exists_congr fun a => ?_
        split
        · rename_i hq
          simp [hq, hnone, Ne.symm hj]
        · rfl
    · simp only [LawView.setPort_streams, LawView.setStream_streams]
      split
      · intro hc
        exact absurd hc (by simp [opened])
      · exact hv.closed j
  | @finish p i frame x out =>
    have honly (q : PortIx) (a : Option Nat) (hq : (v.ports q).frame = some (i, a)) : q = p :=
      (hv.bound q i a hq).symm.trans (hv.bound p i none frame)
    refine ⟨fun q j a hq => ?_, fun j => ?_, fun j => ?_⟩
    · simp only [LawView.setPort_ports, LawView.setPort_streams, LawView.setStream_ports, LawView.setStream_streams] at hq ⊢
      split at hq
      · nomatch hq
      · have hbound := hv.bound q j a hq
        split
        · rename_i hj
          rw [← hj]
          exact hbound
        · exact hbound
    · simp only [LawView.setPort_ports, LawView.setPort_streams, LawView.setStream_ports, LawView.setStream_streams]
      split
      · rename_i hj
        subst hj
        refine ⟨nofun, ?_⟩
        rintro ⟨q, a, hq⟩
        split at hq
        · nomatch hq
        · rename_i hqp
          exact absurd (honly q a hq) hqp
      · rename_i hj
        rw [hv.flag j]
        refine exists_congr fun q => exists_congr fun a => ?_
        split
        · rename_i hq
          simp [hq, frame, Ne.symm hj]
        · rfl
    · simp only [LawView.setPort_streams, LawView.setStream_streams]
      split
      · rename_i hj
        exact fun hc => absurd hc (hv.not_closed frame)
      · exact hv.closed j
  | park _ _ _ => exact hv.setPort rfl
  | disable _ => exact hv.setPort rfl
  | @send i k rest queue idle =>
    refine LawView.Carried.setStream (v := { v with sending := [k] }) ⟨hv.bound, hv.flag, hv.closed⟩ (.inl rfl) rfl fun hc => ?_
    exact absurd (hv.closed i hc).1 (by simp [queue])
  | sent => exact ⟨hv.bound, hv.flag, hv.closed⟩
  | @flush i =>
    exact LawView.Carried.setStream (v := { v with free := v.free ++ (v.streams i).queue }) ⟨hv.bound, hv.flag, hv.closed⟩ (.inl rfl) rfl
      fun hc => ⟨rfl, (hv.closed i hc).2⟩
  | restate open' => exact hv.setStream (.inl rfl) rfl fun hc => absurd hc open'
  | @rebind i p closed => exact hv.setStream (.inr (hv.closed i closed).2) rfl fun _ => hv.closed i closed
  | @unflag i none =>
    have hclear : (v.streams i).inProgress = false :=
      Bool.eq_false_iff.2 fun hset => by
        obtain ⟨p, a, hframe⟩ := (hv.flag i).1 hset
        exact none p a hframe
    exact hv.setStream (.inl rfl) hclear.symm fun hc => ⟨(hv.closed i hc).1, rfl⟩

/-- A port changed, and not raised from OFF nor enabled. -/
theorem LawView.LiveOnly.setPort {live : Prop} {v : LawView} (h : v.LiveOnly live) {p : PortIx} {x : PortView}
    (hx : x.state ≠ .off → (v.ports p).state ≠ .off ∧ x.enabled = (v.ports p).enabled) : (v.setPort p x).LiveOnly live := by
  intro q
  rw [LawView.setPort_ports]
  split
  · intro hoff
    obtain ⟨hlive, henabled⟩ := hx hoff
    rw [henabled]
    exact h p hlive
  · exact h q

theorem Move.liveOnly {v w : LawView} (h : Move v w) {live : Prop} (hm : v.Matched) (hv : v.LiveOnly live) : w.LiveOnly live := by
  cases h with
  | record h => cases h with | queue _ _ => exact hv
  | close _ _ => exact hv
  | commit _ => exact LawView.LiveOnly.setPort (v := v.setStream _ _) hv fun hoff => ⟨hoff, rfl⟩
  | @fill p i k rest _ _ => exact LawView.LiveOnly.setPort (v := { v with free := rest }) hv fun hoff => ⟨hoff, rfl⟩
  | start _ _ _ live => exact LawView.LiveOnly.setPort (v := v.setStream _ _) hv fun _ => ⟨live, rfl⟩
  | @finish p i frame x _ =>
    have hstate : (v.ports p).state = .inFrame := (hm p).1 (by simp [frame])
    exact LawView.LiveOnly.setPort (v := v.setStream _ _) hv fun _ => ⟨by simp [hstate], rfl⟩
  | park _ _ live => exact hv.setPort fun hoff => ⟨live hoff, rfl⟩
  | disable off => exact hv.setPort fun hoff => absurd off hoff
  | send _ _ => exact hv
  | sent => exact hv
  | flush => exact hv
  | restate _ => exact hv
  | rebind _ => exact hv
  | unflag _ => exact hv

/-- What any number of moves keep. -/
theorem Moves.keep {v w : LawView} (h : Moves v w) (hv : v.Matched) :
    w.Matched ∧ (∀ k, w.count k = v.count k) ∧ (v.Carried → w.Carried) ∧ ∀ live, v.LiveOnly live → w.LiveOnly live := by
  induction h with
  | refl => exact ⟨hv, fun _ => rfl, id, fun _ => id⟩
  | tail _ hmove ih =>
    obtain ⟨hm, hcount, hcarried, hlive⟩ := ih
    exact ⟨hmove.matched hm, fun k => (hmove.count hm k).trans (hcount k), hmove.carried hm ∘ hcarried,
      fun live => hmove.liveOnly hm ∘ hlive live⟩

end Sys2Proof.Machine
end

section
/-! PROOFS. Work that at most queues records: its moves on what the laws see (O53, O55, O56). -/

namespace Sys2Proof.Machine

/-! ### Views after writes -/

theorem State.lawView_congr {s t : State} (hcbm : t.cbm = s.cbm) (hcpr : t.cpr = s.cpr) (htx : t.flk.tx = s.flk.tx) :
    t.lawView = s.lawView := by
  simp only [State.lawView, State.stream, State.port, State.sendingCells, hcbm, hcpr, htx]

@[simp] theorem State.setStream_lawView (s : State) (i : StreamIx) (x : Stream) :
    (s.setStream i x).lawView = s.lawView.setStream i x.lawView := by
  have hstreams : (fun j => ((s.setStream i x).stream j).lawView) = Function.update (fun j => (s.stream j).lawView) i x.lawView := by
    funext j
    rw [State.setStream_stream, Function.update_apply]
    split <;> rfl
  exact congrArg (fun streams => { s.lawView with streams }) hstreams

@[simp] theorem State.setPort_lawView (s : State) (p : PortIx) (x : Port) :
    (s.setPort p x).lawView = s.lawView.setPort p x.lawView := by
  have hports : (fun q => ((s.setPort p x).port q).lawView) = Function.update (fun q => (s.port q).lawView) p x.lawView := by
    funext q
    rw [State.setPort_port, Function.update_apply]
    split <;> rfl
  exact congrArg (fun ports => { s.lawView with ports }) hports

@[simp] theorem State.setFree_lawView (s : State) (runs : List Run) : (s.setFree runs).lawView = { s.lawView with free := freeCells runs } := rfl
@[simp] theorem State.setMem_lawView (s : State) (m : List Host.Cell) : (s.setMem m).lawView = s.lawView := rfl
@[simp] theorem State.setReserved_lawView (s : State) (n : Nat) : (s.setReserved n).lawView = s.lawView := rfl
@[simp] theorem State.lawView_streams (s : State) (i : StreamIx) : s.lawView.streams i = (s.stream i).lawView := rfl
@[simp] theorem State.lawView_ports (s : State) (p : PortIx) : s.lawView.ports p = (s.port p).lawView := rfl

@[simp] theorem setFactor_lawView (f : Factor) (s : State) : (setFactor f s).lawView = s.lawView :=
  State.lawView_congr (by simp) (by simp) (by simp)

theorem countStream_lawView (i : StreamIx) (get : Stream → BitVec 32) (upd : Stream → BitVec 32 → Stream) (s : State)
    (h : ∀ n, (upd (s.stream i) n).lawView = (s.stream i).lawView) : (countStream i get upd s).lawView = s.lawView := by
  have hwrap : (countStream i get upd s).lawView = (s.setStream i (upd (s.stream i) (get (s.stream i) + 1))).lawView :=
    State.lawView_congr (by simp [countStream]) (by simp [countStream]) (by simp [countStream])
  rw [hwrap, State.setStream_lawView, h, ← State.lawView_streams, LawView.setStream_self]

theorem countPort_lawView (p : PortIx) (get : Port → BitVec 32) (upd : Port → BitVec 32 → Port) (s : State)
    (h : ∀ n, (upd (s.port p) n).lawView = (s.port p).lawView) : (countPort p get upd s).lawView = s.lawView := by
  have hwrap : (countPort p get upd s).lawView = (s.setPort p (upd (s.port p) (get (s.port p) + 1))).lawView :=
    State.lawView_congr (by simp [countPort]) (by simp [countPort]) (by simp [countPort])
  rw [hwrap, State.setPort_lawView, h, ← State.lawView_ports, LawView.setPort_self]

/-- What LevelLaw and the ports see of LVC: all but the two limits that the LEVEL table writes. -/
def Lvc.lawView (x : Lvc) : Lvc := { x with powerSettle := 0, drainLimit := 0 }

/-! ### Steps that at most queue records -/

/-- The step from `s` to `t` queues records and changes else nothing that the laws see, nor the waiting commands. -/
structure Recorded (s t : State) : Prop where
  moves : RecordMoves s.lawView t.lawView
  pending : t.pending = s.pending
  level : t.lvc.lawView = s.lvc.lawView

theorem Recorded.of_view {s t : State} (hview : t.lawView = s.lawView) (hpending : t.pending = s.pending := by simp)
    (hlevel : t.lvc = s.lvc := by simp) : Recorded s t :=
  ⟨hview ▸ .refl, hpending, by rw [hlevel]⟩

/-- A step that changes none of the blocks the laws see. -/
theorem Recorded.of_blocks {s t : State} (hcbm : t.cbm = s.cbm := by simp) (hcpr : t.cpr = s.cpr := by simp)
    (htx : t.flk.tx = s.flk.tx := by simp) (hpending : t.pending = s.pending := by simp) (hlevel : t.lvc = s.lvc := by simp) :
    Recorded s t := .of_view (State.lawView_congr hcbm hcpr htx) hpending hlevel

theorem Recorded.refl (s : State) : Recorded s s := ⟨.refl, rfl, rfl⟩

theorem Recorded.trans {s t u : State} (h : Recorded s t) (k : Recorded t u) : Recorded s u :=
  ⟨Relation.ReflTransGen.trans h.moves k.moves, k.pending.trans h.pending, k.level.trans h.level⟩

theorem Recorded.ite {s t u : State} {c : Prop} [Decidable c] (ht : c → Recorded s t) (hu : ¬ c → Recorded s u) :
    Recorded s (if c then t else u) := by
  split
  · exact ht ‹_›
  · exact hu ‹_›

theorem foldl_recorded {α : Type} (f : State → α → State) (h : ∀ s a, Recorded s (f s a)) (l : List α) (s : State) :
    Recorded s (l.foldl f s) := by
  induction l generalizing s with
  | nil => exact Recorded.refl s
  | cons a rest ih => exact (h s a).trans (ih _)

theorem Recorded.port {s t : State} (h : Recorded s t) (p : PortIx) : (t.port p).lawView = (s.port p).lawView :=
  congrFun h.moves.keeps.1 p

theorem Recorded.tx {s t : State} (h : Recorded s t) : t.sendingCells = s.sendingCells := h.moves.keeps.2.1

theorem setFactor_recorded (f : Factor) (s : State) : Recorded s (setFactor f s) := .of_blocks

theorem setTrq_recorded (s : State) (x : Trq) : Recorded s { s with trq := x } := ⟨.refl, rfl, rfl⟩

theorem setBpt_recorded (s : State) (x : Bpt) : Recorded s { s with bpt := x } := ⟨.refl, rfl, rfl⟩

theorem setScd_recorded (s : State) (x : Scd) : Recorded s { s with scd := x } := ⟨.refl, rfl, rfl⟩

theorem setCcr_recorded (s : State) (x : Ccr) : Recorded s { s with ccr := x } := ⟨.refl, rfl, rfl⟩

theorem setMge_recorded (s : State) (x : Mge) : Recorded s { s with mge := x } := ⟨.refl, rfl, rfl⟩

theorem setEvu_recorded (s : State) (x : Evu) : Recorded s { s with evu := x } := ⟨.refl, rfl, rfl⟩

theorem setExposures_recorded (p : PortIx) (x : List Exposure) (s : State) : Recorded s (s.setExposures p x) := ⟨.refl, rfl, rfl⟩

/-- A change of FLK that leaves the cell in transmission. -/
theorem setFlk_recorded (s : State) (x : Flk) (htx : x.tx = s.flk.tx) : Recorded s { s with flk := x } :=
  .of_blocks rfl rfl htx rfl rfl

theorem countTrq_recorded (old : BitVec 32) (upd : Trq → BitVec 32 → Trq) (s : State) : Recorded s (countTrq old upd s) := .of_blocks

theorem countFlk_recorded (old : BitVec 32) (upd : Flk → BitVec 32 → Flk) (s : State) (htx : ∀ n, (upd s.flk n).tx = s.flk.tx) :
    Recorded s (countFlk old upd s) := .of_blocks (htx := by simp [htx])

theorem countPort_recorded (p : PortIx) (get : Port → BitVec 32) (upd : Port → BitVec 32 → Port) (s : State)
    (h : ∀ n, (upd (s.port p) n).lawView = (s.port p).lawView) : Recorded s (countPort p get upd s) :=
  .of_view (countPort_lawView p get upd s h)

theorem countStream_recorded (i : StreamIx) (get : Stream → BitVec 32) (upd : Stream → BitVec 32 → Stream) (s : State)
    (h : ∀ n, (upd (s.stream i) n).lawView = (s.stream i).lawView) : Recorded s (countStream i get upd s) :=
  .of_view (countStream_lawView i get upd s h)

/-- A write to a port, or to a stream, that the laws do not see. -/
theorem setPort_recorded (p : PortIx) (x : Port) (s : State) (h : x.lawView = (s.port p).lawView) : Recorded s (s.setPort p x) :=
  .of_view (by rw [State.setPort_lawView, h, ← State.lawView_ports, LawView.setPort_self])

theorem setStream_recorded (i : StreamIx) (x : Stream) (s : State) (h : x.lawView = (s.stream i).lawView) : Recorded s (s.setStream i x) :=
  .of_view (by rw [State.setStream_lawView, h, ← State.lawView_streams, LawView.setStream_self])

/-! ### Records at CBM (R99, R100) -/

theorem closeLost_recorded (i : StreamIx) (f : BitVec 8) (s : State) : Recorded s (closeLost i f s) := by
  unfold closeLost
  dsimp only
  split
  · rename_i q hq
    exact setStream_recorded i _ s (by simp [Stream.lawView, markLastData_index hq])
  · exact setStream_recorded i _ s rfl

theorem loseRecord_recorded (i : StreamIx) (f : BitVec 8) (closing : Bool) (s : State) : Recorded s (loseRecord i f closing s) := by
  have hcount := (countStream_recorded i Stream.recordsLost (fun x n => { x with recordsLost := n }) s (fun _ => rfl)).trans
    (setFactor_recorded .cbmRecordLost _)
  exact Recorded.ite (fun _ => hcount.trans (closeLost_recorded ..)) (fun _ => hcount)

theorem handRecord_recorded (i : StreamIx) (kind : CellKind) (payload : List Byte) (f : BitVec 8) (closing : Bool) (s : State) :
    Recorded s (handRecord i kind payload f closing s) := by
  by_cases hlost : (s.stream i).state = .closed ∨ s.freeCount ≤ s.cbm.reserved
  · rw [handRecord_lost kind payload f closing hlost]
    exact loseRecord_recorded ..
  · push Not at hlost
    obtain ⟨hopen, hroom⟩ := hlost
    cases hfree : freeCells s.cbm.free with
    | nil => simp [State.freeCount, freeCountOf_eq, hfree] at hroom
    | cons k rest =>
      obtain ⟨runs, hruns, hqueued⟩ := handRecord_queued kind payload f closing hopen hroom hfree
      rw [hqueued]
      refine ⟨.single ?_, rfl, rfl⟩
      have hmove := RecordMove.queue (v := s.lawView) (i := i) hfree hopen
      convert hmove using 1
      simp [enqueue, hruns, Stream.lawView]

theorem issueMissing_recorded (i : StreamIx) (r : MissingRecord) (s : State) : Recorded s (issueMissing i r s) :=
  (countPort_recorded _ _ _ s (fun _ => rfl)).trans (handRecord_recorded ..)

theorem closeExposure_recorded (p : PortIx) (cause : Cause) (l : LineTime) (e : Exposure) (s : State) :
    Recorded s (closeExposure p cause l e s) := issueMissing_recorded ..

theorem removeAll_recorded (p : PortIx) (cause : Cause) (list : List Exposure) (s : State) : Recorded s (removeAll p cause list s) := by
  induction list generalizing s with
  | nil => exact setExposures_recorded p [] s
  | cons e rest ih => exact ((setExposures_recorded p rest s).trans (closeExposure_recorded ..)).trans (ih _)

theorem closeSkipped_recorded (p : PortIx) (older : List Exposure) (s : State) : Recorded s (closeSkipped p older s) :=
  foldl_recorded _ (fun _ _ => (closeExposure_recorded ..).trans (setFactor_recorded ..)) _ _

theorem matchFrame_recorded (p : PortIx) (c : BitVec 8) (s : State) : Recorded s (matchFrame p c s).2 := by
  unfold matchFrame
  split
  · split
    · exact Recorded.refl s
    · exact (setExposures_recorded p _ s).trans (closeSkipped_recorded ..)
  · split
    · exact Recorded.refl s
    · exact setExposures_recorded p _ s

theorem countRefusal_recorded (i : StreamIx) (v : Verdict) (s : State) : Recorded s (countRefusal i v s) := by
  have hcount := countStream_recorded i Stream.framesRejected (fun x n => { x with framesRejected := n }) s (fun _ => rfl)
  cases v with
  | granted => exact hcount
  | notOpen => exact hcount
  | heldLimit => exact hcount.trans (setFactor_recorded ..)
  | noRoom => exact hcount.trans (setFactor_recorded ..)

theorem parityError_recorded (p : PortIx) (s : State) : Recorded s (parityError p s) :=
  (countPort_recorded _ _ _ _ (fun _ => rfl)).trans (setFactor_recorded ..)

theorem framingError_recorded (p : PortIx) (s : State) : Recorded s (framingError p s) :=
  (countPort_recorded _ _ _ _ (fun _ => rfl)).trans (setFactor_recorded ..)

/-! ### TRQ (R22-R43) -/

theorem streamCheck_recorded (e : TrigEntry) (s : State) : Recorded s (streamCheck e s) :=
  Recorded.ite (fun _ => Recorded.refl s) (fun _ => setFactor_recorded ..)

theorem failTrigger_recorded (e : TrigEntry) (i : StreamIx) (cause : Cause) (s : State) : Recorded s (failTrigger e i cause s) := by
  rw [failTrigger_eq]
  exact (issueMissing_recorded ..).trans (countTrq_recorded ..)

theorem appendExposure_recorded (p : PortIx) (x : Exposure) (s : State) : Recorded s (appendExposure p x s) :=
  ((setExposures_recorded p _ s).trans
    (foldl_recorded _ (fun _ _ => (closeExposure_recorded ..).trans (setFactor_recorded ..)) _ _)).trans (setExposures_recorded ..)

theorem fireTrigger_recorded (e : TrigEntry) (i : StreamIx) (s : State) : Recorded s (fireTrigger e i s) :=
  ((setTrq_recorded s _).trans (countTrq_recorded ..)).trans (appendExposure_recorded ..)

theorem firingProcedure_recorded (e : TrigEntry) (s : State) : Recorded s (firingProcedure e s) := by
  have hfail (cause : Cause) (f : Factor) :=
    (failTrigger_recorded e (checkedStream e s) cause (streamCheck e s)).trans (setFactor_recorded f _)
  exact (streamCheck_recorded e s).trans (Recorded.ite (fun _ => hfail ..) fun _ => Recorded.ite (fun _ => hfail ..) fun _ =>
    Recorded.ite (fun _ => hfail ..) fun _ => fireTrigger_recorded ..)

theorem fireDue_recorded (queue : List TrigEntry) (s : State) : Recorded s (fireDue queue s) := by
  induction queue generalizing s with
  | nil => exact setTrq_recorded s _
  | cons e rest ih =>
    exact Recorded.ite (fun _ => ((setTrq_recorded s _).trans (firingProcedure_recorded ..)).trans (ih _)) (fun _ => setTrq_recorded s _)

theorem deliverF_recorded (old : FinePos) (s : State) : Recorded s (deliverF old s) :=
  Recorded.ite (fun _ => Recorded.refl s) (fun _ => fireDue_recorded _ s)

theorem dropTriggers_recorded (queue : List TrigEntry) (s : State) : Recorded s (dropTriggers queue s) := by
  induction queue generalizing s with
  | nil => exact setTrq_recorded s _
  | cons e rest ih => exact (((setTrq_recorded s _).trans (streamCheck_recorded e _)).trans (failTrigger_recorded ..)).trans (ih _)

theorem insertTrigger_recorded (e : TrigEntry) (s : State) : Recorded s (insertTrigger e s) :=
  Recorded.ite (fun _ => setTrq_recorded s _) fun _ =>
    ((streamCheck_recorded e s).trans (failTrigger_recorded ..)).trans (setFactor_recorded ..)

theorem registerPart_recorded (n : SensorIx) (s : State) : Recorded s (registerPart n s) :=
  (((setTrq_recorded s _).trans (countTrq_recorded ..)).trans (setTrq_recorded _ _)).trans
    (foldl_recorded _ (fun _ _ => Recorded.ite (fun _ => insertTrigger_recorded ..) (fun _ => Recorded.refl _)) _ _)

theorem registrationGate_recorded (n : SensorIx) (level : Bool) (s : State) : Recorded s (registrationGate n level s) :=
  Recorded.ite
    (fun _ => Recorded.ite (fun _ => countTrq_recorded ..) fun _ =>
      Recorded.ite (fun _ => (countTrq_recorded ..).trans (setFactor_recorded ..)) (fun _ => registerPart_recorded n s))
    (fun _ => Recorded.refl s)

theorem sampleSensor_recorded (n : SensorIx) (sample : Bool) (s : State) : Recorded s (sampleSensor n sample s) :=
  Recorded.ite (fun _ => (setTrq_recorded s _).trans (registrationGate_recorded ..)) (fun _ => setTrq_recorded s _)

theorem triggerTick_recorded (lines : BitVec 4) (s : State) :
    Recorded s ((List.finRange 6).foldl (fun u p => u.setStage p (tickStage (u.port p) (u.stage p)))
      ((List.finRange 4).foldl (fun u n => sampleSensor n (lines.getLsbD n.val) u) s)) :=
  (foldl_recorded _ (fun _ _ => sampleSensor_recorded ..) _ s).trans (foldl_recorded _ (fun u _ => setTrq_recorded u _) _ _)

/-! ### BPT (R7-R17) -/

theorem BeltStep.recorded {fs : List Factor} {b : Bpt} {s t : State} (h : BeltStep fs b s t) : Recorded s t := by
  have hcbm := congrArg State.cbm h.rest
  have hcpr := congrArg State.cpr h.rest
  have htx := congrArg (fun u : State => u.flk.tx) h.rest
  have hpending := congrArg State.pending h.rest
  have hlvc := congrArg State.lvc h.rest
  exact .of_blocks hcbm hcpr htx hpending hlvc

theorem beltWork_recorded (step dir : Bool) (s : State) : Recorded s (beltWork step dir s) := by
  have htick : Recorded s (s.ticked step dir) := by
    by_cases hlevel : s.lvc.level = .listen
    · exact (ticked_beltStep_listen step dir hlevel).recorded
    · exact (ticked_beltStep_tracking step dir hlevel).recorded
  rw [beltWork_eq]
  refine Recorded.ite (fun _ => Recorded.ite (fun _ => ?_) fun _ => ?_) (fun _ => Recorded.ite (fun _ => ?_) fun _ => htick)
  · exact htick.trans (forwardEdge_beltStep _).recorded
  · exact htick.trans (reverseEdge_beltStep _).recorded
  · exact htick.trans (setBpt_recorded _ _)

theorem presetBelt_recorded (value : BitVec 32) (s : State) : Recorded s (presetBelt value s) :=
  (((setBpt_recorded s _).trans (setFactor_recorded .bptPreset _)).trans (setTrq_recorded _ _)).trans (deliverF_recorded ..)

/-! ### The return lane (R124-R130, R148) -/

theorem expireHold_recorded (s : State) : Recorded s (expireHold s) :=
  (setFlk_recorded s { s.flk with held := false, timer := 0, expiryDue := false } rfl).trans (setFactor_recorded ..)

theorem takeDueExpiry_recorded (s : State) : Recorded s (takeDueExpiry s) :=
  Recorded.ite (fun _ => expireHold_recorded s) (fun _ => Recorded.refl s)

theorem tickHold_recorded (s : State) : Recorded s (tickHold s) :=
  Recorded.ite (fun _ => Recorded.refl s) fun _ => Recorded.ite (fun _ => setFlk_recorded s _ rfl) (fun _ => setFlk_recorded s _ rfl)

theorem enterSync_recorded (s : State) : Recorded s (enterSync s) := by
  have hup := (setFlk_recorded s { s.flk with rx := .sync, goodRun := 0, badRun := 0 } rfl).trans (setFactor_recorded .flkUp _)
  unfold enterSync
  exact hup.trans (countFlk_recorded _ _ _ (fun _ => rfl))

theorem leaveSync_recorded (s : State) : Recorded s (leaveSync s) := by
  have hdown : Recorded s (setFactor .flkDown { s with flk := s.flk.down }) :=
    (setFlk_recorded s s.flk.down rfl).trans (setFactor_recorded ..)
  rw [leaveSync_eq]
  exact Recorded.ite (fun _ => hdown.trans (setMge_recorded _ _)) (fun _ => hdown)

theorem takeGoodCell_recorded (act : State → State) (hact : ∀ s, Recorded s (act s)) (s : State) : Recorded s (takeGoodCell act s) := by
  unfold takeGoodCell
  split
  · exact Recorded.refl s
  · exact Recorded.ite (fun _ => enterSync_recorded s) (fun _ => setFlk_recorded s _ rfl)
  · exact (setFlk_recorded s { s.flk with badRun := 0 } rfl).trans (hact _)

theorem takeBadCell_recorded (s : State) : Recorded s (takeBadCell s) := by
  have hcount := (countFlk_recorded s.flk.badCells (fun x n => { x with badCells := n }) s (fun _ => rfl)).trans
    (setFactor_recorded .flkBadCell _)
  unfold takeBadCell
  split
  · exact Recorded.refl s
  · exact hcount.trans (setFlk_recorded _ _ rfl)
  · exact Recorded.ite (fun _ => hcount.trans (leaveSync_recorded _)) (fun _ => hcount.trans (setFlk_recorded _ _ rfl))

theorem takeHold_recorded (s : State) : Recorded s (takeHold s) := by
  have hheld := setFlk_recorded s
    { s.flk with held := true, timer := s.flk.holdLimit.toNat * Config.slotsPerHoldUnit, expiryDue := false } rfl
  unfold takeHold
  exact hheld.trans (countFlk_recorded _ _ _ (fun _ => rfl))

theorem takeResume_recorded (s : State) : Recorded s (takeResume s) :=
  Recorded.ite (fun _ => setFlk_recorded s _ rfl) (fun _ => Recorded.refl s)

theorem takeRequest_recorded (payload : List Byte) (s : State) : Recorded s (takeRequest payload s) :=
  Recorded.ite (fun _ => setMge_recorded s _) fun _ => ((setMge_recorded s _).trans
    (Recorded.ite (fun _ => setFactor_recorded ..) (fun _ => Recorded.refl _))).trans (setFactor_recorded ..)

/-! ### The relay engine (R168-R182) -/

theorem goOn_recorded (x : Txn) (w : Wires) (s : State) : Recorded s (goOn x w s) := setCcr_recorded s _

theorem endTxn_recorded (x : Txn) (r : RelayResult) (s : State) : Recorded s (endTxn x r s) := setCcr_recorded s _

theorem holdTick_recorded (x : Txn) (ph : StallPhase) (w : Wires) (s : State) : Recorded s (holdTick x ph w s) :=
  Recorded.ite (fun _ => endTxn_recorded ..) (fun _ => goOn_recorded ..)

theorem bitTick_recorded (clk dat : Bool) (x : Txn) (ph : StallPhase) (s : State) : Recorded s (bitTick clk dat x ph s) :=
  Recorded.ite (fun _ => goOn_recorded ..) fun _ => Recorded.ite (fun _ => holdTick_recorded ..) fun _ =>
    Recorded.ite (fun _ => goOn_recorded ..) (fun _ => goOn_recorded ..)

theorem deferTick_recorded (x : Txn) (s : State) : Recorded s (deferTick x s) :=
  Recorded.ite (fun _ => setCcr_recorded s _) fun _ => Recorded.ite (fun _ => endTxn_recorded ..) (fun _ => Recorded.refl s)

theorem lineCheckTick_recorded (clk dat : Bool) (x : Txn) (s : State) : Recorded s (lineCheckTick clk dat x s) :=
  Recorded.ite (fun _ => Recorded.ite (fun _ => setCcr_recorded s _) (fun _ => setCcr_recorded s _)) (fun _ => endTxn_recorded ..)

theorem startTick_recorded (clk : Bool) (x : Txn) (s : State) : Recorded s (startTick clk x s) :=
  Recorded.ite (fun _ => holdTick_recorded ..) fun _ => Recorded.ite (fun _ => goOn_recorded ..) (fun _ => goOn_recorded ..)

theorem restartTick_recorded (clk dat : Bool) (x : Txn) (s : State) : Recorded s (restartTick clk dat x s) :=
  Recorded.ite (fun _ => goOn_recorded ..) fun _ => Recorded.ite (fun _ => holdTick_recorded ..) fun _ =>
    Recorded.ite
      (fun _ => Recorded.ite (fun _ => goOn_recorded ..) fun _ => Recorded.ite (fun _ => goOn_recorded ..) (fun _ => goOn_recorded ..))
      (fun _ => goOn_recorded ..)

theorem stopTick_recorded (clk : Bool) (x : Txn) (s : State) : Recorded s (stopTick clk x s) :=
  Recorded.ite (fun _ => goOn_recorded ..) fun _ => Recorded.ite (fun _ => holdTick_recorded ..) fun _ =>
    Recorded.ite (fun _ => endTxn_recorded ..) (fun _ => goOn_recorded ..)

theorem txnTick_recorded (clk dat : Bool) (x : Txn) (s : State) : Recorded s (txnTick clk dat x s) := by
  unfold txnTick
  cases x.phase with
  | deferring => exact deferTick_recorded ..
  | lineCheck => exact lineCheckTick_recorded ..
  | start => exact startTick_recorded ..
  | address => exact bitTick_recorded ..
  | write => exact bitTick_recorded ..
  | restart => exact restartTick_recorded ..
  | read => exact bitTick_recorded ..
  | stop => exact stopTick_recorded ..
  | report => exact Recorded.refl s

end Sys2Proof.Machine
end

section
/-! PROOFS. A FRAME_START does not look at the state that its port is in: a port whose frame has been aborted, or whose discard has ended, begins
the new frame as an IDLE port does (R52). -/

namespace Sys2Proof.Machine

theorem setFactor_setPortState (f : Factor) (p : PortIx) (x : PortState) (s : State) :
    setFactor f (s.setPortState p x) = (setFactor f s).setPortState p x := by
  rw [setFactor_ite, setFactor_ite, apply_ite (fun t : State => t.setPortState p x)]
  rfl

theorem wrapFactor_setPortState (old : BitVec 32) (f : Factor) (p : PortIx) (x : PortState) (s : State) :
    wrapFactor old f (s.setPortState p x) = (wrapFactor old f s).setPortState p x := by
  unfold wrapFactor
  split
  · exact setFactor_setPortState f p x s
  · rfl

/-- A counter of the port stands beside its state. -/
theorem countPort_setPortState (p : PortIx) (get : Port → BitVec 32) (upd : Port → BitVec 32 → Port) (x : PortState) (s : State)
    (hget : ∀ y : Port, get { y with state := x } = get y) (hupd : ∀ (y : Port) n, upd { y with state := x } n = { upd y n with state := x }) :
    countPort p get upd (s.setPortState p x) = (countPort p get upd s).setPortState p x := by
  have hport : (s.setPortState p x).port p = { s.port p with state := x } := by rw [State.setPortState_port, if_pos rfl]
  have hset : (s.setPortState p x).setPort p { upd (s.port p) (get (s.port p) + 1) with state := x } =
      (s.setPort p (upd (s.port p) (get (s.port p) + 1))).setPortState p x := by
    rw [State.setPortState, State.setPortState, State.setPort_setPort, State.setPort_setPort, State.setPort_port_self]
  unfold countPort
  rw [hport, hget, hupd, hset]
  exact wrapFactor_setPortState ..

theorem handRecord_setPortState (i : StreamIx) (kind : CellKind) (payload : List Byte) (f : BitVec 8) (p : PortIx) (x : PortState) (s : State) :
    handRecord i kind payload f false (s.setPortState p x) = (handRecord i kind payload f false s).setPortState p x := by
  have hlose : loseRecord i f false (s.setPortState p x) = (loseRecord i f false s).setPortState p x :=
    (congrArg (setFactor .cbmRecordLost) (wrapFactor_setPortState _ _ p x (s.setStream i _))).trans (setFactor_setPortState ..)
  by_cases hlost : (s.stream i).state = .closed ∨ s.freeCount ≤ s.cbm.reserved
  · rw [handRecord_lost kind payload f false hlost, handRecord_lost (s := s.setPortState p x) kind payload f false hlost, hlose]
  · push Not at hlost
    obtain ⟨hopen, hroom⟩ := hlost
    unfold handRecord
    rw [if_pos ⟨hopen, hroom⟩, if_pos ⟨hopen, hroom⟩, hlose, State.setPortState_cbm]
    cases takeHead s.cbm.free with
    | none => rfl
    | some y => rfl

theorem closeExposure_setPortState (p : PortIx) (cause : Cause) (l : LineTime) (e : Exposure) (x : PortState) (s : State) :
    closeExposure p cause l e (s.setPortState p x) = (closeExposure p cause l e s).setPortState p x := by
  have hcount := countPort_setPortState p Port.missing (fun y n => { y with missing := n }) x s (fun _ => rfl) (fun _ _ => rfl)
  rw [closeExposure_handRecord rfl, closeExposure_handRecord rfl, hcount]
  exact handRecord_setPortState ..

theorem closeSkipped_setPortState (p : PortIx) (older : List Exposure) (x : PortState) (s : State) :
    closeSkipped p older (s.setPortState p x) = (closeSkipped p older s).setPortState p x := by
  induction older generalizing s with
  | nil => rfl
  | cons e rest ih =>
    have hhead := (congrArg (setFactor (.camSkipped p)) (closeExposure_setPortState p .skipped s.lineTime e x s)).trans
      (setFactor_setPortState ..)
    exact (congrArg (closeSkipped p rest) hhead).trans (ih _)

theorem matchFrame_setPortState (p : PortIx) (c : BitVec 8) (x : PortState) (s : State) :
    matchFrame p c (s.setPortState p x) = ((matchFrame p c s).1, (matchFrame p c s).2.setPortState p x) := by
  have hseq : ((s.setPortState p x).port p).seqCheck = (s.port p).seqCheck := by rw [State.setPortState_port, if_pos rfl]
  unfold matchFrame
  rw [hseq, State.setPortState_exposures]
  split
  · cases splitAtCount c (s.exposures p) with
    | none => rfl
    | some found =>
      obtain ⟨older, m, younger⟩ := found
      exact congrArg (Prod.mk (some m)) (closeSkipped_setPortState p older x (s.setExposures p younger))
  · cases s.exposures p <;> rfl

/-- A refusal leaves the port DISCARDING, whatever it was. -/
theorem refuseFrame_setPortState (p : PortIx) (i : StreamIx) (v : Verdict) (e : Option Exposure) (value : BitVec 16) (x : PortState)
    (s : State) : refuseFrame p i v e value (s.setPortState p x) = refuseFrame p i v e value s := by
  have hcount : countStream i Stream.framesRejected (fun y n => { y with framesRejected := n }) (s.setPortState p x) =
      (countStream i Stream.framesRejected (fun y n => { y with framesRejected := n }) s).setPortState p x :=
    wrapFactor_setPortState _ _ p x (s.setStream i _)
  have hrefusal : countRefusal i v (s.setPortState p x) = (countRefusal i v s).setPortState p x := by
    unfold countRefusal
    rw [hcount]
    cases v with
    | granted => rfl
    | notOpen => rfl
    | heldLimit => exact setFactor_setPortState ..
    | noRoom => exact setFactor_setPortState ..
  unfold refuseFrame
  rw [hrefusal]
  refine (congrArg (fun t : State => t.setPortState p .discarding) (handRecord_setPortState ..)).trans ?_
  rw [State.setPortState, State.setPortState, State.setPortState, State.setPort_setPort, State.setPort_port_self]
  rfl

/-- The reservation, the stream's count and its flag at an admission, before the admission is counted (R91). -/
def reserveFrame (i : StreamIx) (s : State) : State :=
  (s.setReserved (s.cbm.reserved + (s.stream i).reservation.toNat)).setStream i
    { s.stream i with framesHeld := (s.stream i).framesHeld + 1, frameCounter := (s.stream i).frameCounter + 1, inProgress := true }

theorem grantFrame_eq (i : StreamIx) (s : State) :
    grantFrame i s = countStream i Stream.framesAdmitted (fun x n => { x with framesAdmitted := n }) (reserveFrame i s) := rfl

theorem grantFrame_setPortState (i : StreamIx) (p : PortIx) (x : PortState) (s : State) :
    grantFrame i (s.setPortState p x) = (grantFrame i s).setPortState p x := by
  have hcount (t : State) : countStream i Stream.framesAdmitted (fun y n => { y with framesAdmitted := n }) (t.setPortState p x) =
      (countStream i Stream.framesAdmitted (fun y n => { y with framesAdmitted := n }) t).setPortState p x :=
    wrapFactor_setPortState _ _ p x (t.setStream i _)
  exact hcount (reserveFrame i s)

/-- A frame offered to CBM ends IN_FRAME or DISCARDING, whatever the port was. -/
theorem offerFrame_setPortState (p : PortIx) (i : StreamIx) (e : Option Exposure) (value : BitVec 16) (x : PortState) (s : State) :
    offerFrame p i e value (s.setPortState p x) = offerFrame p i e value s := by
  have hjudge : judgeFrame i (s.setPortState p x) = judgeFrame i s := rfl
  unfold offerFrame
  rw [hjudge, grantFrame_setPortState, State.setPortState_stream]
  simp only [refuseFrame_setPortState]
  split
  · rfl
  · split
    · rw [State.setPortState, State.setPort_setPort, State.setPort_port_self]
      rfl
    · rfl

/-- R51 takes a port in any state to the same state. -/
theorem beginFrame_setPortState (p : PortIx) (value : BitVec 16) (x : PortState) (s : State) :
    beginFrame p value (s.setPortState p x) = beginFrame p value s := by
  have hframes := countPort_setPortState p Port.frames (fun y n => { y with frames := n }) x s (fun _ => rfl) (fun _ _ => rfl)
  unfold beginFrame
  rw [hframes]
  dsimp only
  rw [matchFrame_setPortState]
  generalize matchFrame p (value.setWidth 8) (countPort p Port.frames (fun y n => { y with frames := n }) s) = found
  obtain ⟨_ | e, t⟩ := found
  · have horphan : countPort p Port.orphans (fun y n => { y with orphans := n }) (setFactor (.camOrphan p) (t.setPortState p x)) =
        (countPort p Port.orphans (fun y n => { y with orphans := n }) (setFactor (.camOrphan p) t)).setPortState p x := by
      rw [setFactor_setPortState]
      exact countPort_setPortState p Port.orphans (fun y n => { y with orphans := n }) x _ (fun _ => rfl) (fun _ _ => rfl)
    dsimp only
    rw [horphan]
    generalize countPort p Port.orphans (fun y n => { y with orphans := n }) (setFactor (.camOrphan p) t) = u
    rw [State.setPortState_port, if_pos rfl]
    dsimp only
    rw [offerFrame_setPortState, State.setPortState, State.setPortState, State.setPortState, State.setPort_setPort,
      State.setPort_port_self]
  · exact offerFrame_setPortState ..

end Sys2Proof.Machine
end

section
/-! PROOFS. The moves of frames, of the outward lane and of the stream commands (O53, O55, O56). -/

namespace Sys2Proof.Machine

/-- The step from `s` to `t` is made of moves on what the laws see, and leaves the level and the waiting commands. -/
structure Moved (s t : State) : Prop where
  moves : Moves s.lawView t.lawView
  pending : t.pending = s.pending
  level : t.lvc.lawView = s.lvc.lawView

theorem Recorded.moved {s t : State} (h : Recorded s t) : Moved s t := ⟨h.moves.moves, h.pending, h.level⟩

theorem Moved.refl (s : State) : Moved s s := ⟨.refl, rfl, rfl⟩

theorem Moved.trans {s t u : State} (h : Moved s t) (k : Moved t u) : Moved s u :=
  ⟨Relation.ReflTransGen.trans h.moves k.moves, k.pending.trans h.pending, k.level.trans h.level⟩

theorem Moved.ite {s t u : State} {c : Prop} [Decidable c] (ht : c → Moved s t) (hu : ¬ c → Moved s u) : Moved s (if c then t else u) := by
  split
  · exact ht ‹_›
  · exact hu ‹_›

/-- One move. -/
theorem Moved.of_move {s t : State} {w : LawView} (h : Move s.lawView w) (hview : t.lawView = w) (hpending : t.pending = s.pending := by simp)
    (hlevel : t.lvc = s.lvc := by simp) : Moved s t :=
  ⟨hview ▸ .single h, hpending, by rw [hlevel]⟩

/-! ### Ports and frames (R50-R58, R91-R98) -/

@[simp] theorem State.setFrame_lawView (s : State) (p : PortIx) (f : Option FrameCtx) :
    (s.setFrame p f).lawView = s.lawView.setPort p { s.lawView.ports p with frame := f.map FrameCtx.lawView } := by
  rw [State.setFrame, State.setPort_lawView]
  rfl

@[simp] theorem State.setPortState_lawView (s : State) (p : PortIx) (x : PortState) :
    (s.setPortState p x).lawView = s.lawView.setPort p { s.lawView.ports p with state := x } := by
  rw [State.setPortState, State.setPort_lawView]
  rfl

/-- The frame at port `p` is `f`, as far as the laws see it. -/
def State.Holds (s : State) (p : PortIx) (f : FrameCtx) : Prop := (s.lawView.ports p).frame = some f.lawView

theorem State.Holds.of_frame {s : State} {p : PortIx} {f g : FrameCtx} (h : (s.port p).frame = some f) (hg : g.lawView = f.lawView) :
    s.Holds p g := by
  simp [State.Holds, Port.lawView, h, hg]

theorem State.setFrame_holds (s : State) (p : PortIx) (f : FrameCtx) : (s.setFrame p (some f)).Holds p f := by
  simp [State.Holds, State.setFrame, Port.lawView]

theorem Recorded.holds {s t : State} (h : Recorded s t) {p : PortIx} {f : FrameCtx} (hf : s.Holds p f) : t.Holds p f :=
  (congrArg PortView.frame (h.port p)).trans hf

/-- A context replaced by one that the laws do not tell from it. -/
theorem setFrame_recorded {s : State} {p : PortIx} {f : FrameCtx} (h : s.Holds p f) : Recorded s (s.setFrame p (some f)) := by
  refine .of_view ?_ rfl rfl
  rw [State.setFrame_lawView, Option.map_some, ← show (s.lawView.ports p).frame = some f.lawView from h, LawView.setPort_self]

theorem setPortState_moved {s : State} {p : PortIx} (ready : (s.port p).state ≠ .inFrame ∨ (s.port p).frame = none) {x : PortState}
    (out : x ≠ .inFrame) (live : x ≠ .off → (s.port p).state ≠ .off) : Moved s (s.setPortState p x) :=
  .of_move (Move.park (p := p) (ready.imp_right fun h => by simp [Port.lawView, h]) out live) (State.setPortState_lawView s p x) rfl rfl

/-- What the laws see of a frame whose cell has been committed. -/
theorem commitCell_moved (p : PortIx) (last : Bool) {f : FrameCtx} {s : State} (h : s.Holds p f) :
    Moved s (commitCell p last f s) ∧
      (commitCell p last f s).lawView.ports p = { s.lawView.ports p with frame := some (f.stream, none) } := by
  cases hasm : f.assembly with
  | none =>
    have hframe : (s.lawView.ports p).frame = some (f.stream, none) := by rw [show (s.lawView.ports p).frame = _ from h, FrameCtx.lawView, hasm]; rfl
    rw [commitCell_none p last f s hasm]
    exact ⟨Moved.refl s, by rw [← hframe]⟩
  | some a =>
    have hframe : (s.lawView.ports p).frame = some (f.stream, some a.index) := by
      rw [show (s.lawView.ports p).frame = _ from h, FrameCtx.lawView, hasm]; rfl
    have hview : (commitCell p last f s).lawView = (s.lawView.setStream f.stream
        { s.lawView.streams f.stream with queue := (s.lawView.streams f.stream).queue ++ [a.index] }).setPort p
        { s.lawView.ports p with frame := some (f.stream, none) } := by
      rw [commitCell_some p last f s a hasm]
      simp [enqueue, Stream.lawView, FrameCtx.lawView]
    refine ⟨.of_move (Move.commit hframe) hview, ?_⟩
    rw [hview, LawView.setPort_ports, if_pos rfl]

theorem truncateWord_recorded (p : PortIx) {f : FrameCtx} {s : State} (h : s.Holds p f) : Recorded s (truncateWord p f s) :=
  (setFrame_recorded (f := { f with truncated := true }) h).trans (setFactor_recorded ..)

theorem placeInCell_lawView (p : PortIx) (value : BitVec 16) (a : Assembly) (f : FrameCtx) (s : State) :
    (placeInCell p value a f s).lawView = s.lawView.setPort p { s.lawView.ports p with frame := some (f.stream, some a.index) } := by
  rw [placeInCell, State.setFrame_lawView]
  rfl

theorem placeInCell_recorded (p : PortIx) (value : BitVec 16) {a : Assembly} {f : FrameCtx} {s : State} (h : s.Holds p f)
    (ha : f.assembly = some a) : Recorded s (placeInCell p value a f s) := by
  have hframe : (s.lawView.ports p).frame = some (f.stream, some a.index) := by
    rw [show (s.lawView.ports p).frame = _ from h, FrameCtx.lawView, ha]; rfl
  refine .of_view ?_ rfl rfl
  rw [placeInCell_lawView, ← hframe, LawView.setPort_self]

theorem placeInNewCell_moved (p : PortIx) (value : BitVec 16) {f : FrameCtx} {s : State} (h : s.Holds p f) (ha : f.assembly = none) :
    Moved s (placeInNewCell p value f s) := by
  unfold placeInNewCell
  refine Moved.ite (fun _ => (truncateWord_recorded p h).moved) fun _ => ?_
  split
  · exact (truncateWord_recorded p h).moved
  · rename_i k runs htake
    have hframe : (s.lawView.ports p).frame = some (f.stream, none) := by
      rw [show (s.lawView.ports p).frame = _ from h, FrameCtx.lawView, ha]; rfl
    have hview := placeInCell_lawView p value { index := k, words := 0 } { f with remaining := f.remaining - 1 }
      (((s.setFree runs).setMem (writePayload s.cbm.mem k [])).setReserved (s.cbm.reserved - 1))
    rw [State.setReserved_lawView, State.setMem_lawView, State.setFree_lawView] at hview
    exact .of_move (Move.fill hframe (takeHead_some htake)) hview (by simp [placeInCell]) (by simp [placeInCell])

theorem placeWord_moved (p : PortIx) (value : BitVec 16) {f : FrameCtx} {s : State} (h : s.Holds p f) : Moved s (placeWord p value f s) := by
  unfold placeWord
  split
  · rename_i ha
    exact placeInNewCell_moved p value h ha
  · rename_i a ha
    refine Moved.ite (fun _ => (placeInCell_recorded p value h ha).moved) fun _ => ?_
    obtain ⟨hmoved, hport⟩ := commitCell_moved p (f.remaining == 0) h
    refine hmoved.trans (placeInNewCell_moved p value (f := { f with assembly := none, committed := true }) ?_ rfl)
    rw [State.Holds, hport]
    rfl

theorem takeData_moved (p : PortIx) (good : Bool) (value : BitVec 16) (f : FrameCtx) {s : State} (h : s.Holds p f) :
    Moved s (takeData p good value f s) :=
  (setFrame_recorded (f := { f with
      computed := f.computed + value, received := saturatingInc f.received, parity := f.parity || !good }) h).moved.trans
    (placeWord_moved p value (State.setFrame_holds ..))

/-- The closing of a drained stream, on the view. -/
theorem closeIfDrained_lawView (i : StreamIx) (s : State) :
    (closeIfDrained i s).lawView = s.lawView ∨
      ((s.lawView.streams i).queue = [] ∧ (s.lawView.streams i).inProgress = false ∧
        (closeIfDrained i s).lawView = s.lawView.setStream i { s.lawView.streams i with state := .closed }) := by
  by_cases hdrained : (s.stream i).state = .draining ∧ (s.stream i).queue = [] ∧ (s.stream i).inProgress = false
  · obtain ⟨hstate, hqueue, hprogress⟩ := hdrained
    refine .inr ⟨by simp [Stream.lawView, hqueue], hprogress, ?_⟩
    rw [closeIfDrained_of i s hstate hqueue hprogress, setFactor_lawView, State.setStream_lawView]
    rfl
  · rw [closeIfDrained_of_not i s hdrained]
    exact .inl rfl

theorem closeIfDrained_moved (i : StreamIx) (s : State) : Moved s (closeIfDrained i s) := by
  obtain hsame | ⟨hqueue, hprogress, hclosed⟩ := closeIfDrained_lawView i s
  · exact (Recorded.of_view hsame).moved
  · exact .of_move (Move.close hqueue hprogress) hclosed

/-- Records do not look at the ports. -/
theorem RecordMoves.setPort {v w : LawView} (h : RecordMoves v w) (p : PortIx) (x : PortView) :
    RecordMoves (v.setPort p x) (w.setPort p x) := by
  induction h with
  | refl => exact .refl
  | tail _ hmove ih =>
    cases hmove with
    | queue hfree hstate => exact ih.tail (RecordMove.queue (v := LawView.setPort _ p x) hfree hstate)

/-- A frame that closes or is aborted, and its port's next state: its cell committed, the frame ended, its record queued or lost, and a stream that
is drained closed. The part ends the frame after its record; for the laws the two orders are one. -/
theorem finishFrame_moved {p : PortIx} {f : FrameCtx} {s : State} (h : s.Holds p f) {x : PortState} (out : x ≠ .inFrame) :
    Moved s ((finishFrame p f s).setPortState p x) := by
  obtain ⟨⟨hcommit, -, -⟩, hport⟩ := commitCell_moved p true h
  have hrecord := (handRecord_recorded f.stream .capture (frameRecord p f (endFrameCells p f s).lineTime).payload
    (frameRecord p f (endFrameCells p f s).lineTime).frameNo true (endFrameCells p f s)).moves
  refine ⟨?_, by simp, by simp⟩
  have hfinish : finishFrame p f s = closeIfDrained f.stream ((issueCapture f.stream
      (frameRecord p f (endFrameCells p f s).lineTime) true (endFrameCells p f s)).setFrame p none) := rfl
  rw [hfinish, issueCapture]
  generalize handRecord f.stream .capture (frameRecord p f (endFrameCells p f s).lineTime).payload
    (frameRecord p f (endFrameCells p f s).lineTime).frameNo true (endFrameCells p f s) = t at hrecord ⊢
  have hcells : (endFrameCells p f s).lawView = (commitCell p true f s).lawView.setStream f.stream
      { (commitCell p true f s).lawView.streams f.stream with inProgress := false } := by
    rw [endFrameCells, State.setStream_lawView]
    rfl
  rw [hcells] at hrecord
  have hsame : t.lawView.ports p = (commitCell p true f s).lawView.ports p := congrFun hrecord.keeps.1 p
  have hended := Move.finish (v := (commitCell p true f s).lawView) (p := p) (i := f.stream) (by rw [hport]) out
  have hparked := hrecord.setPort p { (commitCell p true f s).lawView.ports p with frame := none, state := x }
  refine Relation.ReflTransGen.trans (hcommit.tail hended) (Relation.ReflTransGen.trans hparked.moves ?_)
  rw [← hsame]
  have hviews : (t.setFrame p none).lawView.setPort p { (t.setFrame p none).lawView.ports p with state := x } =
      t.lawView.setPort p { t.lawView.ports p with frame := none, state := x } := by
    simp
  rw [← hviews, State.setPortState_lawView]
  obtain hstays | ⟨hqueue, hprogress, hcloses⟩ := closeIfDrained_lawView f.stream (t.setFrame p none)
  · rw [hstays]
  · rw [hcloses]
    exact .single (Move.close (v := (t.setFrame p none).lawView.setPort p _) hqueue hprogress)

theorem abortFrame_moved {p : PortIx} {s : State} {x : PortState} (out : x ≠ .inFrame) (live : x ≠ .off → (s.port p).state ≠ .off) :
    Moved s ((abortFrame p s).setPortState p x) := by
  cases hframe : (s.port p).frame with
  | none =>
    rw [abortFrame_none hframe]
    exact setPortState_moved (.inr hframe) out live
  | some f =>
    rw [abortFrame_some hframe]
    exact finishFrame_moved (f := f.abortedAt s.lineTime) (.of_frame hframe rfl) out

/-- The context of a frame as a good FRAME_END leaves it (R55). -/
def FrameCtx.closedAt (l : LineTime) (value : BitVec 16) (f : FrameCtx) : FrameCtx :=
  { f with endL := some l, rxChecksum := value, checksumBad := f.checksumBad || value != f.computed }

/-- A wrong checksum counted, with its factor (R55). -/
def countChecksum (p : PortIx) (bad : Bool) (s : State) : State :=
  if bad then setFactor (.camChecksum p) (countPort p Port.checksumErrors (fun x n => { x with checksumErrors := n }) s) else s

theorem closeFrame_eq (p : PortIx) (value : BitVec 16) (f : FrameCtx) (s : State) :
    closeFrame p value f s = (finishFrame p (f.closedAt s.lineTime value)
      (countChecksum p (value != f.computed) (s.setFrame p (some (f.closedAt s.lineTime value))))).setPortState p .idle := rfl

theorem countChecksum_recorded (p : PortIx) (bad : Bool) (s : State) : Recorded s (countChecksum p bad s) :=
  Recorded.ite (fun _ => (countPort_recorded p Port.checksumErrors (fun x n => { x with checksumErrors := n }) s (fun _ => rfl)).trans
    (setFactor_recorded ..)) (fun _ => Recorded.refl s)

theorem closeFrame_moved (p : PortIx) (value : BitVec 16) {f : FrameCtx} {s : State} (h : s.Holds p f) :
    Moved s (closeFrame p value f s) := by
  have hclosed : s.Holds p (f.closedAt s.lineTime value) := h
  have hcount := (setFrame_recorded hclosed).trans (countChecksum_recorded p (value != f.computed) _)
  rw [closeFrame_eq]
  exact hcount.moved.trans (finishFrame_moved (hcount.holds hclosed) nofun)

theorem refuseFrame_moved {p : PortIx} (i : StreamIx) (v : Verdict) (e : Option Exposure) (value : BitVec 16) {s : State}
    (ready : (s.port p).state ≠ .inFrame) (live : (s.port p).state ≠ .off) : Moved s (refuseFrame p i v e value s) := by
  have hrecord := (countRefusal_recorded i v s).trans (handRecord_recorded i .capture
    (rejectedRecord p e (value.setWidth 8) ((value >>> 8).setWidth 8) ((countRefusal i v s).stream i).frameCounter
      (countRefusal i v s).lineTime).payload ((countRefusal i v s).stream i).frameCounter false _)
  have hstate := congrArg PortView.state (hrecord.port p)
  exact hrecord.moved.trans (setPortState_moved (.inl (hstate.trans_ne ready)) nofun fun _ => hstate.trans_ne live)

theorem offerFrame_moved {p : PortIx} (i : StreamIx) (e : Option Exposure) (value : BitVec 16) {s : State}
    (ready : (s.port p).state ≠ .inFrame) (live : (s.port p).state ≠ .off) : Moved s (offerFrame p i e value s) := by
  unfold offerFrame
  refine Moved.ite (fun _ => refuseFrame_moved i _ e value ready live) fun hbound => ?_
  push Not at hbound
  split
  · rename_i hgranted
    have hopened : (s.stream i).state = .opened := by
      by_contra hne
      simp [judgeFrame, hne] at hgranted
    have hreserve : (grantFrame i s).lawView = s.lawView.setStream i { s.lawView.streams i with inProgress := true } := by
      rw [grantFrame_eq, countStream_lawView _ _ _ _ (fun _ => rfl), reserveFrame, State.setStream_lawView]
      rfl
    refine .of_move (Move.start hbound hopened ready live) ?_
    rw [State.setPort_lawView, hreserve]
    simp [Port.lawView, newFrame, FrameCtx.lawView]
  · exact refuseFrame_moved i _ e value ready live

theorem beginFrame_moved {p : PortIx} (value : BitVec 16) {s : State} (ready : (s.port p).state ≠ .inFrame) (live : (s.port p).state ≠ .off) :
    Moved s (beginFrame p value s) := by
  have hmatch := (countPort_recorded p Port.frames (fun x n => { x with frames := n }) s (fun _ => rfl)).trans
    (matchFrame_recorded p (value.setWidth 8) _)
  have hoffer {t : State} (ht : Recorded s t) (i : StreamIx) (e : Option Exposure) : Moved s (offerFrame p i e value t) := by
    have hstate := congrArg PortView.state (ht.port p)
    exact ht.moved.trans (offerFrame_moved i e value (hstate.trans_ne ready) (hstate.trans_ne live))
  unfold beginFrame
  dsimp only
  split
  · rename_i e t hfound
    rw [hfound] at hmatch
    exact hoffer hmatch _ _
  · rename_i t hfound
    rw [hfound] at hmatch
    have horphan := (hmatch.trans (setFactor_recorded (.camOrphan p) t)).trans
      (countPort_recorded p Port.orphans (fun x n => { x with orphans := n }) _ (fun _ => rfl))
    have hstate := congrArg PortView.state (horphan.port p)
    exact Moved.ite (fun _ => hoffer horphan _ _) fun _ =>
      horphan.moved.trans (setPortState_moved (.inl (hstate.trans_ne ready)) nofun fun _ => hstate.trans_ne live)

/-! ### The outward lane (R102, R116, R137-R141) -/

theorem State.sendingCells_of_idle {s : State} (h : s.flk.tx = none) : s.lawView.sending = [] := by
  simp [State.lawView, State.sendingCells, h]

theorem State.transmit_lawView (s : State) (owner : TxOwner) (bytes : List Byte) :
    (s.transmit owner bytes).lawView = { s.lawView with sending := owner.cell } := rfl

/-- A cell of MGE, or an IDLE cell, goes into transmission. -/
theorem transmit_recorded {s : State} (h : s.flk.tx = none) (owner : TxOwner) (bytes : List Byte) (hcell : owner.cell = []) :
    Recorded s (s.transmit owner bytes) := by
  refine .of_view ?_ rfl rfl
  rw [State.transmit_lawView, hcell, ← State.sendingCells_of_idle h]

theorem sendIdle_recorded (s : State) (h : s.flk.tx = none) : Recorded s (sendIdle s) := transmit_recorded h _ _ rfl

theorem sendMgmt_recorded (s : State) (h : s.flk.tx = none) : Recorded s (sendMgmt s) := by
  unfold sendMgmt
  split
  · exact sendIdle_recorded s h
  · rename_i rest _
    exact (setMge_recorded s { s.mge with output := rest }).trans (transmit_recorded (s := s.setOutput rest) h _ _ rfl)
  · rename_i rest _
    exact (setMge_recorded s { s.mge with output := rest }).trans (transmit_recorded (s := s.setOutput rest) h _ _ rfl)

/-- The head of a queue selected (R102): for the laws it leaves the queue, and the stream closes if that drains it. -/
theorem selectCell_some {i : StreamIx} {s t : State} {c : QCell} {seq : BitVec 16} (h : selectCell i s = some (c, seq, t)) :
    ∃ u : State, ∃ rest, (s.stream i).queue = c :: rest ∧ t = closeIfDrained i u ∧ u.pending = s.pending ∧ u.lvc = s.lvc ∧
      u.lawView = s.lawView.setStream i { s.lawView.streams i with queue := rest.map QCell.index } := by
  unfold selectCell at h
  dsimp only at h
  split at h
  · nomatch h
  · rename_i c' rest hqueue
    simp only [Option.some.injEq, Prod.mk.injEq] at h
    obtain ⟨rfl, -, rfl⟩ := h
    have hpop : (s.setStream i { s.stream i with queue := rest, seq := (s.stream i).seq + 1 }).lawView =
        s.lawView.setStream i { s.lawView.streams i with queue := rest.map QCell.index } := by
      rw [State.setStream_lawView]
      rfl
    have hcount := countStream_recorded i Stream.cellsSent (fun x n => { x with cellsSent := n })
      (s.setStream i { s.stream i with queue := rest, seq := (s.stream i).seq + 1 }) (fun _ => rfl)
    have hcounted := countStream_lawView i Stream.cellsSent (fun x n => { x with cellsSent := n })
      (s.setStream i { s.stream i with queue := rest, seq := (s.stream i).seq + 1 }) (fun _ => rfl)
    refine ⟨_, rest, hqueue, rfl, ?_, ?_, ?_⟩
    · split <;> split <;> exact hcount.pending
    · split <;> split <;> simp
    · have hset (u : State) (x : Stream) (hx : x.lawView = (u.stream i).lawView) : (u.setStream i x).lawView = u.lawView := by
        rw [State.setStream_lawView, hx, ← State.lawView_streams, LawView.setStream_self]
      rw [← hpop, ← hcounted]
      generalize countStream i Stream.cellsSent _ _ = u
      split <;> split
      · refine (hset (u.setStream i _) _ ?_).trans (hset u _ ?_) <;> rfl
      · exact hset u _ rfl
      · exact hset u _ rfl
      · rfl

theorem sendStream_moved (i : StreamIx) (s : State) (h : s.flk.tx = none) : Moved s (sendStream i s) := by
  unfold sendStream
  split
  · exact (sendIdle_recorded s h).moved
  · rename_i c seq t hsel
    obtain ⟨u, rest, hqueue, rfl, hpending, hlvc, hview⟩ := selectCell_some hsel
    refine ⟨?_, (closeIfDrained_pending i u).trans hpending, by rw [State.transmit, closeIfDrained_lvc, hlvc]⟩
    have hhead : (s.lawView.streams i).queue = c.index :: rest.map QCell.index := by
      rw [State.lawView_streams, Stream.lawView, hqueue, List.map_cons]
    have hsend : Moves s.lawView { u.lawView with sending := [c.index] } := by
      rw [hview]
      exact .single (Move.send hhead (State.sendingCells_of_idle h))
    rw [State.transmit_lawView]
    obtain hstays | ⟨hempty, hprogress, hcloses⟩ := closeIfDrained_lawView i u
    · rw [hstays]
      exact hsend
    · rw [hcloses]
      exact hsend.tail (Move.close (v := { u.lawView with sending := [c.index] }) hempty hprogress)

theorem takeSlot_moved (s : State) (h : s.flk.tx = none) : Moved s (takeSlot s) := by
  have hsend (x : Choice) : Moved s (sendChoice x s) := by
    unfold sendChoice
    split
    · exact (sendIdle_recorded _ h).moved
    · exact (sendMgmt_recorded _ h).moved
    · exact sendStream_moved _ _ h
    · exact (setScd_recorded _ _).moved.trans (sendStream_moved _ _ h)
  have hadvance (t : State) : Recorded t (advanceSlot t) :=
    Recorded.ite (fun _ => ((setScd_recorded t _).trans (setScd_recorded _ _)).trans (setFactor_recorded ..)) (fun _ => setScd_recorded t _)
  exact (hsend _).trans (hadvance _).moved

/-- The end of a transmission: a buffer cell returns to the free list (R102, R116). -/
theorem reportSent_moved (s : State) (c : TxCell) (h : s.flk.tx = some c) :
    Moved s (reportSent c.owner { s with flk := { s.flk with tx := none } }) := by
  have hsending : s.lawView.sending = c.owner.cell := by simp [State.lawView, State.sendingCells, h]
  have hfree : (reportSent c.owner { s with flk := { s.flk with tx := none } }).lawView =
      { s.lawView with free := s.lawView.free ++ s.lawView.sending, sending := [] } := by
    rw [hsending]
    cases c.owner with
    | idle => exact (congrArg (fun free => { s.lawView with free, sending := [] }) (List.append_nil _).symm)
    | stream index => exact congrArg (fun free => { s.lawView with free, sending := [] }) (freeCells_pushTail s.cbm.free index)
    | response isReset =>
      have hdone : (reportSent (.response isReset) { s with flk := { s.flk with tx := none } }).lawView =
          { s.lawView with sending := [] } := by
        rw [reportSent]
        split <;> rfl
      exact hdone.trans (congrArg (fun free => { s.lawView with free, sending := [] }) (List.append_nil _).symm)
    | event live =>
      have hdone : (reportSent (.event live) { s with flk := { s.flk with tx := none } }).lawView = { s.lawView with sending := [] } := by
        rw [reportSent]
        split <;> rfl
      exact hdone.trans (congrArg (fun free => { s.lawView with free, sending := [] }) (List.append_nil _).symm)
  have hrest : (reportSent c.owner { s with flk := { s.flk with tx := none } }).pending = s.pending ∧
      (reportSent c.owner { s with flk := { s.flk with tx := none } }).lvc = s.lvc := by
    cases c.owner with
    | idle => exact ⟨rfl, rfl⟩
    | stream index => exact ⟨rfl, rfl⟩
    | response isReset => rw [reportSent]; split <;> exact ⟨rfl, rfl⟩
    | event live => rw [reportSent]; split <;> exact ⟨rfl, rfl⟩
  exact .of_move Move.sent hfree hrest.1 hrest.2

theorem transmissionEnd_moved (s : State) (c : TxCell) (h : s.flk.tx = some c) :
    Moved s (tickHold (reportSent c.owner { takeDueExpiry s with flk := { (takeDueExpiry s).flk with tx := none } })) := by
  have htx : (takeDueExpiry s).flk.tx = some c := by
    unfold takeDueExpiry
    split
    · rw [expireHold, setFactor_flk]; exact h
    · exact h
  exact ((takeDueExpiry_recorded s).moved.trans (reportSent_moved _ c htx)).trans (tickHold_recorded _).moved

/-! ### STREAM_CMD (R105-R107) -/

theorem openSteps_moved (i : StreamIx) (s : State) : Moved s (openSteps i s) :=
  .of_move (Move.restate (i := i) (x := .opened) nofun) (State.setStream_lawView ..) rfl rfl

theorem closeSteps_moved (i : StreamIx) (s : State) : Moved s (closeSteps i s) :=
  (Moved.of_move (Move.restate (i := i) (x := .draining) nofun) (State.setStream_lawView s i { s.stream i with state := .draining })
    rfl rfl).trans (closeIfDrained_moved i _)

theorem holderOf_none {i : StreamIx} {s : State} (h : holderOf i s = none) (p : PortIx) (a : Option Nat) :
    (s.lawView.ports p).frame ≠ some (i, a) := by
  intro hframe
  obtain ⟨f, hf, hview⟩ := Option.map_eq_some_iff.1 hframe
  have hstream : f.stream = i := congrArg Prod.fst hview
  have hp := List.findSome?_eq_none_iff.1 h p (List.mem_finRange p)
  rw [hf] at hp
  simp [hstream] at hp

theorem holderOf_stream {i : StreamIx} {s : State} {p : PortIx} {f : FrameCtx} (h : holderOf i s = some (p, f)) : f.stream = i := by
  obtain ⟨q, -, hq⟩ := List.exists_of_findSome?_eq_some h
  split at hq
  · split at hq
    · rename_i hstream
      cases hq
      exact hstream
    · nomatch hq
  · nomatch hq

/-- The cells that step 2 of a flush returns: the queue's and the assembly cell of the frame that step 1 ended. -/
theorem flushCells_lawView (i : StreamIx) (held : List Nat) (s : State) :
    (flushCells i held s).lawView =
      { s.lawView with free := s.lawView.free ++ ((s.lawView.streams i).queue ++ held) }.setStream i
        { s.lawView.streams i with queue := [] } := by
  have hcount (l : List QCell) (t : State) :
      (l.foldl (fun u _ => countStream i Stream.recordsLost (fun x n => { x with recordsLost := n }) u) t).lawView = t.lawView := by
    induction l generalizing t with
    | nil => rfl
    | cons c rest ih => rw [List.foldl_cons, ih, countStream_lawView _ _ _ _ (fun _ => rfl)]
  rw [flushCells, hcount, State.setStream_lawView, State.setFree_lawView, freeCells_pushAll]
  rfl

theorem flushCells_kept (i : StreamIx) (held : List Nat) (s : State) :
    (flushCells i held s).pending = s.pending ∧ (flushCells i held s).lvc = s.lvc := by
  have hcount (l : List QCell) (t : State) :
      (l.foldl (fun u _ => countStream i Stream.recordsLost (fun x n => { x with recordsLost := n }) u) t).pending = t.pending ∧
        (l.foldl (fun u _ => countStream i Stream.recordsLost (fun x n => { x with recordsLost := n }) u) t).lvc = t.lvc := by
    induction l generalizing t with
    | nil => exact ⟨rfl, rfl⟩
    | cons c rest ih => rw [List.foldl_cons, (ih _).1, (ih _).2, countStream_pending, countStream_lvc]; exact ⟨rfl, rfl⟩
  exact hcount _ _

/-- A flush returns a queue that a frame's assembly cell has joined. -/
theorem Moves.flush_held {v : LawView} {p : PortIx} {i : StreamIx} {a : Option Nat} (hframe : (v.ports p).frame = some (i, a)) :
    Moves v (({ v with free := v.free ++ ((v.streams i).queue ++ a.toList) }.setStream i
      { v.streams i with queue := [], inProgress := false }).setPort p { v.ports p with frame := none, state := .discarding }) := by
  cases a with
  | none =>
    have hend := Move.finish (v := v) hframe (x := .discarding) nofun
    have hflush := Move.flush (v := (v.setStream i { v.streams i with inProgress := false }).setPort p
      { v.ports p with frame := none, state := .discarding }) (i := i)
    have h := (Relation.ReflTransGen.single hend).tail hflush
    convert h using 1
    simp [LawView.setStream, LawView.setPort]
  | some k =>
    have hcommit := Move.commit (v := v) hframe
    have hend := Move.finish (v := (v.setStream i { v.streams i with queue := (v.streams i).queue ++ [k] }).setPort p
      { v.ports p with frame := some (i, none) }) (p := p) (i := i) (by simp) (x := .discarding) nofun
    have hflush := Move.flush (i := i) (v := (((v.setStream i { v.streams i with queue := (v.streams i).queue ++ [k] }).setPort p
      { v.ports p with frame := some (i, none) }).setStream i
        { queue := (v.streams i).queue ++ [k], bound := (v.streams i).bound, state := (v.streams i).state, inProgress := false }).setPort p
      { v.ports p with frame := none, state := .discarding })
    have h := ((Relation.ReflTransGen.single hcommit).tail (by simpa using hend)).tail hflush
    convert h using 1
    simp [LawView.setStream, LawView.setPort]

end Sys2Proof.Machine
end

section
/-! PROOFS. The management rows, the levels and the resets keep BufferLaw, StreamLaw and PortLaw (O53, O55, O56). -/

namespace Sys2Proof.Machine

/-- The step from `s` to `t` keeps the three laws, and leaves the waiting commands. -/
structure KeepsPlaces (s t : State) : Prop where
  pending : t.pending = s.pending
  buffer : BufferLaw s → BufferLaw t
  stream : StreamLaw s → StreamLaw t
  port : PortLaw s → PortLaw t

theorem KeepsPlaces.refl (s : State) : KeepsPlaces s s := ⟨rfl, id, id, id⟩

theorem KeepsPlaces.trans {s t u : State} (h : KeepsPlaces s t) (k : KeepsPlaces t u) : KeepsPlaces s u :=
  ⟨k.pending.trans h.pending, k.buffer ∘ h.buffer, k.stream ∘ h.stream, k.port ∘ h.port⟩

theorem KeepsPlaces.ite {s t u : State} {c : Prop} [Decidable c] (ht : c → KeepsPlaces s t) (hu : ¬ c → KeepsPlaces s u) :
    KeepsPlaces s (if c then t else u) := by
  split
  · exact ht ‹_›
  · exact hu ‹_›

/-- A step of moves that may change the level: the level agrees again after it, and ports that are not OFF stay live. -/
theorem keepsPlaces_of_moves {s t : State} (moves : Moves s.lawView t.lawView) (pending : t.pending = s.pending)
    (level : LevelLaw s → LevelLaw t) (live : s.portsLive → t.portsLive ∨ ∀ p, (t.port p).state = .off) : KeepsPlaces s t := by
  refine ⟨pending, fun h => ?_, fun h => ?_, fun h => ?_⟩
  · obtain ⟨hm, hcount⟩ := (bufferLaw_iff s).1 h
    obtain ⟨hm', hcount', -, -⟩ := moves.keep hm
    exact (bufferLaw_iff t).2 ⟨hm', fun k => (hcount' k).trans (hcount k)⟩
  · obtain ⟨hm, hcarried⟩ := (streamLaw_iff s).1 h
    obtain ⟨hm', -, hcarried', -⟩ := moves.keep hm
    exact (streamLaw_iff t).2 ⟨hm', hcarried' hcarried⟩
  · obtain ⟨hm, hlevel, hlive⟩ := (portLaw_iff s).1 h
    obtain ⟨hm', -, -, hlive'⟩ := moves.keep hm
    refine (portLaw_iff t).2 ⟨hm', level hlevel, fun p hp => ?_⟩
    obtain ⟨henabled, hlive⟩ := hlive' _ hlive p hp
    obtain hstays | hoff := live hlive
    · exact ⟨henabled, hstays⟩
    · exact absurd (hoff p) hp

theorem Lvc.eq_of_lawView {x y : Lvc} (h : x.lawView = y.lawView) :
    x = { y with powerSettle := x.powerSettle, drainLimit := x.drainLimit } :=
  congrArg (fun z : Lvc => { z with powerSettle := x.powerSettle, drainLimit := x.drainLimit }) h

theorem LevelLaw.congr {s t : State} (h : t.lvc.lawView = s.lvc.lawView) (hs : LevelLaw s) : LevelLaw t := by
  unfold LevelLaw
  rw [Lvc.eq_of_lawView h]
  exact hs

theorem Moved.level_eq {s t : State} (h : Moved s t) : t.lvc.level = s.lvc.level := by
  rw [Lvc.eq_of_lawView h.level]

theorem Moved.keepsPlaces {s t : State} (h : Moved s t) : KeepsPlaces s t :=
  keepsPlaces_of_moves h.moves h.pending (LevelLaw.congr h.level) fun hlive => .inl (by rw [State.portsLive, h.level_eq]; exact hlive)

theorem Recorded.keepsPlaces {s t : State} (h : Recorded s t) : KeepsPlaces s t := h.moved.keepsPlaces

/-! ### FLUSH (R107) -/

/-- Steps 1 and 2 of a flush (R107). -/
theorem flushCells_moved (i : StreamIx) (s : State) : Moved s (flushCells i (flushFrame i s).1 (flushFrame i s).2.2) := by
  suffices h : Moves s.lawView ({ (flushFrame i s).2.2.lawView with
      free := (flushFrame i s).2.2.lawView.free ++ (((flushFrame i s).2.2.lawView.streams i).queue ++ (flushFrame i s).1) }.setStream i
        { (flushFrame i s).2.2.lawView.streams i with queue := [] }) ∧
      (flushFrame i s).2.2.pending = s.pending ∧ (flushFrame i s).2.2.lvc = s.lvc by
    obtain ⟨hmoves, hpending, hlvc⟩ := h
    obtain ⟨hpending', hlvc'⟩ := flushCells_kept i (flushFrame i s).1 (flushFrame i s).2.2
    exact ⟨by rwa [flushCells_lawView], hpending'.trans hpending, by rw [hlvc', hlvc]⟩
  unfold flushFrame
  split
  · split
    · rename_i p f hholder
      refine ⟨?_, rfl, rfl⟩
      have hheld := Moves.flush_held (v := s.lawView) (p := p) (i := i) (a := f.assembly.map Assembly.index)
        (by simp [Port.lawView, holderOf_frame hholder, FrameCtx.lawView, holderOf_stream hholder])
      convert hheld using 1
      rw [State.setStream_lawView, State.setPort_lawView]
      simp [LawView.setStream, LawView.setPort, Stream.lawView, Port.lawView]
    · rename_i hholder
      refine ⟨?_, rfl, rfl⟩
      have hflush := (Relation.ReflTransGen.single (Move.unflag (holderOf_none hholder))).tail (Move.flush (i := i))
      convert hflush using 1
      rw [State.setStream_lawView]
      simp [LawView.setStream, Stream.lawView]
  · refine ⟨?_, rfl, rfl⟩
    have hflush := Relation.ReflTransGen.single (Move.flush (v := s.lawView) (i := i))
    convert hflush using 1
    simp

theorem flushSteps_moved (i : StreamIx) (s : State) : Moved s (flushSteps i s) := by
  have hcells := (flushCells_moved i s).trans (Recorded.of_view (State.setReserved_lawView _
    ((flushCells i (flushFrame i s).1 (flushFrame i s).2.2).cbm.reserved - (flushFrame i s).2.1)) rfl rfl).moved
  unfold flushSteps
  dsimp only
  refine Moved.trans ?_ (closeIfDrained_moved ..)
  refine Moved.trans ?_ (setFactor_recorded ..).moved
  refine Moved.trans ?_ (setStream_recorded i _ _ (by rfl)).moved
  exact Moved.ite (fun _ => hcells.trans (handRecord_recorded ..).moved) (fun _ => hcells)

/-! ### The answers (R152-R163) -/

/-- The checks of a request, one after another: each answer's state. -/
theorem KeepsPlaces.answer_ite {s : State} {a b : Answer} {c : Prop} [Decidable c] (ha : c → KeepsPlaces s a.after)
    (hb : ¬ c → KeepsPlaces s b.after) : KeepsPlaces s (if c then a else b).after := by
  split
  · exact ha ‹_›
  · exact hb ‹_›

/-- A refusal leaves the state as it is (R152). -/
theorem refuse_keepsPlaces (x : Status) (s : State) : KeepsPlaces s (refuse x s).after := KeepsPlaces.refl s

theorem judgeEvent_recorded (s : State) : Recorded s (judgeEvent s) :=
  Recorded.ite (fun _ => (setMge_recorded s _).trans (setEvu_recorded _ _)) (fun _ => Recorded.refl s)

theorem evuChanged_recorded (before : Evu) (g : GroupIx) (s : State) : Recorded s (evuChanged before g s) :=
  Recorded.ite (fun _ => (setEvu_recorded s _).trans (judgeEvent_recorded _)) (fun _ => setEvu_recorded s _)

theorem answerRead_keepsPlaces (r : Request) (s : State) : KeepsPlaces s (answerRead r s).after := by
  unfold answerRead
  split
  · exact refuse_keepsPlaces ..
  · exact KeepsPlaces.answer_ite (fun _ => KeepsPlaces.refl s) (fun _ => refuse_keepsPlaces ..)

theorem answerWriteBelt_keepsPlaces (r : Request) (s : State) : KeepsPlaces s (answerWriteBelt r s).after :=
  KeepsPlaces.answer_ite (fun _ => refuse_keepsPlaces ..) fun _ => KeepsPlaces.answer_ite (fun _ => refuse_keepsPlaces ..) fun _ =>
    KeepsPlaces.answer_ite (fun _ => refuse_keepsPlaces ..) fun _ => (setBpt_recorded s _).keepsPlaces

theorem answerWriteTrigger_keepsPlaces (r : Request) (s : State) : KeepsPlaces s (answerWriteTrigger r s).after :=
  KeepsPlaces.answer_ite (fun _ => refuse_keepsPlaces ..) fun _ => KeepsPlaces.answer_ite (fun _ => refuse_keepsPlaces ..) fun _ =>
    KeepsPlaces.answer_ite (fun _ => refuse_keepsPlaces ..) fun _ => ((setTrq_recorded s _).trans (setBpt_recorded _ _)).keepsPlaces

theorem answerWriteSensor_keepsPlaces (r : Request) (s : State) : KeepsPlaces s (answerWriteSensor r s).after := by
  unfold answerWriteSensor
  split
  · exact KeepsPlaces.answer_ite (fun _ => refuse_keepsPlaces ..) fun _ => (setTrq_recorded s _).keepsPlaces
  · exact refuse_keepsPlaces ..

theorem answerWritePort_keepsPlaces (r : Request) (s : State) : KeepsPlaces s (answerWritePort r s).after := by
  unfold answerWritePort
  split
  · have hset (v : List (Nat × Nat)) (p : PortIx) : Recorded s (s.setPort p (storePort v (s.port p))) := setPort_recorded p _ s rfl
    exact KeepsPlaces.answer_ite (fun _ => refuse_keepsPlaces ..) fun _ => KeepsPlaces.answer_ite (fun _ => refuse_keepsPlaces ..) fun _ =>
      KeepsPlaces.ite (fun _ => ((hset _ _).trans (setTrq_recorded _ _)).keepsPlaces) (fun _ => (hset _ _).keepsPlaces)
  · exact refuse_keepsPlaces ..

theorem answerWriteRelay_keepsPlaces (r : Request) (s : State) : KeepsPlaces s (answerWriteRelay r s).after :=
  KeepsPlaces.answer_ite (fun _ => refuse_keepsPlaces ..) fun _ => KeepsPlaces.answer_ite (fun _ => refuse_keepsPlaces ..) fun _ =>
    KeepsPlaces.answer_ite (fun _ => refuse_keepsPlaces ..) fun _ => Moved.keepsPlaces ⟨.refl, rfl, rfl⟩

theorem answerWriteEvent_keepsPlaces (r : Request) (s : State) : KeepsPlaces s (answerWriteEvent r s).after := by
  unfold answerWriteEvent
  split
  · exact KeepsPlaces.answer_ite (fun _ => refuse_keepsPlaces ..) fun _ =>
      ((setEvu_recorded s _).trans (evuChanged_recorded ..)).keepsPlaces
  · exact refuse_keepsPlaces ..

theorem answerClearEvents_keepsPlaces (r : Request) (s : State) : KeepsPlaces s (answerClearEvents r s).after := by
  unfold answerClearEvents
  split
  · exact KeepsPlaces.answer_ite (fun _ => refuse_keepsPlaces ..) fun _ =>
      ((setEvu_recorded s _).trans (evuChanged_recorded ..)).keepsPlaces
  · exact refuse_keepsPlaces ..

theorem answerWritePlan_keepsPlaces (r : Request) (s : State) : KeepsPlaces s (answerWritePlan r s).after := by
  unfold answerWritePlan
  split
  · exact KeepsPlaces.answer_ite (fun _ => refuse_keepsPlaces ..) fun _ => (setTrq_recorded s _).keepsPlaces
  · exact refuse_keepsPlaces ..

/-- A CLOSED stream's configuration stored (R110): no frame travels on it, so it may be bound anew. -/
theorem storeStream_moved {i : StreamIx} {s : State} (h : (s.stream i).state = .closed) (v : List (Nat × Nat)) :
    Moved s (s.setStream i (storeStream v (s.stream i))) :=
  .of_move (Move.rebind (i := i) (p := (storeStream v (s.stream i)).boundPort) h) (State.setStream_lawView ..) rfl rfl

theorem answerWriteStream_keepsPlaces (r : Request) (s : State) : KeepsPlaces s (answerWriteStream r s).after := by
  unfold answerWriteStream
  split
  · exact KeepsPlaces.answer_ite (fun _ => refuse_keepsPlaces ..) fun hclosed =>
      KeepsPlaces.answer_ite (fun _ => refuse_keepsPlaces ..) fun _ => (storeStream_moved (not_not.1 hclosed) _).keepsPlaces
  · exact refuse_keepsPlaces ..

theorem answerWriteShadow_keepsPlaces (r : Request) (s : State) : KeepsPlaces s (answerWriteShadow r s).after := by
  refine KeepsPlaces.answer_ite (fun _ => refuse_keepsPlaces ..) fun _ => KeepsPlaces.answer_ite (fun _ => refuse_keepsPlaces ..) fun _ => ?_
  change KeepsPlaces s (stored _ 0 s _)
  unfold stored
  split
  · exact KeepsPlaces.refl s
  · exact (setScd_recorded s _).keepsPlaces

theorem answerWriteLevel_keepsPlaces (r : Request) (s : State) : KeepsPlaces s (answerWriteLevel r s).after :=
  KeepsPlaces.answer_ite (fun _ => refuse_keepsPlaces ..) fun _ => KeepsPlaces.answer_ite (fun _ => refuse_keepsPlaces ..) fun _ =>
    Moved.keepsPlaces ⟨.refl, rfl, rfl⟩

theorem answerWriteLink_keepsPlaces (r : Request) (s : State) : KeepsPlaces s (answerWriteLink r s).after :=
  KeepsPlaces.answer_ite (fun _ => refuse_keepsPlaces ..) fun _ => KeepsPlaces.answer_ite (fun _ => refuse_keepsPlaces ..) fun _ =>
    Moved.keepsPlaces ⟨.refl, rfl, rfl⟩

theorem answerWritePlain_keepsPlaces (r : Request) (s : State) : KeepsPlaces s (answerWritePlain r s).after := by
  unfold answerWritePlain
  split
  · exact answerWritePlan_keepsPlaces r s
  · exact answerWriteStream_keepsPlaces r s
  · exact answerWriteShadow_keepsPlaces r s
  · exact refuse_keepsPlaces ..
  · exact answerWriteLevel_keepsPlaces r s
  · exact answerWriteLink_keepsPlaces r s
  · exact refuse_keepsPlaces ..

theorem answerWriteCal_keepsPlaces (r : Request) (s : State) : KeepsPlaces s (answerWriteCal r s).after :=
  KeepsPlaces.answer_ite (fun _ => refuse_keepsPlaces ..) fun _ => KeepsPlaces.answer_ite (fun _ => refuse_keepsPlaces ..) fun _ =>
    (foldl_recorded _ (fun t _ => setScd_recorded t _) _ s).keepsPlaces

theorem answerCalSwap_keepsPlaces (r : Request) (s : State) : KeepsPlaces s (answerCalSwap r s).after :=
  KeepsPlaces.answer_ite (fun _ => refuse_keepsPlaces ..) fun _ => KeepsPlaces.answer_ite (fun _ => refuse_keepsPlaces ..) fun _ =>
    (setScd_recorded s _).keepsPlaces

theorem clearCounters_recorded (group stream : Nat) (s : State) : Recorded s (clearCounters group stream s) :=
  Recorded.ite (fun _ => setBpt_recorded s _) fun _ => Recorded.ite (fun _ => setTrq_recorded s _) fun _ =>
    Recorded.ite (fun _ => setPort_recorded _ _ s rfl) fun _ => Recorded.ite (fun _ => setStream_recorded _ _ s rfl) fun _ =>
      Recorded.ite (fun _ => setFlk_recorded s _ rfl) fun _ => setMge_recorded s _

theorem answerReadCounters_keepsPlaces (r : Request) (s : State) : KeepsPlaces s (answerReadCounters r s).after :=
  KeepsPlaces.answer_ite (fun _ => refuse_keepsPlaces ..) fun _ => KeepsPlaces.answer_ite (fun _ => refuse_keepsPlaces ..) fun _ =>
    KeepsPlaces.ite (fun _ => (clearCounters_recorded ..).keepsPlaces) (fun _ => KeepsPlaces.refl s)

theorem answerBeltPreset_keepsPlaces (r : Request) (s : State) : KeepsPlaces s (answerBeltPreset r s).after :=
  KeepsPlaces.answer_ite (fun _ => (presetBelt_recorded ..).keepsPlaces) (fun _ => refuse_keepsPlaces ..)

theorem answerRelay_keepsPlaces (r : Request) (s : State) : KeepsPlaces s (answerRelay r s).after :=
  KeepsPlaces.answer_ite (fun _ => refuse_keepsPlaces ..) fun _ => KeepsPlaces.answer_ite (fun _ => refuse_keepsPlaces ..) fun _ =>
    KeepsPlaces.answer_ite (fun _ => refuse_keepsPlaces ..) fun _ => KeepsPlaces.answer_ite (fun _ => refuse_keepsPlaces ..) fun _ =>
      (setCcr_recorded s _).keepsPlaces

theorem answerSoftReset_keepsPlaces (r : Request) (s : State) : KeepsPlaces s (answerSoftReset r s).after :=
  (setMge_recorded s _).keepsPlaces

/-! ### STREAM_CMD and PORT_CMD (R59, R60, R105-R107) -/

theorem answerOpen_keepsPlaces (i : StreamIx) (s : State) : KeepsPlaces s (answerOpen i s).after :=
  KeepsPlaces.answer_ite (fun _ => (openSteps_moved i s).keepsPlaces) (fun _ => refuse_keepsPlaces ..)

theorem answerClose_keepsPlaces (i : StreamIx) (s : State) : KeepsPlaces s (answerClose i s).after := by
  unfold answerClose
  split
  · exact (closeSteps_moved i s).keepsPlaces
  · exact KeepsPlaces.refl s
  · exact refuse_keepsPlaces ..

theorem answerFlush_keepsPlaces (i : StreamIx) (s : State) : KeepsPlaces s (answerFlush i s).after :=
  KeepsPlaces.answer_ite (fun _ => refuse_keepsPlaces ..) (fun _ => (flushSteps_moved i s).keepsPlaces)

theorem streamCmd_keepsPlaces (cbm : StreamIx → State → Answer) (h : ∀ i s, KeepsPlaces s (cbm i s).after) (r : Request) (s : State) :
    KeepsPlaces s (streamCmd cbm r s).after := by
  unfold streamCmd
  split
  · exact KeepsPlaces.answer_ite (fun _ => refuse_keepsPlaces ..) (fun _ => h _ s)
  · exact refuse_keepsPlaces ..

theorem setStage_recorded (p : PortIx) (x : Stage) (s : State) : Recorded s (s.setStage p x) := setTrq_recorded s _

/-- Ports enabled, or raised from OFF, and live after it if they are not OFF; the frames and all cells stay. -/
theorem keepsPlaces_of_raise {s t : State} (hcbm : t.cbm = s.cbm) (htx : t.flk.tx = s.flk.tx) (hpending : t.pending = s.pending)
    (hframe : ∀ p, (t.port p).frame = (s.port p).frame) (hstate : ∀ p, (t.port p).state = .inFrame ↔ (s.port p).state = .inFrame)
    (hport : PortLaw s → LevelLaw t ∧ ∀ p, (t.port p).state ≠ .off → (t.port p).enabled = true ∧ t.portsLive) : KeepsPlaces s t := by
  have hview : t.lawView = { s.lawView with ports := t.lawView.ports } := by
    simp only [State.lawView, State.stream, State.sendingCells, hcbm, htx]
  have hframes (p : PortIx) : (t.lawView.ports p).frame = (s.lawView.ports p).frame :=
    congrArg (Option.map FrameCtx.lawView) (hframe p)
  have hmatched (hm : s.lawView.Matched) : t.lawView.Matched := fun p => by
    rw [hframes]
    exact (hm p).trans (hstate p).symm
  refine ⟨hpending, fun h => ?_, fun h => ?_, fun h => ?_⟩
  · obtain ⟨hm, hcount⟩ := (bufferLaw_iff s).1 h
    refine (bufferLaw_iff t).2 ⟨hmatched hm, fun k => (?_ : _ = s.lawView.count k).trans (hcount k)⟩
    simp only [LawView.count, PortView.filling, hframes]
    rw [hview]
  · obtain ⟨hm, hbound, hflag, hclosed⟩ := (streamLaw_iff s).1 h
    refine (streamLaw_iff t).2 ⟨hmatched hm, fun p i a hp => ?_, fun i => ?_, ?_⟩
    · rw [hview]
      exact hbound p i a ((hframes p).symm.trans hp)
    · simp only [hframes]
      rw [hview]
      exact hflag i
    · rw [hview]
      exact hclosed
  · obtain ⟨hm, -, -⟩ := (portLaw_iff s).1 h
    obtain ⟨hlevel, hlive⟩ := hport h
    exact (portLaw_iff t).2 ⟨hmatched hm, hlevel, hlive⟩

theorem enableSteps_keepsPlaces (p : PortIx) (s : State) : KeepsPlaces s (enableSteps p s) := by
  refine KeepsPlaces.ite (fun _ => KeepsPlaces.refl s) fun _ => ?_
  dsimp only
  refine KeepsPlaces.trans ?_ (setStage_recorded ..).keepsPlaces
  have hport (x : Port) (q : PortIx) : (s.setPort p x).port q = if q = p then x else s.port q := State.setPort_port ..
  refine keepsPlaces_of_raise rfl rfl rfl (fun q => ?_) (fun q => ?_) fun ⟨_, hlevel, hlive⟩ => ⟨hlevel, fun q hq => ?_⟩
  · rw [hport]
    split
    · rename_i hqp
      rw [hqp]
    · rfl
  · rw [hport]
    split
    · rename_i hqp
      rw [hqp]
      split
      · rename_i hidle
        simp [hidle.2]
      · exact Iff.rfl
    · exact Iff.rfl
  · rw [hport] at hq ⊢
    split at hq
    · rename_i hqp
      rw [if_pos hqp]
      split at hq
      · rename_i hidle
        exact ⟨rfl, (Level.portsLive_iff _).1 hidle.1⟩
      · exact ⟨rfl, (hlive p hq).2⟩
    · rw [if_neg ‹_›]
      exact hlive q hq

theorem disableSteps_keepsPlaces (p : PortIx) (s : State) : KeepsPlaces s (disableSteps p s) := by
  refine KeepsPlaces.ite (fun _ => ?_) (fun _ => KeepsPlaces.refl s)
  have hoff : Moved s ((if (s.port p).state = .inFrame then abortFrame p s else s).setPortState p .off) := by
    split
    · exact abortFrame_moved nofun (absurd rfl)
    · rename_i hout
      exact setPortState_moved (.inl hout) nofun (absurd rfl)
  dsimp only
  generalize (if (s.port p).state = .inFrame then abortFrame p s else s) = t at hoff ⊢
  have hdisable : Moved (t.setPortState p .off) (t.setPort p { t.port p with enabled := false, state := .off }) := by
    refine .of_move (Move.disable (p := p) ?_) ?_ rfl rfl
    · simp
    · rw [State.setPortState_lawView, State.setPort_lawView]
      simp [Port.lawView]
  exact (((hoff.trans hdisable).trans (setStage_recorded ..).moved).trans (removeAll_recorded ..).moved).keepsPlaces

theorem portCmd_keepsPlaces (cpr : PortIx → State → State) (h : ∀ p s, KeepsPlaces s (cpr p s)) (r : Request) (s : State) :
    KeepsPlaces s (portCmd cpr r s).after := by
  unfold portCmd
  split
  · exact KeepsPlaces.answer_ite (fun _ => refuse_keepsPlaces ..) (fun _ => h _ s)
  · exact refuse_keepsPlaces ..

end Sys2Proof.Machine
end

section
/-! PROOFS. Every command, and every step, keeps BufferLaw, StreamLaw and PortLaw and completes (O2, O53, O55, O56). -/

namespace Sys2Proof.Machine

/-! ### A management row (R149) -/

theorem takeRow_keepsPlaces (isReset : Bool) (accepts : Request → Bool) (owner : Request → State → Answer)
    (h : ∀ r s, KeepsPlaces s (owner r s).after) (s : State) : KeepsPlaces s (takeRow isReset accepts owner s) := by
  unfold takeRow
  split
  · exact KeepsPlaces.refl s
  · exact KeepsPlaces.ite (fun _ => ((setMge_recorded s _).keepsPlaces.trans (h _ _)).trans (setMge_recorded _ _).keepsPlaces)
      (fun _ => KeepsPlaces.refl s)

/-! ### The levels (R192-R196) -/

/-- EMPTYING or STANDBY ends in SHUTTING (R193, R195). -/
theorem enterShutting_keepsPlaces {s : State} (h : s.lvc.level = .emptying ∨ s.lvc.level = .standby) :
    KeepsPlaces s (enterShutting s) := by
  refine keepsPlaces_of_moves .refl rfl (fun ⟨_, _, _, _, _, _, hpower⟩ => ?_) (fun _ => .inl (.inr (.inr (.inr rfl))))
  have hon : s.lvc.power = true := hpower.2 (by obtain h | h := h <;> rw [h] <;> nofun)
  simp [LevelLaw, enterShutting, abortMarking, Level.settled, hon]

/-- A level with camera power ends at STANDBY or RUN (R193, R195). -/
theorem arrive_keepsPlaces {s : State} {x : Level} (hx : x = .standby ∨ x = .run) (h : s.lvc.level ≠ .listen) :
    KeepsPlaces s (arrive x s) := by
  refine keepsPlaces_of_moves (by rw [arrive, setFactor_lawView]; exact .refl) (by simp [arrive])
    (fun ⟨_, _, _, _, _, _, hpower⟩ => ?_) (fun _ => .inl ?_)
  · have hon : s.lvc.power = true := hpower.2 h
    obtain rfl | rfl := hx <;> simp [LevelLaw, arrive, hon]
  · obtain rfl | rfl := hx <;> simp [State.portsLive, arrive]

theorem endEmptying_keepsPlaces {s : State} (h : s.lvc.level = .emptying) : KeepsPlaces s (endEmptying s) :=
  KeepsPlaces.ite (fun _ => enterShutting_keepsPlaces (.inl h)) (fun _ => arrive_keepsPlaces (.inl rfl) (by rw [h]; nofun))

/-- A transition begins at a settled level, to another settled level (R193). -/
theorem beginTransition_keepsPlaces {s : State} {x : Level} (hx : x.settled = true) (hne : x ≠ s.lvc.level) :
    KeepsPlaces s (beginTransition x s) := by
  unfold beginTransition
  split
  · rename_i hlevel
    refine keepsPlaces_of_moves .refl rfl (fun ⟨_, _, _, _, _, hdrain, _⟩ => ?_) (fun hlive => absurd hlive (by simp [State.portsLive, hlevel]))
    have hstopped : s.lvc.drain = none := by simpa [hlevel] using hdrain
    cases x with
    | listen => exact absurd hlevel.symm hne
    | standby | run => simp [LevelLaw, hstopped, Level.settled]
    | powering | emptying | shutting => nomatch hx
  · rename_i hlevel
    exact KeepsPlaces.ite (fun hrun => arrive_keepsPlaces (.inr rfl) (by rw [hlevel]; nofun))
      (fun _ => enterShutting_keepsPlaces (.inr hlevel))
  · rename_i hlevel
    have hdrop := dropTriggers_recorded s.trq.queue { s with lvc := { s.lvc with level := .emptying, target := some x } }
    dsimp only
    have hlvc := Lvc.eq_of_lawView hdrop.level
    generalize dropTriggers s.trq.queue { s with lvc := { s.lvc with level := .emptying, target := some x } } = t at hdrop hlvc ⊢
    refine keepsPlaces_of_moves hdrop.moves.moves hdrop.pending (fun ⟨_, _, _, _, hsettle, _, hpower⟩ => ?_) (fun _ => .inl ?_)
    · have hstopped : s.lvc.settle = none := by simpa [hlevel] using hsettle
      have hon : s.lvc.power = true := hpower.2 (by rw [hlevel]; nofun)
      unfold LevelLaw
      rw [hlvc]
      cases x with
      | run => exact absurd hlevel.symm hne
      | standby | listen => simp [hstopped, hon, Level.settled]
      | powering | emptying | shutting => nomatch hx
    · unfold State.portsLive
      rw [hlvc]
      simp
  all_goals exact KeepsPlaces.refl s

theorem Level.ofCode_settled {n : Nat} {x : Level} (h : Level.ofCode n = some x) : x.settled = true := by
  unfold Level.ofCode at h
  split at h <;> cases h <;> rfl

theorem answerSetLevel_keepsPlaces (r : Request) (s : State) : KeepsPlaces s (answerSetLevel r s).after := by
  refine KeepsPlaces.answer_ite (fun _ => refuse_keepsPlaces ..) fun _ => ?_
  split
  · exact refuse_keepsPlaces ..
  · rename_i x hcode
    exact KeepsPlaces.ite (fun _ => (setFactor_recorded ..).keepsPlaces)
      (fun hne => beginTransition_keepsPlaces (Level.ofCode_settled hcode) hne)

/-- POWERING ends: the enabled ports that are OFF go IDLE (R48, R194). -/
theorem settle_keepsPlaces {s : State} (h : s.lvc.level = .powering) :
    KeepsPlaces s (setFactor .ctlLevelReached ((List.finRange 6).foldl (fun u p => settlePort p u)
      { s with lvc := { s.lvc with level := s.lvc.target.getD .standby, target := none, settle := none } })) := by
  refine KeepsPlaces.trans ?_ (setFactor_recorded ..).keepsPlaces
  have hport (p : PortIx) := allPorts_view State.port settlePort (fun _ => Port.settled) settlePort_port
    { s with lvc := { s.lvc with level := s.lvc.target.getD .standby, target := none, settle := none } } p
  have hrest := settleAll_rest (List.finRange 6)
    { s with lvc := { s.lvc with level := s.lvc.target.getD .standby, target := none, settle := none } }
  generalize (List.finRange 6).foldl (fun u p => settlePort p u)
    { s with lvc := { s.lvc with level := s.lvc.target.getD .standby, target := none, settle := none } } = u at hport hrest ⊢
  refine keepsPlaces_of_raise (by rw [hrest]) (by rw [hrest]) (by rw [hrest]) (fun p => ?_) (fun p => ?_) fun ⟨_, hlevel, hoff⟩ => ?_
  · rw [hport, Port.settled]
    split <;> rfl
  · rw [hport, Port.settled]
    split
    · rename_i hsettles
      simp [State.port] at hsettles ⊢
      simp [hsettles.2]
    · exact Iff.rfl
  · obtain ⟨htarget, -, -, -, -, hdrain, hpower⟩ := hlevel
    have hstopped : s.lvc.drain = none := by simpa [h] using hdrain
    have hon : s.lvc.power = true := hpower.2 (by rw [h]; nofun)
    have hlvc := congrArg State.lvc hrest
    have hlive : u.portsLive ∧ LevelLaw u := by
      unfold State.portsLive LevelLaw
      rw [hlvc]
      obtain ht | ht := htarget h <;> simp [ht, hstopped, hon]
    refine ⟨hlive.2, fun p hp => ⟨?_, hlive.1⟩⟩
    rw [hport, Port.settled] at hp ⊢
    split at hp
    · rw [if_pos ‹_›]
      exact (‹_ ∧ _› : _ ∧ _).1
    · rw [if_neg ‹_›]
      exact (hoff p hp).1

theorem forPorts_moved (order : List PortIx) (f : PortIx → State → State) (h : ∀ p s, Moved s (f p s)) (s : State) :
    Moved s (forPorts order f s) := by
  unfold forPorts
  induction portOrder order generalizing s with
  | nil => exact Moved.refl s
  | cons p rest ih => exact (h p s).trans (ih _)

theorem forcePort_moved (p : PortIx) (s : State) : Moved s (forcePort p s) := by
  refine Moved.trans ?_ (removeAll_recorded ..).moved
  refine Moved.ite (fun hstate => abortFrame_moved nofun fun _ => ?_) fun _ => Moved.refl s
  rw [hstate]
  nofun

theorem powerOffPort_moved (p : PortIx) (s : State) : Moved s (powerOffPort p s) := by
  unfold powerOffPort
  dsimp only
  split
  · exact abortFrame_moved nofun (absurd rfl)
  · rename_i hout
    exact setPortState_moved (.inl hout) nofun (absurd rfl)

theorem forcedDrain_keepsPlaces (order : List PortIx) {s : State} (h : s.lvc.level = .emptying) :
    KeepsPlaces s (endEmptying (setFactor .ctlLevelForced (forPorts order forcePort s))) := by
  have hforced := (forPorts_moved order forcePort forcePort_moved s).trans (setFactor_recorded .ctlLevelForced _).moved
  exact hforced.keepsPlaces.trans (endEmptying_keepsPlaces (hforced.level_eq.trans h))

/-- SHUTTING ends: the ports go OFF and camera power is off (R48, R196). -/
theorem endShutting_keepsPlaces (order : List PortIx) (s : State) : KeepsPlaces s (endShutting (camerasOff order s)) := by
  have hports := forPorts_moved order powerOffPort powerOffPort_moved { s with lvc := { s.lvc with power := false } }
  obtain ⟨-, hoff⟩ := camerasOff_spec order s
  obtain ⟨hcpr, -, hcbm, -, hflk, -⟩ := endShutting_rest (camerasOff order s)
  have hview := State.lawView_congr hcbm hcpr (congrArg Flk.tx hflk)
  have hlvc := endShutting_lvc (camerasOff order s)
  refine keepsPlaces_of_moves (hview ▸ hports.moves) ?_ (fun _ => ?_) (fun _ => .inr fun p => ?_)
  · rw [endShutting, arrive, setFactor_pending, clearStages_rest]
    exact hports.pending
  · have hpower : (camerasOff order s).lvc.power = false := by
      rw [camerasOff, Lvc.eq_of_lawView hports.level]
    unfold LevelLaw
    rw [hlvc]
    simp [hpower]
  · rw [State.port, hcpr]
    change ((camerasOff order s).port p).state = .off
    rw [hoff, Port.poweredOff]

/-! ### The resets (R112, R164, R191) -/

/-- Power-on (R112): the laws do not see the DRAM nor the waiting commands. -/
theorem powerOn_keepsPlaces (s : State) :
    KeepsPlaces s { State.reset with cbm := { Cbm.reset with mem := s.cbm.mem }, pending := s.pending } :=
  ⟨rfl, fun _ => (bufferLaw_iff _).2 ((bufferLaw_iff _).1 bufferLaw_reset), fun _ => (streamLaw_iff _).2 ((streamLaw_iff _).1 streamLaw_reset),
    fun _ => (portLaw_iff _).2 ((portLaw_iff _).1 portLaw_reset)⟩

/-- The soft reset (R112, R164): every cell but one in transmission is free, every stream CLOSED, every port OFF, at LISTEN. -/
theorem softResetAll_keepsPlaces (s : State) : KeepsPlaces s (softResetAll s) := by
  rw [softResetAll_eq]
  refine KeepsPlaces.trans ?_ (setFactor_recorded ..).keepsPlaces
  obtain ⟨-, hsend, -⟩ := softFlk_tx s (softResetBlocks s) rfl
  have hport (p : PortIx) : ((softResetBlocks s).port p).lawView =
      { frame := none, state := .off, enabled := (s.port p).enabled } := by
    rw [softResetBlocks_port]
    rfl
  have hstream (i : StreamIx) : ((softResetBlocks s).stream i).lawView =
      { queue := [], bound := (s.stream i).boundPort, state := .closed, inProgress := false } := by
    rw [softResetBlocks_stream]
    rfl
  have hmatched : (softResetBlocks s).lawView.Matched := fun p => by simp [hport]
  refine ⟨rfl, fun h => ?_, fun _ => ?_, fun _ => ?_⟩
  · refine (bufferLaw_iff _).2 ⟨hmatched, fun k => ?_⟩
    have hfree : (softResetBlocks s).lawView.free = (List.range 262144).filter (fun k => decide (k ∉ s.sendingCells)) :=
      freeCells_softCbm s
    have hsending : (softResetBlocks s).lawView.sending = s.sendingCells := hsend
    have hinrange : ∀ k ∈ s.sendingCells, k < 262144 := fun k hk =>
      List.mem_range.1 (h.2.mem_iff.1 (List.mem_append_right _ hk))
    have honce : s.sendingCells.Nodup := by
      unfold State.sendingCells TxOwner.cell
      split
      · exact List.nodup_nil
      · split
        · exact List.nodup_singleton _
        · exact List.nodup_nil
        · exact List.nodup_nil
        · exact List.nodup_nil
    simp only [LawView.count, State.lawView_ports, State.lawView_streams, hport, hstream, PortView.filling, hfree, hsending]
    by_cases hk : k ∈ s.sendingCells
    · rw [List.count_eq_zero_of_not_mem (by simp [hk]), List.count_eq_one_of_mem honce hk,
        List.count_eq_one_of_mem List.nodup_range (List.mem_range.2 (hinrange k hk))]
      simp
    · rw [List.count_filter (by simp [hk]), List.count_eq_zero_of_not_mem hk]
      simp
  · exact (streamLaw_iff _).2 ⟨hmatched, fun p i a hp => (nomatch (congrArg PortView.frame (hport p)).symm.trans hp),
      fun i => by simp [hport, hstream], fun i _ => by simp [hstream]⟩
  · exact (portLaw_iff _).2 ⟨hmatched, by simp [LevelLaw, softResetBlocks, softLvc, Lvc.reset],
      fun p hp => absurd (congrArg PortView.state (hport p)) hp⟩

end Sys2Proof.Machine
end

section
/-! PROOFS. Every command, and every step, keeps BufferLaw, StreamLaw and PortLaw, and completes (O2, O53, O55, O56). -/

namespace Sys2Proof.Machine

/-! ### The camera words (R45-R58) -/

theorem parityError_or_recorded (p : PortIx) (good : Bool) (s : State) : Recorded s (if good then s else parityError p s) :=
  Recorded.ite (fun _ => Recorded.refl s) (fun _ => parityError_recorded p s)

/-- A FRAME_START in a frame: what it begins does not depend on the state its port's aborted frame leaves (R57). -/
theorem abortThenBegin_moved {p : PortIx} (value : BitVec 16) {s : State} (h : (s.port p).state = .inFrame) :
    Moved s (beginFrame p value (abortFrame p (framingError p s))) := by
  have herror := framingError_recorded p s
  have hstate : ((framingError p s).port p).state = .inFrame := (congrArg PortView.state (herror.port p)).trans h
  have habort : Moved (framingError p s) ((abortFrame p (framingError p s)).setPortState p .idle) :=
    abortFrame_moved nofun fun _ => by rw [hstate]; nofun
  rw [← beginFrame_setPortState p value .idle]
  exact (herror.moved.trans habort).trans (beginFrame_moved value (by simp [State.setPortState_port]) (by simp [State.setPortState_port]))

theorem frameStart_moved {p : PortIx} {parity : Bool} {value : BitVec 16} {s t : State}
    (h : execFrameStart p parity value s = .next t) : Moved s t := by
  cases h
  refine Moved.ite (fun _ => Moved.refl s) fun _ => Moved.ite (fun _ => (parityError_recorded p s).moved) fun _ => ?_
  split
  · exact abortThenBegin_moved value ‹_›
  · rename_i hstate
    have herror := framingError_recorded p s
    have hstays : ((framingError p s).port p).state = .discarding := (congrArg PortView.state (herror.port p)).trans hstate
    exact herror.moved.trans (beginFrame_moved value (by rw [hstays]; nofun) (by rw [hstays]; nofun))
  · rename_i hstate
    exact beginFrame_moved value (by rw [hstate]; nofun) (by rw [hstate]; nofun)
  · exact absurd ‹_› ‹_›

theorem lineStart_moved {p : PortIx} {parity : Bool} {value : BitVec 16} {s t : State}
    (h : execLineStart p parity value s = .next t) : Moved s t := by
  cases h
  refine Moved.ite (fun _ => Moved.refl s) fun _ => Moved.ite (fun _ => (parityError_recorded p s).moved) fun _ => ?_
  split
  · exact (framingError_recorded p s).moved
  · refine Recorded.moved (.of_view ?_ rfl rfl)
    rw [State.setFrame_lawView, Option.map_map]
    exact (congrArg (s.lawView.setPort p) rfl).trans (LawView.setPort_self s.lawView p)
  · exact Moved.refl s
  · exact Moved.refl s

theorem data_moved {p : PortIx} {parity : Bool} {value : BitVec 16} {s t : State}
    (h : execData p parity value s = .next t) : Moved s t := by
  cases h
  refine Moved.ite (fun _ => Moved.refl s) fun _ => ?_
  have hparity := parityError_or_recorded p (parityGood parity 3 value) s
  dsimp only
  split
  · exact (hparity.trans (framingError_recorded p _)).moved
  · split
    · rename_i f hframe
      exact hparity.moved.trans (takeData_moved p _ value f (.of_frame hframe rfl))
    · exact hparity.moved
  · exact hparity.moved
  · exact hparity.moved

theorem frameEnd_moved {p : PortIx} {parity : Bool} {value : BitVec 16} {s t : State}
    (h : execFrameEnd p parity value s = .next t) : Moved s t := by
  cases h
  refine Moved.ite (fun _ => Moved.refl s) fun _ => Moved.ite (fun _ => (parityError_recorded p s).moved) fun _ => ?_
  split
  · exact (framingError_recorded p s).moved
  · rename_i hstate
    split
    · rename_i f hframe
      exact closeFrame_moved p value (.of_frame hframe rfl)
    · rename_i hnone
      exact setPortState_moved (.inr hnone) nofun fun _ => by rw [hstate]; nofun
  · rename_i hstate
    exact setPortState_moved (.inl (by rw [hstate]; nofun)) nofun fun _ => by rw [hstate]; nofun
  · exact Moved.refl s

theorem exposureExpiry_recorded {p : PortIx} {s t : State} (h : execExposureExpiry p s = .next t) : Recorded s t := by
  unfold execExposureExpiry at h
  split at h
  · cases h
    exact Recorded.refl s
  · cases h
    exact ((setExposures_recorded p _ s).trans (closeExposure_recorded ..)).trans (setFactor_recorded ..)

/-! ### The links and the relays -/

theorem takeSlot_if_moved (c : Prop) [Decidable c] (s : State) (h : c → s.flk.tx = none) : Moved s (if c then takeSlot s else s) :=
  Moved.ite (fun hc => takeSlot_moved s (h hc)) (fun _ => Moved.refl s)

theorem transmissionEnd_next_moved {s t : State} (h : execTransmissionEnd s = .next t) : Moved s t := by
  unfold execTransmissionEnd at h
  split at h
  · cases h
    exact Moved.refl s
  · rename_i c htx
    cases h
    exact transmissionEnd_moved s c htx

theorem lossOfLight_recorded {s t : State} (h : execLossOfLight s = .next t) : Recorded s t := by
  cases h
  split
  · exact leaveSync_recorded s
  · exact setFlk_recorded s _ rfl
  · exact Recorded.refl s

/-- A good cell judged, if it is one. -/
theorem goodCell_recorded (c : Prop) [Decidable c] (act : State → State) (hact : ∀ s, Recorded s (act s)) (s : State) :
    Recorded s (if c then takeGoodCell act s else s) :=
  Recorded.ite (fun _ => takeGoodCell_recorded act hact s) (fun _ => Recorded.refl s)

theorem relayEngineTake_recorded {s t : State} (h : execRelayEngineTake s = .next t) : Recorded s t := by
  unfold execRelayEngineTake at h
  split at h
  · cases h
    exact setCcr_recorded s _
  · cases h
    exact Recorded.refl s

theorem relayTick_recorded {clk dat : Bool} {s t : State} (h : execRelayTick clk dat s = .next t) : Recorded s t := by
  unfold execRelayTick at h
  split at h
  · cases h
    exact Recorded.refl s
  · cases h
    exact txnTick_recorded ..

theorem deferTimeout_recorded {s t : State} (h : execDeferTimeout s = .next t) : Recorded s t := by
  unfold execDeferTimeout at h
  split at h
  · cases h
    exact Recorded.refl s
  · cases h
    exact Recorded.ite (fun _ => endTxn_recorded ..) (fun _ => Recorded.refl s)

theorem stallTimeout_recorded {s t : State} (h : execStallTimeout s = .next t) : Recorded s t := by
  unfold execStallTimeout at h
  split at h
  · cases h
    exact Recorded.refl s
  · split at h
    · cases h
      exact Recorded.refl s
    · cases h
      exact Recorded.ite (fun _ => endTxn_recorded ..) (fun _ => Recorded.refl s)

theorem relayResult_recorded {s t : State} (h : execRelayResult s = .next t) : Recorded s t := by
  unfold execRelayResult at h
  split at h
  · cases h
    exact Recorded.refl s
  · cases h
    exact Recorded.ite (fun _ => (setMge_recorded s _).trans (setCcr_recorded _ _)) (fun _ => Recorded.refl s)

/-! ### Every command -/

theorem KeepsPlaces.of_next {s t u : State} (h : KeepsPlaces s t)
    (hnext : (Host.Outcome.next t : Host.Outcome State Fault Refusal) = .next u) : KeepsPlaces s u := by
  cases hnext
  exact h

/-- Each command keeps the three laws and the waiting commands. -/
theorem exec_keepsPlaces (i : Instr) (s t : State) (h : exec i s = .next t) : KeepsPlaces s t := by
  cases i with
  | powerOn => exact (powerOn_keepsPlaces s).of_next h
  | beltTick step dir => exact ((beltWork_recorded step dir s).trans (deliverF_recorded ..)).keepsPlaces.of_next h
  | stall =>
    exact (Recorded.ite (fun _ => (countInterval_beltStep s).recorded) (fun _ => Recorded.refl s)).keepsPlaces.of_next h
  | triggerTick lines => exact (triggerTick_recorded lines s).keepsPlaces.of_next h
  | pulseEnd p => exact (Recorded.ite (fun _ => setStage_recorded ..) (fun _ => Recorded.refl s)).keepsPlaces.of_next h
  | rearmGapEnd p => exact (Recorded.ite (fun _ => setStage_recorded ..) (fun _ => Recorded.refl s)).keepsPlaces.of_next h
  | idleWord p parity value =>
    exact (Recorded.ite (fun _ => Recorded.refl s) (fun _ => parityError_or_recorded ..)).keepsPlaces.of_next h
  | frameStart p parity value => exact (frameStart_moved h).keepsPlaces
  | lineStart p parity value => exact (lineStart_moved h).keepsPlaces
  | data p parity value => exact (data_moved h).keepsPlaces
  | frameEnd p parity value => exact (frameEnd_moved h).keepsPlaces
  | undefinedKindWord p kind parity value =>
    refine Recorded.keepsPlaces ?_ |>.of_next h
    exact Recorded.ite (fun _ => Recorded.refl s) fun _ =>
      Recorded.ite (fun _ => framingError_recorded p s) (fun _ => parityError_recorded p s)
  | exposureExpiry p => exact (exposureExpiry_recorded h).keepsPlaces
  | cellSlot => exact (takeSlot_if_moved _ s (by simp)).keepsPlaces.of_next h
  | calendarSwap => exact (takeSlot_if_moved _ s (by simp +contextual)).keepsPlaces.of_next h
  | transmissionEnd => exact (transmissionEnd_next_moved h).keepsPlaces
  | holdExpiry => exact (takeDueExpiry_recorded s).keepsPlaces.of_next h
  | delimiterFound light =>
    exact (Recorded.ite (fun _ => setFlk_recorded s { s.flk with rx := .verify, goodRun := 0 } rfl)
      (fun _ => Recorded.refl s)).keepsPlaces.of_next h
  | lossOfLight => exact (lossOfLight_recorded h).keepsPlaces
  | badCell cell => exact (Recorded.ite (fun _ => takeBadCell_recorded s) (fun _ => Recorded.refl s)).keepsPlaces.of_next h
  | idleCell cell => exact (goodCell_recorded _ _ Recorded.refl s).keepsPlaces.of_next h
  | hold cell => exact (goodCell_recorded _ _ takeHold_recorded s).keepsPlaces.of_next h
  | resume cell => exact (goodCell_recorded _ _ takeResume_recorded s).keepsPlaces.of_next h
  | mgmtReq cell => exact (goodCell_recorded _ _ (takeRequest_recorded _) s).keepsPlaces.of_next h
  | badOp => exact (takeRow_keepsPlaces _ _ _ (fun _ u => refuse_keepsPlaces .badOp u) s).of_next h
  | read => exact (takeRow_keepsPlaces _ _ _ answerRead_keepsPlaces s).of_next h
  | write => exact (takeRow_keepsPlaces _ _ _ answerWritePlain_keepsPlaces s).of_next h
  | writeBelt => exact (takeRow_keepsPlaces _ _ _ answerWriteBelt_keepsPlaces s).of_next h
  | writeTrigger => exact (takeRow_keepsPlaces _ _ _ answerWriteTrigger_keepsPlaces s).of_next h
  | writeSensor => exact (takeRow_keepsPlaces _ _ _ answerWriteSensor_keepsPlaces s).of_next h
  | writePort => exact (takeRow_keepsPlaces _ _ _ answerWritePort_keepsPlaces s).of_next h
  | writeRelay => exact (takeRow_keepsPlaces _ _ _ answerWriteRelay_keepsPlaces s).of_next h
  | writeEvent => exact (takeRow_keepsPlaces _ _ _ answerWriteEvent_keepsPlaces s).of_next h
  | writeCal => exact (takeRow_keepsPlaces _ _ _ answerWriteCal_keepsPlaces s).of_next h
  | readCounters => exact (takeRow_keepsPlaces _ _ _ answerReadCounters_keepsPlaces s).of_next h
  | clearEvents => exact (takeRow_keepsPlaces _ _ _ answerClearEvents_keepsPlaces s).of_next h
  | openStream => exact (takeRow_keepsPlaces _ _ _ (streamCmd_keepsPlaces _ answerOpen_keepsPlaces) s).of_next h
  | closeStream => exact (takeRow_keepsPlaces _ _ _ (streamCmd_keepsPlaces _ answerClose_keepsPlaces) s).of_next h
  | flushStream => exact (takeRow_keepsPlaces _ _ _ (streamCmd_keepsPlaces _ answerFlush_keepsPlaces) s).of_next h
  | enablePort => exact (takeRow_keepsPlaces _ _ _ (portCmd_keepsPlaces _ enableSteps_keepsPlaces) s).of_next h
  | disablePort => exact (takeRow_keepsPlaces _ _ _ (portCmd_keepsPlaces _ disableSteps_keepsPlaces) s).of_next h
  | calSwap => exact (takeRow_keepsPlaces _ _ _ answerCalSwap_keepsPlaces s).of_next h
  | setLevel => exact (takeRow_keepsPlaces _ _ _ answerSetLevel_keepsPlaces s).of_next h
  | beltPreset => exact (takeRow_keepsPlaces _ _ _ answerBeltPreset_keepsPlaces s).of_next h
  | relay => exact (takeRow_keepsPlaces _ _ _ answerRelay_keepsPlaces s).of_next h
  | status => exact (takeRow_keepsPlaces _ _ _ (fun _ u => KeepsPlaces.refl u) s).of_next h
  | softReset => exact (takeRow_keepsPlaces _ _ _ answerSoftReset_keepsPlaces s).of_next h
  | softResetCarriedOut =>
    exact (KeepsPlaces.ite (fun _ => softResetAll_keepsPlaces s) (fun _ => KeepsPlaces.refl s)).of_next h
  | relayEngineTake => exact (relayEngineTake_recorded h).keepsPlaces
  | relayTick clk dat => exact (relayTick_recorded h).keepsPlaces
  | deferTimeout => exact (deferTimeout_recorded h).keepsPlaces
  | stallTimeout => exact (stallTimeout_recorded h).keepsPlaces
  | relayResult => exact (relayResult_recorded h).keepsPlaces
  | settleExpiry =>
    exact (KeepsPlaces.ite (fun ⟨hlevel, _⟩ => settle_keepsPlaces hlevel) fun _ => KeepsPlaces.refl s).of_next h
  | drainComplete =>
    exact (KeepsPlaces.ite (fun ⟨hlevel, _⟩ => endEmptying_keepsPlaces hlevel) fun _ => KeepsPlaces.refl s).of_next h
  | drainExpiry order =>
    exact (KeepsPlaces.ite (fun ⟨hlevel, _⟩ => forcedDrain_keepsPlaces order hlevel) fun _ => KeepsPlaces.refl s).of_next h
  | shuttingEnd order =>
    exact (KeepsPlaces.ite (fun _ => endShutting_keepsPlaces order s) fun _ => KeepsPlaces.refl s).of_next h
  | referenceClockPeriod => exact (setBpt_recorded s _).keepsPlaces.of_next h

/-- A step carries out the command at the front of the waiting commands, which the laws do not see. -/
theorem step_keepsPlaces {s t : State} (h : step s = .next t) :
    (BufferLaw s → BufferLaw t) ∧ (StreamLaw s → StreamLaw t) ∧ (PortLaw s → PortLaw t) := by
  unfold step at h
  split at h
  · cases h
    exact ⟨id, id, id⟩
  · obtain ⟨-, hbuffer, hstream, hport⟩ := exec_keepsPlaces _ _ t h
    exact ⟨hbuffer, hstream, hport⟩

/-- Settles O53: the buffer cells move between the four places, one by one. -/
theorem bufferCellsInOnePlace : Obligations.BufferCellsInOnePlace := fun _ _ hlaw hstep => (step_keepsPlaces hstep).1 hlaw

/-- Settles O55, by the moves of frames and streams. -/
theorem streamsKept : Obligations.StreamsKept := fun _ _ hlaw hstep => (step_keepsPlaces hstep).2.1 hlaw

/-- Settles O56, by the moves of ports and the transitions of the level. -/
theorem portsAndLevelsKept : Obligations.PortsAndLevelsKept := fun _ _ hlaw hstep => (step_keepsPlaces hstep).2.2 hlaw

/-- Each command answers a next state: those that ask whether something waits for them, in either case (log 1). -/
theorem exec_completes (c : Instr) (s : State) : ∃ t, exec c s = .next t := by
  cases c with
  | exposureExpiry p =>
    change ∃ t, execExposureExpiry p s = .next t
    unfold execExposureExpiry
    split <;> exact ⟨_, rfl⟩
  | transmissionEnd =>
    change ∃ t, execTransmissionEnd s = .next t
    unfold execTransmissionEnd
    split <;> exact ⟨_, rfl⟩
  | relayEngineTake =>
    change ∃ t, execRelayEngineTake s = .next t
    unfold execRelayEngineTake
    split <;> exact ⟨_, rfl⟩
  | relayTick clk dat =>
    change ∃ t, execRelayTick clk dat s = .next t
    unfold execRelayTick
    split <;> exact ⟨_, rfl⟩
  | deferTimeout =>
    change ∃ t, execDeferTimeout s = .next t
    unfold execDeferTimeout
    split <;> exact ⟨_, rfl⟩
  | stallTimeout =>
    change ∃ t, execStallTimeout s = .next t
    unfold execStallTimeout
    split
    · exact ⟨_, rfl⟩
    · split <;> exact ⟨_, rfl⟩
  | relayResult =>
    change ∃ t, execRelayResult s = .next t
    unfold execRelayResult
    split <;> exact ⟨_, rfl⟩
  | _ => exact ⟨_, rfl⟩

/-- Settles O2: no command faults, and none touches the waiting commands. -/
theorem everyCommandCompletes : Obligations.EveryCommandCompletes := by
  intro c s
  obtain ⟨t, ht⟩ := exec_completes c s
  exact ⟨t, ht, (exec_keepsPlaces c s t ht).pending⟩

end Sys2Proof.Machine
end

section
/-! PROOFS. What a step raises and what it makes of the rest of the state, put together step by step; and the camera words that belong to no
frame, and LINE_START (O14, O19). -/

namespace Sys2Proof.Machine

/-! ### Steps that raise factors -/

/-- The step from `s` to `t` raises the factors `fs`, and all but the reports stands in `t` as in `u`. -/
structure Does (fs : List Factor) (s u t : State) : Prop where
  raised : Raised fs s t
  rest : t.withReportsOf s = u

theorem Does.refl (s : State) : Does [] s s s := ⟨Raised.refl s, rfl⟩

theorem Does.perm {fs gs : List Factor} {s u t : State} (h : Does fs s u t) (hm : ∀ f, f ∈ fs ↔ f ∈ gs) : Does gs s u t :=
  ⟨h.raised.perm hm, h.rest⟩

/-- A second step, whose work `g` does not look at the reports. -/
theorem Does.then {fs gs : List Factor} {s u t t' : State} {g : State → State} (h : Does fs s u t) (k : Does gs t (g t) t')
    (hg : ∀ x y, (g x).withReportsOf y = g (x.withReportsOf y) := by intros; rfl) : Does (fs ++ gs) s (g u) t' where
  raised := h.raised.trans k.raised
  rest := by
    calc t'.withReportsOf s = (t'.withReportsOf t).withReportsOf s := rfl
      _ = g (t.withReportsOf s) := by rw [k.rest, hg]
      _ = g u := by rw [h.rest]

/-- A second step that raises nothing. -/
theorem Does.done {fs : List Factor} {s u t : State} (h : Does fs s u t) (g : State → State)
    (hevu : ∀ x, (g x).evu = x.evu := by intros; rfl) (hmge : ∀ x, (g x).mge = x.mge := by intros; rfl)
    (hg : ∀ x y, (g x).withReportsOf y = g (x.withReportsOf y) := by intros; rfl) : Does fs s (g u) (g t) where
  raised := h.raised.congr rfl rfl (hevu t) (hmge t)
  rest := by rw [hg, h.rest]

theorem setFactor_does (f : Factor) (s : State) : Does [f] s s (setFactor f s) := ⟨setFactor_raised f s, setFactor_withReports f s⟩

theorem countPort_does (p : PortIx) (get : Port → BitVec 32) (upd : Port → BitVec 32 → Port) (s : State) :
    Does (wrapsAt (get (s.port p)) (.camWrap p)) s (s.setPort p (upd (s.port p) (get (s.port p) + 1))) (countPort p get upd s) := by
  refine ⟨countPort_raised p get upd s, ?_⟩
  unfold countPort wrapFactor
  split
  · exact (setFactor_from (s := s) (u := s.setPort p _) (.camWrap p) rfl rfl).2
  · rfl

theorem countStream_does (i : StreamIx) (get : Stream → BitVec 32) (upd : Stream → BitVec 32 → Stream) (s : State) :
    Does (wrapsAt (get (s.stream i)) .cbmWrap) s (s.setStream i (upd (s.stream i) (get (s.stream i) + 1))) (countStream i get upd s) := by
  refine ⟨countStream_raised i get upd s, ?_⟩
  unfold countStream wrapFactor
  split
  · exact (setFactor_from (s := s) (u := s.setStream i _) .cbmWrap rfl rfl).2
  · rfl

/-! ### The two errors of a camera word (R46, R49) -/

theorem parityError_does (p : PortIx) (s : State) : Does (.camParity p :: wrapsAt (s.port p).parityErrors (.camWrap p)) s
    (s.setPort p { s.port p with parityErrors := (s.port p).parityErrors + 1 }) (parityError p s) :=
  ((countPort_does p Port.parityErrors (fun x n => { x with parityErrors := n }) s).then (g := id) (setFactor_does (.camParity p) _)).perm
    fun f => by simp [or_comm]

theorem framingError_does (p : PortIx) (s : State) : Does (.camFraming p :: wrapsAt (s.port p).framingErrors (.camWrap p)) s
    (s.setPort p { s.port p with framingErrors := (s.port p).framingErrors + 1 }) (framingError p s) :=
  ((countPort_does p Port.framingErrors (fun x n => { x with framingErrors := n }) s).then (g := id) (setFactor_does (.camFraming p) _)).perm
    fun f => by simp [or_comm]

/-! ### Words and their commands (R45) -/

theorem cameraWord_toNat (parity : Bool) (kind : BitVec 3) (v : BitVec 16) :
    (cameraWord parity kind v).toNat = parity.toNat * 524288 + kind.toNat * 65536 + v.toNat := by
  rw [cameraWord, BitVec.toNat_append, BitVec.toNat_append, ← Nat.shiftLeft_add_eq_or_of_lt v.isLt,
    ← Nat.shiftLeft_add_eq_or_of_lt kind.isLt, BitVec.toNat_ofBool, Nat.shiftLeft_eq, Nat.shiftLeft_eq]
  omega

/-- A word's command by its kind. -/
theorem cameraCommand_defined {p : PortIx} {parity : Bool} {kind : BitVec 3} {v : BitVec 16} {c : Instr}
    (hc : (kind, c) ∈ [(0, Instr.idleWord p parity v), (1, .frameStart p parity v), (2, .lineStart p parity v), (3, .data p parity v),
      (4, .frameEnd p parity v)]) : cameraCommand p (cameraWord parity kind v) = c := by
  rw [cameraCommand, wordKind_cameraWord, wordParity_cameraWord, wordValue_cameraWord]
  simp only [List.mem_cons, Prod.mk.injEq, List.not_mem_nil, or_false] at hc
  obtain ⟨rfl, rfl⟩ | ⟨rfl, rfl⟩ | ⟨rfl, rfl⟩ | ⟨rfl, rfl⟩ | ⟨rfl, rfl⟩ := hc <;> rfl

theorem cameraCommand_undefined (p : PortIx) (parity : Bool) {kind : BitVec 3} (v : BitVec 16) (hkind : 5 ≤ kind.toNat) :
    cameraCommand p (cameraWord parity kind v) = .undefinedKindWord p kind parity v := by
  rw [cameraCommand, wordKind_cameraWord, wordParity_cameraWord, wordValue_cameraWord]
  split
  case h_6 => rfl
  all_goals omega

/-! ### Each word where it only counts, or does nothing (R45, R46, R49, R56) -/

theorem exec_word_off {s : State} {p : PortIx} (h : (s.port p).state = .off) (parity : Bool) (kind : BitVec 3) (v : BitVec 16) :
    ∀ c ∈ [Instr.idleWord p parity v, .frameStart p parity v, .lineStart p parity v, .data p parity v, .frameEnd p parity v,
      .undefinedKindWord p kind parity v], exec c s = .next s := by
  simp [exec, execIdleWord, execFrameStart, execLineStart, execData, execFrameEnd, execUndefinedKindWord, h]

/-- A word with bad parity, but a DATA word, at a port that is not OFF (R46). -/
theorem exec_word_badParity {s : State} {p : PortIx} (h : (s.port p).state ≠ .off) {parity : Bool} {v : BitVec 16} {k : BitVec 3} {c : Instr}
    (hc : (k, c) ∈ [(0, Instr.idleWord p parity v), (1, .frameStart p parity v), (2, .lineStart p parity v), (4, .frameEnd p parity v)] ∨
      5 ≤ k.toNat ∧ c = .undefinedKindWord p k parity v)
    (hbad : parityGood parity k v = false) : exec c s = .next (parityError p s) := by
  obtain hc | ⟨hk, rfl⟩ := hc
  · simp only [List.mem_cons, Prod.mk.injEq, List.not_mem_nil, or_false] at hc
    obtain ⟨rfl, rfl⟩ | ⟨rfl, rfl⟩ | ⟨rfl, rfl⟩ | ⟨rfl, rfl⟩ := hc
    · rw [exec, execIdleWord, if_neg h, hbad]; rfl
    · rw [exec, execFrameStart, if_neg h, hbad]; rfl
    · rw [exec, execLineStart, if_neg h, hbad]; rfl
    · rw [exec, execFrameEnd, if_neg h, hbad]; rfl
  · rw [exec, execUndefinedKindWord, if_neg (not_or.2 ⟨h, Nat.not_lt.2 hk⟩), hbad]; rfl

/-- A DATA word at a port that is not OFF, once its parity has been counted (R46, R49, R53, R56). -/
def takeWord (p : PortIx) (good : Bool) (v : BitVec 16) (t : State) : State :=
  match (t.port p).state with
  | .idle => framingError p t
  | .inFrame =>
    match (t.port p).frame with
    | some f => takeData p good v f t
    | none => t
  | .discarding | .off => t

theorem exec_data_good {s : State} {p : PortIx} (h : (s.port p).state ≠ .off) {parity : Bool} {v : BitVec 16}
    (hgood : parityGood parity 3 v = true) : exec (.data p parity v) s = .next (takeWord p true v s) := by
  rw [exec, execData, if_neg h, hgood]
  rfl

theorem exec_data_bad {s : State} {p : PortIx} (h : (s.port p).state ≠ .off) {parity : Bool} {v : BitVec 16}
    (hbad : parityGood parity 3 v = false) : exec (.data p parity v) s = .next (takeWord p false v (parityError p s)) := by
  rw [exec, execData, if_neg h, hbad]
  rfl

theorem takeWord_idle {t : State} {p : PortIx} (h : (t.port p).state = .idle) (good : Bool) (v : BitVec 16) :
    takeWord p good v t = framingError p t := by
  rw [takeWord, h]

theorem takeWord_discarding {t : State} {p : PortIx} (h : (t.port p).state = .discarding) (good : Bool) (v : BitVec 16) :
    takeWord p good v t = t := by
  rw [takeWord, h]

theorem takeWord_inFrame {t : State} {p : PortIx} {f : FrameCtx} (h : (t.port p).state = .inFrame) (hf : (t.port p).frame = some f)
    (good : Bool) (v : BitVec 16) : takeWord p good v t = takeData p good v f t := by
  rw [takeWord, h]
  dsimp only
  rw [hf]

/-- A good word out of frame (R46, R49). -/
theorem exec_word_outOfFrame {s : State} {p : PortIx} (h : (s.port p).state ≠ .off) {parity : Bool} {v : BitVec 16} {k : BitVec 3} {c : Instr}
    (hc : (s.port p).state = .idle ∧ (k, c) ∈ [(2, Instr.lineStart p parity v), (3, .data p parity v), (4, .frameEnd p parity v)] ∨
      5 ≤ k.toNat ∧ c = .undefinedKindWord p k parity v)
    (hgood : parityGood parity k v = true) : exec c s = .next (framingError p s) := by
  obtain ⟨hidle, hc⟩ | ⟨hk, rfl⟩ := hc
  · simp only [List.mem_cons, Prod.mk.injEq, List.not_mem_nil, or_false] at hc
    obtain ⟨rfl, rfl⟩ | ⟨rfl, rfl⟩ | ⟨rfl, rfl⟩ := hc
    · rw [exec, execLineStart, if_neg h, hgood, hidle]; rfl
    · rw [exec_data_good h hgood, takeWord_idle hidle]
    · rw [exec, execFrameEnd, if_neg h, hgood, hidle]; rfl
  · rw [exec, execUndefinedKindWord, if_neg (not_or.2 ⟨h, Nat.not_lt.2 hk⟩), hgood]; rfl

theorem parityError_port_state (p : PortIx) (s : State) : ((parityError p s).port p).state = (s.port p).state :=
  congrArg PortView.state ((parityError_recorded p s).port p)

/-- Settles O14: a word's number is its fields, and the words out of place go to the two errors of a camera word. -/
theorem wordsOutOfPlace : Obligations.WordsOutOfPlace := by
  refine ⟨fun p w parity kind v hw => ?_, fun s p parity kind v hoff => exec_word_off hoff parity kind v, fun s p parity v hgood => ?_,
    fun s p parity v hstate => ⟨fun hgood => ?_, fun hgood => ?_, fun hgood => ?_⟩, fun s p parity v hon =>
      ⟨fun k c hc hbad => ⟨_, exec_word_badParity hon hc hbad, (parityError_does p s).raised, (parityError_does p s).rest⟩,
        fun k c hc hgood => ⟨_, exec_word_outOfFrame hon hc hgood, (framingError_does p s).raised, (framingError_does p s).rest⟩,
        fun hidle hbad => ?_, fun hstate hbad =>
          ⟨_, (exec_data_bad hon hbad).trans (congrArg _ (takeWord_discarding ((parityError_port_state p s).trans hstate) _ v)), (parityError_does p s).raised, (parityError_does p s).rest⟩⟩⟩
  · obtain rfl : w = cameraWord parity kind v := BitVec.eq_of_toNat_eq (hw.trans (cameraWord_toNat parity kind v).symm)
    refine ⟨fun k c hc hk => ?_, cameraCommand_undefined p parity v⟩
    subst hk
    exact cameraCommand_defined hc
  · rw [exec, execIdleWord, hgood]
    simp
  · rw [exec, execLineStart, if_neg (by rw [hstate]; nofun), hgood, hstate]; rfl
  · rw [exec_data_good (by rw [hstate]; nofun) hgood, takeWord_discarding hstate]
  · rw [exec, execFrameEnd, if_neg (by rw [hstate]; nofun), hgood, hstate]; rfl
  · have herrors := ((parityError_does p s).then (framingError_does p (parityError p s))
      (g := fun x => x.setPort p { x.port p with framingErrors := (x.port p).framingErrors + 1 }))
    have hcount : ((parityError p s).port p).framingErrors = (s.port p).framingErrors := by
      rw [← withReportsOf_port (parityError p s) s, (parityError_does p s).rest]
      simp
    refine ⟨_, (exec_data_bad hon hbad).trans (congrArg _ (takeWord_idle ((parityError_port_state p s).trans hidle) _ v)), herrors.raised.perm fun f => ?_, herrors.rest.trans (by simp)⟩
    rw [hcount]
    simp only [List.mem_append, List.mem_cons]
    tauto

/-! ### LINE_START (R54) -/

theorem saturatingInc_lines (x : BitVec 16) : saturatingInc x = if x = 65535 then 65535 else x + 1 := by
  have hmax : BitVec.allOnes 16 = 65535 := rfl
  rw [saturatingInc, hmax]
  split
  · assumption
  · rfl

/-- The line count in a capture record (R119). -/
theorem frameRecord_lines (p : PortIx) (f : FrameCtx) (now : LineTime) :
    ((frameRecord p f now).payload.drop 43).take 2 = be 2 f.lines.toNat := by
  simp [frameRecord, CaptureRecord.payload, be]

/-- Settles O19. -/
theorem lineStartCounts : Obligations.LineStartCounts := by
  refine fun s p parity v hgood => ⟨fun f hstate hframe => ?_, fun hidle => ?_, fun hstate => ?_, fun f now => frameRecord_lines p f now⟩
  · rw [exec, execLineStart, if_neg (by rw [hstate]; nofun), hgood, hstate]
    dsimp only
    rw [hframe, ← saturatingInc_lines]
    rfl
  · have herror := framingError_does p s
    exact ⟨_, exec_word_outOfFrame (by rw [hidle]; nofun) (.inl ⟨hidle, .head _⟩) hgood, herror.raised, herror.rest⟩
  · rw [exec, execLineStart, if_neg (by rw [hstate]; nofun), hgood, hstate]; rfl

end Sys2Proof.Machine
end

section
/-! PROOFS. DATA words inside a frame: placed in the assembly cell, taking a new cell, truncated (O20, O21, O22). -/

namespace Sys2Proof.Machine

/-! ### A frame's context set twice -/

theorem State.setFrame_setPort (s : State) (p : PortIx) (x : Port) (f : Option FrameCtx) :
    (s.setPort p x).setFrame p f = s.setPort p { x with frame := f } := by
  simp [State.setFrame]

theorem State.setFrame_setFrame (s : State) (p : PortIx) (f g : Option FrameCtx) : (s.setFrame p f).setFrame p g = s.setFrame p g := by
  simp [State.setFrame]

theorem State.setFrame_of_frame {s : State} {p : PortIx} {f : Option FrameCtx} (h : (s.port p).frame = f) : s.setFrame p f = s := by
  rw [State.setFrame, ← h]
  exact State.setPort_self s p

/-! ### The parity of a DATA word in a frame (R46) -/

/-- A DATA word's parity counted. -/
def countParity (p : PortIx) (good : Bool) (s : State) : State := if good then s else parityError p s

/-- The port once a DATA word's parity is counted. -/
def Port.parityCounted (good : Bool) (x : Port) : Port :=
  { x with parityErrors := if good then x.parityErrors else x.parityErrors + 1 }

theorem countParity_does (p : PortIx) (good : Bool) (s : State) :
    Does (if good then [] else .camParity p :: wrapsAt (s.port p).parityErrors (.camWrap p)) s
      (s.setPort p ((s.port p).parityCounted good)) (countParity p good s) := by
  cases good with
  | true => exact ⟨Raised.refl s, (State.setPort_self s p).symm⟩
  | false => exact parityError_does p s

theorem countParity_port (p : PortIx) (good : Bool) (s : State) : (countParity p good s).port p = (s.port p).parityCounted good := by
  rw [← withReportsOf_port (countParity p good s) s, (countParity_does p good s).rest, State.setPort_port_self]

theorem countParity_cbm (p : PortIx) (good : Bool) (s : State) : (countParity p good s).cbm = s.cbm := by
  rw [← withReportsOf_cbm (countParity p good s) s, (countParity_does p good s).rest, State.setPort_cbm]

/-- A DATA word in a frame. -/
theorem exec_data_inFrame {s : State} {p : PortIx} {f : FrameCtx} (h : (s.port p).state = .inFrame) (hf : (s.port p).frame = some f)
    (parity : Bool) (v : BitVec 16) : exec (.data p parity v) s =
      .next (takeData p (parityGood parity 3 v) v f (countParity p (parityGood parity 3 v) s)) := by
  have hon : (s.port p).state ≠ .off := by rw [h]; nofun
  have hport := countParity_port p (parityGood parity 3 v) s
  have htake := takeWord_inFrame (t := countParity p (parityGood parity 3 v) s) (p := p) (f := f) (by rw [hport]; exact h)
    (by rw [hport]; exact hf) (parityGood parity 3 v) v
  rw [← htake]
  cases hgood : parityGood parity 3 v with
  | true => exact exec_data_good hon hgood
  | false => exact exec_data_bad hon hgood

/-! ### The context of a frame at a DATA word (R53) -/

/-- The sums of a context with a DATA word received. -/
def FrameCtx.withWord (good : Bool) (v : BitVec 16) (f : FrameCtx) : FrameCtx :=
  { f with
    computed := f.computed + v, received := if f.received = 4294967295 then f.received else f.received + 1
    parity := f.parity || !good }

theorem takeData_eq (p : PortIx) (good : Bool) (v : BitVec 16) (f : FrameCtx) (s : State) :
    takeData p good v f s = placeWord p v (f.withWord good v) (s.setFrame p (some (f.withWord good v))) := rfl

/-! ### Room in the assembly cell (R95, R118) -/

theorem placeWord_room {p : PortIx} {v : BitVec 16} {f : FrameCtx} {s : State} {a : Assembly} (ha : f.assembly = some a) (hroom : a.words < 28) :
    placeWord p v f s = placeInCell p v a f s := by
  rw [placeWord, ha]
  exact if_pos hroom

/-- Placing a word sets the context anew. -/
theorem placeInCell_setFrame (p : PortIx) (v : BitVec 16) (a : Assembly) (f : FrameCtx) (g : Option FrameCtx) (s : State) :
    placeInCell p v a f (s.setFrame p g) = placeInCell p v a f s := by
  unfold placeInCell
  exact State.setFrame_setFrame (s.setMem (writeWord s.cbm.mem a.index a.words v)) p g _

/-- Settles O20. -/
theorem dataFillsCell : Obligations.DataFillsCell := by
  intro s p parity v f a hstate hframe ha hroom hwf good
  have hparity := countParity_does p good s
  have hdone := hparity.done (fun x => (x.setMem (writeWord x.cbm.mem a.index a.words v)).setFrame p
    (some { f.withWord good v with
      assembly := some { index := a.index, words := a.words + 1 }, forwarded := f.forwarded + 1 }))
  have hplace : takeData p good v f (countParity p good s) =
      ((countParity p good s).setMem (writeWord (countParity p good s).cbm.mem a.index a.words v)).setFrame p
        (some { f.withWord good v with
          assembly := some { index := a.index, words := a.words + 1 }, forwarded := f.forwarded + 1 }) := by
    rw [takeData_eq, placeWord_room (f := f.withWord good v) ha hroom, placeInCell_setFrame]
    rfl
  refine ⟨_, exec_data_inFrame hstate hframe parity v, ?_⟩
  change Raised _ s (takeData p good v f (countParity p good s)) ∧ (takeData p good v f (countParity p good s)).withReportsOf s = _ ∧ _
  rw [hplace]
  refine ⟨hdone.raised, hdone.rest.trans ?_, fun addr => ?_⟩
  · have hmem : (countParity p good s).cbm.mem = s.cbm.mem := by rw [countParity_cbm]
    change ((s.setMem (writeWord s.cbm.mem a.index a.words v)).setPort p _).setFrame p _ = _
    rw [State.setFrame_setPort, State.setFrame_cbm, State.setMem_cbm_mem, hmem]
    rfl
  · change readByte (writeWord (countParity p good s).cbm.mem a.index a.words v) addr = _
    rw [countParity_cbm]
    exact readByte_writeWord hwf ..

/-! ### A full cell committed, or none (R53, R95, R96) -/

/-- The frame's assembly cell as it joins the queue, if there is one. -/
def FrameCtx.committedCell (last : Bool) (f : FrameCtx) : List QCell :=
  f.assembly.toList.map fun a =>
    { index := a.index, kind := commitKind f.committed last, len := 2 * a.words, frameNo := f.frameNo, closing := false }

/-- The context once its assembly cell, if there is one, has joined the queue. -/
def FrameCtx.cellCommitted (f : FrameCtx) : FrameCtx := { f with assembly := none, committed := f.committed || f.assembly.isSome }

theorem FrameCtx.cellCommitted_of_none {f : FrameCtx} (h : f.assembly = none) : f.cellCommitted = f := by
  obtain ⟨⟩ := f
  subst h
  simp [FrameCtx.cellCommitted]

theorem commitCell_eq {p : PortIx} {f : FrameCtx} {s : State} (h : (s.port p).frame = some f) (last : Bool) :
    commitCell p last f s = (s.setStream f.stream
      { s.stream f.stream with queue := (s.stream f.stream).queue ++ f.committedCell last }).setFrame p (some f.cellCommitted) := by
  cases ha : f.assembly with
  | none =>
    rw [commitCell_none _ _ _ _ ha, FrameCtx.committedCell, ha, FrameCtx.cellCommitted_of_none ha]
    simp only [Option.toList_none, List.map_nil, List.append_nil]
    rw [State.setStream_self, State.setFrame_of_frame h]
  | some a =>
    rw [commitCell_some _ _ _ _ a ha, FrameCtx.committedCell, FrameCtx.cellCommitted, ha]
    simp [enqueue]

/-- A word that needs a new cell. -/
theorem placeWord_newCell {p : PortIx} {v : BitVec 16} {f : FrameCtx} {s : State} (h : (s.port p).frame = some f)
    (hfull : ∀ a, f.assembly = some a → a.words = 28) :
    placeWord p v f s = placeInNewCell p v f.cellCommitted ((s.setStream f.stream
      { s.stream f.stream with queue := (s.stream f.stream).queue ++ f.committedCell (f.remaining == 0) }).setFrame p
        (some f.cellCommitted)) := by
  rw [← commitCell_eq h]
  cases ha : f.assembly with
  | none =>
    rw [FrameCtx.cellCommitted_of_none ha, commitCell_none _ _ _ _ ha, placeWord, ha]
  | some a =>
    rw [placeWord, ha]
    dsimp only
    rw [if_neg (by rw [hfull a ha]; decide), FrameCtx.cellCommitted, ha]
    simp

theorem padPayload_nil (n : Nat) : (padPayload []).getD n 0 = 0 := by
  simp only [padPayload, List.nil_append, List.take_replicate, List.getD_eq_getElem?_getD, List.getElem?_replicate]
  split <;> rfl

/-- The cell's bytes once its first word is written: the other payload bytes are zero (R89, R118). -/
theorem readPayload_firstWord {m : List Host.Cell} (h : Memory.wf m = true) (k : Nat) (v : BitVec 16) :
    readPayload (writeWord (writePayload m k []) k 0 v) k = [v.extractLsb' 8 8, v.extractLsb' 0 8] ++ List.replicate 54 0 := by
  have hbyte (n : Nat) (hn : n < 56) : readByte (writeWord (writePayload m k []) k 0 v) (payloadAddr k + n) =
      if n = 0 then v.extractLsb' 8 8 else if n = 1 then v.extractLsb' 0 8 else 0 := by
    rw [readByte_writeWord (Memory.wf_writePayload h k []), readByte_writePayload h, payloadAddr]
    rw [padPayload_nil, if_pos (show 64 * k + 8 ≤ k * 64 + 8 + n ∧ k * 64 + 8 + n < 64 * k + 64 by omega)]
    have h0 : k * 64 + 8 + n = 64 * k + 8 + 2 * 0 ↔ n = 0 := by omega
    have h1 : k * 64 + 8 + n = 64 * k + 8 + 2 * 0 + 1 ↔ n = 1 := by omega
    simp only [h0, h1]
  have hbytes := List.map_congr_left (l := List.range 56) fun n hn => hbyte n (List.mem_range.1 hn)
  rw [readPayload, readBytes_eq]
  exact hbytes.trans rfl

theorem readByte_firstWord_outside {m : List Host.Cell} (h : Memory.wf m = true) (k : Nat) (v : BitVec 16) (addr : Nat)
    (hout : addr < 64 * k + 8 ∨ 64 * k + 64 ≤ addr) :
    readByte (writeWord (writePayload m k []) k 0 v) addr = readByte m addr := by
  rw [readByte_writeWord (Memory.wf_writePayload h k []), readByte_writePayload h, if_neg (by omega), if_neg (by omega), if_neg (by omega)]

theorem placeInNewCell_of_head {p : PortIx} {v : BitVec 16} {f : FrameCtx} {s : State} {k : Nat} {runs : List Run}
    (hremaining : f.remaining ≠ 0) (hfree : takeHead s.cbm.free = some (k, runs)) :
    placeInNewCell p v f s = placeInCell p v { index := k, words := 0 } { f with remaining := f.remaining - 1 }
      (((s.setFree runs).setMem (writePayload s.cbm.mem k [])).setReserved (s.cbm.reserved - 1)) := by
  rw [placeInNewCell, if_neg hremaining, hfree]

/-- Placing a word in a new cell, or dropping it, sets the context anew. -/
theorem placeInNewCell_setFrame (p : PortIx) (v : BitVec 16) (f : FrameCtx) (g : Option FrameCtx) (s : State) :
    placeInNewCell p v f (s.setFrame p g) = placeInNewCell p v f s := by
  unfold placeInNewCell
  split
  · rw [truncateWord, truncateWord, State.setFrame_setFrame]
  · rw [State.setFrame_cbm]
    split
    · rw [truncateWord, truncateWord, State.setFrame_setFrame]
    · rename_i index runs _
      generalize writePayload s.cbm.mem index [] = m
      exact placeInCell_setFrame p v _ _ g (((s.setFree runs).setMem m).setReserved (s.cbm.reserved - 1))

/-- What a DATA word does that takes the cell `k` at the head of the free list, before which `runs` is left (R90, R94, R95). -/
def newCellTaken (p : PortIx) (good : Bool) (v : BitVec 16) (f : FrameCtx) (k : Nat) (runs : List Run) (s : State) : State :=
  ((((s.setStream f.stream { s.stream f.stream with queue := (s.stream f.stream).queue ++ f.committedCell false }).setFree
    runs).setMem (writeWord (writePayload s.cbm.mem k []) k 0 v)).setReserved (s.cbm.reserved - 1)).setFrame p
      (some { (f.withWord good v).cellCommitted with
        remaining := f.remaining - 1, assembly := some { index := k, words := 1 }, forwarded := f.forwarded + 1 })

theorem takeData_newCell {p : PortIx} {good : Bool} {v : BitVec 16} {f : FrameCtx} {s : State} {k : Nat} {runs : List Run}
    (hfull : ∀ a, f.assembly = some a → a.words = 28) (hremaining : 0 < f.remaining) (hfree : takeHead s.cbm.free = some (k, runs)) :
    takeData p good v f s = newCellTaken p good v f k runs s := by
  have hlast : ((f.withWord good v).remaining == 0) = false := beq_false_of_ne hremaining.ne'
  have hcommute : (s.setFrame p (some (f.withWord good v))).setStream f.stream
      { s.stream f.stream with queue := (s.stream f.stream).queue ++ f.committedCell false } =
    (s.setStream f.stream { s.stream f.stream with queue := (s.stream f.stream).queue ++ f.committedCell false }).setFrame p
      (some (f.withWord good v)) := rfl
  rw [takeData_eq, placeWord_newCell (f := f.withWord good v) (by simp [State.setFrame_port]) hfull, hlast, placeInNewCell_setFrame]
  refine (congrArg (placeInNewCell p v (f.withWord good v).cellCommitted) hcommute).trans ?_
  rw [placeInNewCell_setFrame]
  refine (placeInNewCell_of_head (f := (f.withWord good v).cellCommitted) (k := k) (runs := runs) hremaining.ne' ?_).trans ?_
  · exact hfree
  · rw [placeInCell, newCellTaken]
    simp only [State.setReserved_cbm_mem, State.setMem_cbm_mem, State.setStream_cbm_mem]
    generalize writeWord (writePayload s.cbm.mem k []) k 0 v = m
    rfl

@[simp] theorem newCellTaken_mem (p : PortIx) (good : Bool) (v : BitVec 16) (f : FrameCtx) (k : Nat) (runs : List Run) (s : State) :
    (newCellTaken p good v f k runs s).cbm.mem = writeWord (writePayload s.cbm.mem k []) k 0 v := by
  simp [newCellTaken]

@[simp] theorem newCellTaken_free (p : PortIx) (good : Bool) (v : BitVec 16) (f : FrameCtx) (k : Nat) (runs : List Run) (s : State) :
    (newCellTaken p good v f k runs s).cbm.free = runs := by
  simp [newCellTaken]

/-- Settles O21. -/
theorem dataTakesNewCell : Obligations.DataTakesNewCell := by
  intro s p parity v f k rest hstate hframe hfull hremaining hfree hwf good full
  obtain ⟨runs, hhead, hrest⟩ := takeHead_of_cons hfree
  have hcbm := countParity_cbm p good s
  have hdone := (countParity_does p good s).done (newCellTaken p good v f k runs) (fun x => by simp [newCellTaken])
    (fun x => by simp [newCellTaken]) (fun x y => by rw [newCellTaken, newCellTaken]; rfl)
  have htake := takeData_newCell (p := p) (good := good) (v := v) (s := countParity p good s) hfull hremaining (by rw [hcbm]; exact hhead)
  have hmem : (newCellTaken p good v f k runs (countParity p good s)).cbm.mem = writeWord (writePayload s.cbm.mem k []) k 0 v := by
    rw [newCellTaken_mem, hcbm]
  have hcell : f.committedCell false = full := by
    cases ha : f.assembly with
    | none => simp [full, FrameCtx.committedCell, ha]
    | some a => cases hc : f.committed <;> simp [full, FrameCtx.committedCell, ha, hc, hfull a ha, commitKind]
  refine ⟨_, exec_data_inFrame hstate hframe parity v, ?_⟩
  change Raised _ s (takeData p good v f (countParity p good s)) ∧ (takeData p good v f (countParity p good s)).withReportsOf s = _ ∧ _
  rw [htake]
  refine ⟨hdone.raised, hdone.rest.trans ?_, by rw [newCellTaken_free, hrest], ?_, fun addr hout => ?_⟩
  · rw [hmem, newCellTaken_free, newCellTaken, hcell, State.setPort_cbm]
    generalize writeWord (writePayload s.cbm.mem k []) k 0 v = m
    exact State.setFrame_setPort (((((s.setStream f.stream { s.stream f.stream with queue := (s.stream f.stream).queue ++ full }).setFree
      runs).setMem m).setReserved (s.cbm.reserved - 1))) p _ _
  · rw [hmem]
    exact readPayload_firstWord hwf k v
  · rw [hmem]
    exact readByte_firstWord_outside hwf k v addr hout

/-! ### No reservation left (R96) -/

/-- What a dropped DATA word does, but for its factors (R53, R96). -/
def wordDropped (p : PortIx) (good : Bool) (v : BitVec 16) (f : FrameCtx) (s : State) : State :=
  (s.setStream f.stream { s.stream f.stream with queue := (s.stream f.stream).queue ++ f.committedCell true }).setFrame p
    (some { (f.withWord good v).cellCommitted with truncated := true })

theorem takeData_dropped {p : PortIx} {good : Bool} {v : BitVec 16} {f : FrameCtx} {s : State}
    (hfull : ∀ a, f.assembly = some a → a.words = 28) (hremaining : f.remaining = 0) :
    takeData p good v f s = setFactor (.camTruncated p) (wordDropped p good v f s) := by
  have hlast : ((f.withWord good v).remaining == 0) = true := beq_iff_eq.2 hremaining
  have hnone : (f.withWord good v).cellCommitted.remaining = 0 := hremaining
  rw [takeData_eq, placeWord_newCell (f := f.withWord good v) (by simp [State.setFrame_port]) hfull, hlast, placeInNewCell, if_pos hnone,
    truncateWord]
  refine congrArg _ ((State.setFrame_setFrame _ p _ _).trans ?_)
  exact State.setFrame_setFrame (s.setStream f.stream
    { s.stream f.stream with queue := (s.stream f.stream).queue ++ f.committedCell true }) p _ _

/-- Settles O22. -/
theorem dataTruncated : Obligations.DataTruncated := by
  intro s p parity v f hstate hframe hfull hremaining good full
  have hdone := ((countParity_does p good s).done (wordDropped p good v f)).then (g := id) (setFactor_does (.camTruncated p) _)
  have htake := takeData_dropped (p := p) (good := good) (v := v) (s := countParity p good s) hfull hremaining
  have hcell : f.committedCell true = full := by
    cases ha : f.assembly with
    | none => simp [full, FrameCtx.committedCell, ha]
    | some a => cases hc : f.committed <;> simp [full, FrameCtx.committedCell, ha, hc, hfull a ha, commitKind]
  refine ⟨_, exec_data_inFrame hstate hframe parity v, ?_⟩
  change Raised _ s (takeData p good v f (countParity p good s)) ∧ (takeData p good v f (countParity p good s)).withReportsOf s = _
  rw [htake]
  refine ⟨hdone.raised.perm fun g => ?_, hdone.rest.trans ?_⟩
  · rw [List.mem_append, List.mem_singleton, List.mem_cons, or_comm]
  · rw [id, wordDropped, hcell]
    exact State.setFrame_setPort (s.setStream f.stream { s.stream f.stream with queue := (s.stream f.stream).queue ++ full }) p _ _

end Sys2Proof.Machine
end

section
/-! PROOFS. FRAME_START at an IDLE port: the match, the admission, the refusal, the orphan (O15, O16, O17). -/

namespace Sys2Proof.Machine

/-! ### The match request (R69, R70) -/

theorem camCount_eq (v : BitVec 16) : v.setWidth 8 = v.extractLsb' 0 8 :=
  BitVec.eq_of_getLsbD_eq fun i hi => by simp [hi]

theorem format_eq (v : BitVec 16) : (v >>> 8).setWidth 8 = v.extractLsb' 8 8 :=
  BitVec.eq_of_getLsbD_eq fun i hi => by simp [hi]

/-- The oldest exposure is the match. -/
theorem matchFrame_oldest {s : State} {p : PortIx} {c : BitVec 8} {e : Exposure} {younger : List Exposure} (hlist : s.exposures p = e :: younger)
    (hcount : (s.port p).seqCheck = true → e.count = c) : matchFrame p c s = (some e, s.setExposures p younger) := by
  unfold matchFrame
  rw [hlist]
  split
  · rename_i hseq
    rw [splitAtCount, if_pos (hcount hseq)]
    rfl
  · rfl

theorem splitAtCount_none {c : BitVec 8} {list : List Exposure} (h : ∀ x ∈ list, x.count ≠ c) : splitAtCount c list = none := by
  induction list with
  | nil => rfl
  | cons e rest ih =>
    rw [splitAtCount, if_neg (h e List.mem_cons_self), ih fun x hx => h x (List.mem_cons_of_mem _ hx)]
    rfl

/-- No exposure is the match. -/
theorem matchFrame_none {s : State} {p : PortIx} {c : BitVec 8}
    (h : (s.port p).seqCheck = true ∧ (∀ x ∈ s.exposures p, x.count ≠ c) ∨ (s.port p).seqCheck = false ∧ s.exposures p = []) :
    matchFrame p c s = (none, s) := by
  unfold matchFrame
  obtain ⟨hseq, hcounts⟩ | ⟨hseq, hlist⟩ := h
  · rw [if_pos hseq, splitAtCount_none hcounts]
  · rw [if_neg (by simp [hseq]), hlist]

/-! ### The start of a frame (R51) -/

/-- A FRAME_START counted at its port. -/
def countFrame (p : PortIx) (s : State) : State := countPort p Port.frames (fun x n => { x with frames := n }) s

theorem countFrame_does (p : PortIx) (s : State) : Does (wrapsAt (s.port p).frames (.camWrap p)) s
    (s.setPort p { s.port p with frames := (s.port p).frames + 1 }) (countFrame p s) :=
  countPort_does p Port.frames (fun x n => { x with frames := n }) s

/-- A frame start without a match counted, with its factor (R72). -/
def countOrphan (p : PortIx) (s : State) : State :=
  countPort p Port.orphans (fun x n => { x with orphans := n }) (setFactor (.camOrphan p) s)

theorem countOrphan_does (p : PortIx) (s : State) : Does (.camOrphan p :: wrapsAt (s.port p).orphans (.camWrap p)) s
    (s.setPort p { s.port p with orphans := (s.port p).orphans + 1 }) (countOrphan p s) := by
  have hcount := countPort_does p Port.orphans (fun x n => { x with orphans := n }) (setFactor (.camOrphan p) s)
  have hport : (setFactor (.camOrphan p) s).port p = s.port p := setFactor_port ..
  rw [hport] at hcount
  exact (setFactor_does (.camOrphan p) s).then (g := fun x => x.setPort p { s.port p with orphans := (s.port p).orphans + 1 }) hcount

theorem exec_frameStart_idle {s : State} {p : PortIx} {parity : Bool} {v : BitVec 16} (hidle : (s.port p).state = .idle)
    (hgood : parityGood parity 1 v = true) : exec (.frameStart p parity v) s = .next (beginFrame p v s) := by
  rw [exec, execFrameStart, if_neg (by rw [hidle]; nofun), hgood, hidle]
  rfl

theorem Does.port {fs : List Factor} {s u t : State} (h : Does fs s u t) (q : PortIx) : t.port q = u.port q := by
  rw [← withReportsOf_port t s, h.rest]

theorem Does.exposures {fs : List Factor} {s u t : State} (h : Does fs s u t) (q : PortIx) : t.exposures q = u.exposures q := by
  rw [← withReportsOf_exposures t s, h.rest]

theorem Does.cbm {fs : List Factor} {s u t : State} (h : Does fs s u t) : t.cbm = u.cbm := by
  rw [← withReportsOf_cbm t s, h.rest]

/-- A FRAME_START whose match is the oldest exposure. -/
theorem beginFrame_match {s : State} {p : PortIx} {v : BitVec 16} {e : Exposure} {younger : List Exposure}
    (hlist : s.exposures p = e :: younger) (hcount : (s.port p).seqCheck = true → e.count = v.extractLsb' 0 8) :
    beginFrame p v s = offerFrame p e.stream (some e) v ((countFrame p s).setExposures p younger) := by
  have hframe := countFrame_does p s
  have hmatch := matchFrame_oldest (s := countFrame p s) (p := p) (c := v.setWidth 8) (e := e) (younger := younger)
    (by rw [hframe.exposures]; exact hlist) (by rw [hframe.port, camCount_eq, State.setPort_port_self]; exact hcount)
  unfold beginFrame
  change (match matchFrame p (v.setWidth 8) (countFrame p s) with
    | (some e, t) => _
    | (none, t) => _) = _
  rw [hmatch]

/-- A FRAME_START with no match. -/
theorem beginFrame_orphan {s : State} {p : PortIx} {v : BitVec 16}
    (hnone : (s.port p).seqCheck = true ∧ (∀ x ∈ s.exposures p, x.count ≠ v.extractLsb' 0 8) ∨
      (s.port p).seqCheck = false ∧ s.exposures p = []) :
    beginFrame p v s = if (s.port p).orphanForward then offerFrame p (s.port p).defaultStream none v (countOrphan p (countFrame p s))
      else (countOrphan p (countFrame p s)).setPortState p .discarding := by
  have hframe := countFrame_does p s
  have hmatch := matchFrame_none (s := countFrame p s) (p := p) (c := v.setWidth 8)
    (by rw [hframe.port, hframe.exposures, camCount_eq, State.setPort_port_self]; exact hnone)
  have hport : (countOrphan p (countFrame p s)).port p =
      { s.port p with frames := (s.port p).frames + 1, orphans := (s.port p).orphans + 1 } := by
    rw [(countOrphan_does p (countFrame p s)).port, State.setPort_port_self, hframe.port, State.setPort_port_self]
  unfold beginFrame
  change (match matchFrame p (v.setWidth 8) (countFrame p s) with
    | (some e, t) => _
    | (none, t) => _) = _
  rw [hmatch]
  change (if ((countOrphan p (countFrame p s)).port p).orphanForward then
    offerFrame p ((countOrphan p (countFrame p s)).port p).defaultStream none v (countOrphan p (countFrame p s))
    else (countOrphan p (countFrame p s)).setPortState p .discarding) = _
  rw [hport]

/-! ### The admission (R50, R51, R91) -/

/-- CBM takes a frame of port `p` on stream `i` (R51, R91). -/
structure CanTake (p : PortIx) (i : StreamIx) (s : State) : Prop where
  bound : (s.stream i).boundPort = p
  opened : (s.stream i).state = .opened
  below : (s.stream i).framesHeld < (s.stream i).maxHeld.toNat
  room : s.cbm.reserved + 256 + (s.stream i).reservation.toNat ≤ s.freeCount

theorem CanTake.congr {p : PortIx} {i : StreamIx} {s t : State} (h : CanTake p i s) (hcbm : t.cbm = s.cbm) : CanTake p i t := by
  obtain ⟨hbound, hopened, hbelow, hroom⟩ := h
  unfold State.stream State.freeCount at *
  constructor
  · rwa [State.stream, hcbm]
  · rwa [State.stream, hcbm]
  · rwa [State.stream, hcbm]
  · rwa [State.stream, State.freeCount, hcbm]

/-- What an admission makes of a state, but for a wrap of the stream's counter (R50, R91). -/
def frameAdmitted (p : PortIx) (i : StreamIx) (e : Option Exposure) (v : BitVec 16) (s : State) : State :=
  ((s.setReserved (s.cbm.reserved + (s.stream i).reservation.toNat)).setStream i
    { s.stream i with
      framesHeld := (s.stream i).framesHeld + 1, frameCounter := (s.stream i).frameCounter + 1, inProgress := true
      framesAdmitted := (s.stream i).framesAdmitted + 1 }).setPort p
    { s.port p with
      state := .inFrame
      frame := some
        { exposure := e, stream := i, frameNo := (s.stream i).frameCounter + 1, camCount := v.extractLsb' 0 8
          format := v.extractLsb' 8 8, startL := s.bpt.lineTime, endL := none, remaining := (s.stream i).reservation.toNat
          received := 0, forwarded := 0, lines := 0, computed := 0, rxChecksum := 0, parity := false, checksumBad := false
          aborted := false, truncated := false, assembly := none, committed := false } }

theorem grantFrame_does (i : StreamIx) (s : State) : Does (wrapsAt (s.stream i).framesAdmitted .cbmWrap) s
    ((s.setReserved (s.cbm.reserved + (s.stream i).reservation.toNat)).setStream i
      { s.stream i with
        framesHeld := (s.stream i).framesHeld + 1, frameCounter := (s.stream i).frameCounter + 1, inProgress := true
        framesAdmitted := (s.stream i).framesAdmitted + 1 }) (grantFrame i s) := by
  have hreserve := (Does.refl s).done (reserveFrame i)
  have hcount := countStream_does i Stream.framesAdmitted (fun x n => { x with framesAdmitted := n }) (reserveFrame i s)
  have hboth := hreserve.then
    (g := fun x => x.setStream i { x.stream i with framesAdmitted := (x.stream i).framesAdmitted + 1 }) hcount
  have hstream : (reserveFrame i s).stream i =
      { s.stream i with framesHeld := (s.stream i).framesHeld + 1, frameCounter := (s.stream i).frameCounter + 1, inProgress := true } :=
    State.setStream_stream_self ..
  rw [grantFrame_eq]
  refine ⟨?_, hboth.rest.trans ?_⟩
  · have hraised := hboth.raised
    rw [hstream] at hraised
    exact hraised
  · rw [hstream, reserveFrame, State.setStream_setStream]

theorem judgeFrame_granted {p : PortIx} {i : StreamIx} {s : State} (h : CanTake p i s) : judgeFrame i s = .granted := by
  rw [judgeFrame, if_neg (not_not.2 h.opened), if_neg (not_not.2 h.below)]
  exact if_pos h.room

theorem offerFrame_admits {p : PortIx} {i : StreamIx} {s : State} (h : CanTake p i s) (e : Option Exposure) (v : BitVec 16) :
    Does (wrapsAt (s.stream i).framesAdmitted .cbmWrap) s (frameAdmitted p i e v s) (offerFrame p i e v s) := by
  have hgrant := grantFrame_does i s
  have hstream : (grantFrame i s).stream i = { s.stream i with
      framesHeld := (s.stream i).framesHeld + 1, frameCounter := (s.stream i).frameCounter + 1, inProgress := true
      framesAdmitted := (s.stream i).framesAdmitted + 1 } := by
    rw [← withReportsOf_stream _ s, hgrant.rest, State.setStream_stream_self]
  have hoffer : offerFrame p i e v s = (grantFrame i s).setPort p
      { s.port p with
        state := .inFrame
        frame := some (newFrame i e v ((s.stream i).frameCounter + 1) (s.stream i).reservation.toNat s.lineTime) } := by
    rw [offerFrame, if_neg (not_not.2 h.bound), judgeFrame_granted h]
    dsimp only
    rw [hstream, grantFrame_port]
  rw [hoffer, newFrame, camCount_eq, format_eq]
  exact hgrant.done (fun x => x.setPort p _)

/-- Settles O15: the word is counted, the match leaves the list, CBM takes the frame. -/
theorem frameStartAdmits : Obligations.FrameStartAdmits := by
  intro s p parity v e younger hidle hgood hlist hcount hbound hopened hbelow hroom i
  have hmatched := (countFrame_does p s).done (fun x => x.setExposures p younger)
  have htakes : CanTake p i ((countFrame p s).setExposures p younger) :=
    CanTake.congr ⟨hbound, hopened, hbelow, hroom⟩ (countFrame_does p s).cbm
  have hstream : ((countFrame p s).setExposures p younger).stream i = s.stream i := by
    rw [State.setExposures_stream, State.stream, (countFrame_does p s).cbm]
    rfl
  have hdone := hmatched.then (g := frameAdmitted p i (some e) v) (offerFrame_admits htakes (some e) v)
  rw [hstream] at hdone
  refine ⟨_, exec_frameStart_idle hidle hgood, ?_⟩
  rw [beginFrame_match hlist hcount]
  refine ⟨hdone.raised, hdone.rest.trans ?_⟩
  rw [frameAdmitted]
  simp only [State.setExposures_port, State.setPort_port_self]
  exact State.setPort_setPort (((s.setExposures p younger).setReserved (s.cbm.reserved + (s.stream i).reservation.toNat)).setStream i _) p _ _

/-! ### The refusal (R51, R80, R92, R119) -/

/-- What a refused frame does: the port goes DISCARDING, the refusal and its factor, and a REJECTED record to the stream. -/
structure FrameRefused (p : PortIx) (i : StreamIx) (v : Verdict) (payload : List Byte) (s t : State) : Prop where
  cpr : t.cpr = (s.setPortState p .discarding).cpr
  xcr : t.xcr = s.xcr
  bpt : t.bpt = s.bpt
  trq : t.trq = s.trq
  reserved : t.cbm.reserved = s.cbm.reserved
  stream : ∃ q n, t.stream i = { s.stream i with framesRejected := (s.stream i).framesRejected + 1, queue := q, recordsLost := n }
  others : ∀ k, k ≠ i → t.stream k = s.stream k
  limit : t.evu.has .cbmRejectLimit = (s.evu.has .cbmRejectLimit || decide (v = .heldLimit))
  noBuffer : t.evu.has .cbmRejectNoBuffer = (s.evu.has .cbmRejectNoBuffer || decide (v = .noRoom))
  keeps : ∀ f, s.evu.has f = true → t.evu.has f = true
  went : RecordWent i .capture payload (s.stream i).frameCounter false s t

/-- The factor of a refusal (R92). -/
def Verdict.factors : Verdict → List Factor
  | .heldLimit => [.cbmRejectLimit]
  | .noRoom => [.cbmRejectNoBuffer]
  | .granted | .notOpen => []

theorem countRefusal_does (i : StreamIx) (v : Verdict) (s : State) :
    Does (wrapsAt (s.stream i).framesRejected .cbmWrap ++ v.factors) s
      (s.setStream i { s.stream i with framesRejected := (s.stream i).framesRejected + 1 }) (countRefusal i v s) := by
  have hcount := countStream_does i Stream.framesRejected (fun x n => { x with framesRejected := n }) s
  cases v with
  | granted | notOpen => exact hcount.then (g := id) (Does.refl _)
  | heldLimit | noRoom => exact hcount.then (g := id) (setFactor_does _ _)

/-- `RecordWent` looks at the stream's state, queue and lost records, the free list, the reserved total and the DRAM before. -/
theorem RecordWent.of_same {i : StreamIx} {kind : CellKind} {payload : List Byte} {f : BitVec 8} {closing : Bool} {s s' t : State}
    (h : RecordWent i kind payload f closing s' t) (hstate : (s'.stream i).state = (s.stream i).state)
    (hqueue : (s'.stream i).queue = (s.stream i).queue) (hlost : (s'.stream i).recordsLost = (s.stream i).recordsLost)
    (hfree : s'.cbm.free = s.cbm.free) (hreserved : s'.cbm.reserved = s.cbm.reserved) (hmem : s'.cbm.mem = s.cbm.mem) :
    RecordWent i kind payload f closing s t := by
  unfold RecordWent State.freeCount at *
  rw [hstate, hqueue, hlost, hfree, hreserved, hmem] at h
  exact h

theorem mem_wrapsAt {old : BitVec 32} {f g : Factor} (h : g ∈ wrapsAt old f) : g = f := by
  unfold wrapsAt at h
  split at h
  · exact List.mem_singleton.1 h
  · nomatch h

theorem refuseFrame_refuses (p : PortIx) (i : StreamIx) (v : Verdict) (e : Option Exposure) (value : BitVec 16) (s : State) :
    FrameRefused p i v (rejectedRecord p e (value.extractLsb' 0 8) (value.extractLsb' 8 8) (s.stream i).frameCounter s.bpt.lineTime).payload s
      (refuseFrame p i v e value s) := by
  have hcount := countRefusal_does i v s
  have hcbm := hcount.cbm
  have hstream : (countRefusal i v s).stream i = { s.stream i with framesRejected := (s.stream i).framesRejected + 1 } := by
    rw [← withReportsOf_stream _ s, hcount.rest, State.setStream_stream_self]
  have hrefuse : refuseFrame p i v e value s = (handRecord i .capture (rejectedRecord p e (value.extractLsb' 0 8) (value.extractLsb' 8 8)
      (s.stream i).frameCounter s.bpt.lineTime).payload (s.stream i).frameCounter false (countRefusal i v s)).setPortState p .discarding := by
    rw [← camCount_eq, ← format_eq, refuseFrame]
    rw [hstream, countRefusal_lineTime]
    rfl
  rw [hrefuse]
  generalize (rejectedRecord p e (value.extractLsb' 0 8) (value.extractLsb' 8 8) (s.stream i).frameCounter s.bpt.lineTime).payload = payload
  have hsetup := handRecord_sameSetup i .capture payload (s.stream i).frameCounter (countRefusal i v s)
  have hraised := hcount.raised.trans (handRecord_raised i .capture payload (s.stream i).frameCounter false (countRefusal i v s))
  have hwent := handRecord_went i .capture payload (s.stream i).frameCounter false (countRefusal i v s)
  have hfactor (f : Factor) (hf : f = .cbmRejectLimit ∨ f = .cbmRejectNoBuffer) :
      (handRecord i .capture payload (s.stream i).frameCounter false (countRefusal i v s)).evu.has f =
        (s.evu.has f || decide (f ∈ v.factors)) := by
    have hwrap : f ≠ .cbmWrap := by obtain rfl | rfl := hf <;> decide
    have hlost : f ≠ .cbmRecordLost := by obtain rfl | rfl := hf <;> decide
    have hmem : f ∈ (wrapsAt (s.stream i).framesRejected .cbmWrap ++ v.factors) ++ (if ((countRefusal i v s).stream i).state = .closed ∨
        (countRefusal i v s).freeCount ≤ (countRefusal i v s).cbm.reserved then
          wrapsAt ((countRefusal i v s).stream i).recordsLost .cbmWrap ++ [.cbmRecordLost] else []) ↔ f ∈ v.factors := by
      rw [List.mem_append, List.mem_append]
      refine ⟨fun h => ?_, fun h => .inl (.inr h)⟩
      obtain (h | h) | h := h
      · exact absurd (mem_wrapsAt h) hwrap
      · exact h
      · split at h
        · obtain h | h := List.mem_append.1 h
          · exact absurd (mem_wrapsAt h) hwrap
          · exact absurd (List.mem_singleton.1 h) hlost
        · nomatch h
    rw [hraised.factors f]
    simp only [hmem]
  refine ⟨?_, by simp, by simp, by simp, ?_, ?_, fun k hk => ?_, ?_, ?_, fun f hf => hraised.has_of_has hf, ?_⟩
  · simp [State.setPortState, State.setPort]
  · rw [State.setPortState_cbm, handRecord_reserved, hcbm]
    rfl
  · obtain ⟨q, n, h⟩ := hsetup.stream i
    exact ⟨q, n, by rw [State.setPortState_stream, h, hstream]⟩
  · rw [State.setPortState_stream, handRecord_stream_ne _ _ _ _ _ _ _ hk, State.stream, hcbm]
    exact State.setStream_stream_ne _ _ _ _ hk
  · exact (hfactor _ (.inl rfl)).trans (by cases v <;> rfl)
  · exact (hfactor _ (.inr rfl)).trans (by cases v <;> rfl)
  · exact RecordWent.of_same (RecordWent.congr hwent rfl rfl id) (by rw [hstream]) (by rw [hstream]) (by rw [hstream]) (by rw [hcbm]; rfl)
      (by rw [hcbm]; rfl) (by rw [hcbm]; rfl)

/-- The verdict by the first condition that fails (R51, R91, R92). -/
theorem offerFrame_refuses {p : PortIx} {i : StreamIx} {s : State} (h : ¬ CanTake p i s) (e : Option Exposure) (value : BitVec 16) :
    ∃ v : Verdict, offerFrame p i e value s = refuseFrame p i v e value s ∧
      (v = .heldLimit ↔ ((s.stream i).boundPort = p ∧ (s.stream i).state = .opened) ∧ ¬ (s.stream i).framesHeld < (s.stream i).maxHeld.toNat) ∧
      (v = .noRoom ↔ ((s.stream i).boundPort = p ∧ (s.stream i).state = .opened) ∧ (s.stream i).framesHeld < (s.stream i).maxHeld.toNat) := by
  by_cases hbound : (s.stream i).boundPort = p
  · rw [offerFrame, if_neg (not_not.2 hbound)]
    by_cases hopened : (s.stream i).state = .opened
    · by_cases hbelow : (s.stream i).framesHeld < (s.stream i).maxHeld.toNat
      · have hroom : ¬ s.cbm.reserved + Config.recordRoom + (s.stream i).reservation.toNat ≤ s.freeCount :=
          fun hroom => h ⟨hbound, hopened, hbelow, hroom⟩
        have hjudge : judgeFrame i s = .noRoom := by
          rw [judgeFrame, if_neg (not_not.2 hopened), if_neg (not_not.2 hbelow), if_neg hroom]
        exact ⟨.noRoom, by rw [hjudge], by simp [hbelow], by simp [hbound, hopened, hbelow]⟩
      · have hjudge : judgeFrame i s = .heldLimit := by rw [judgeFrame, if_neg (not_not.2 hopened), if_pos hbelow]
        exact ⟨.heldLimit, by rw [hjudge], by simp [hbound, hopened, Nat.not_lt.1 hbelow], by simp [Nat.not_lt.1 hbelow]⟩
    · have hjudge : judgeFrame i s = .notOpen := by rw [judgeFrame, if_pos hopened]
      exact ⟨.notOpen, by rw [hjudge], by simp [hopened], by simp [hopened]⟩
  · exact ⟨.notOpen, by rw [offerFrame, if_pos hbound], by simp [hbound], by simp [hbound]⟩

/-- The 49 bytes of the REJECTED record of a matched frame (R80, R119). -/
theorem rejectedRecord_matched (p : PortIx) (e : Exposure) (camCount format frameNo : BitVec 8) (l : LineTime) :
    (rejectedRecord p (some e) camCount format frameNo l).payload =
      [0x81, BitVec.ofNat 8 p.val, BitVec.ofNat 8 e.plan.val, e.tag] ++ be 4 e.part.toNat ++ [e.count, camCount, format, frameNo] ++
        be 5 e.fireF.toNat ++ be 6 e.fireL.toNat ++ be 6 l.toNat ++ be 6 l.toNat ++ List.replicate 14 0 := by
  have hsums : be 4 (0 : BitVec 32).toNat ++ be 4 (0 : BitVec 32).toNat ++ be 2 (0 : BitVec 16).toNat ++ be 2 (0 : BitVec 16).toNat ++
      be 2 (0 : BitVec 16).toNat = List.replicate 14 0 := by decide
  rw [← hsums]
  simp [rejectedRecord, CaptureRecord.payload]
  rfl

/-- The 49 bytes of the REJECTED and ORPHAN record of a frame with no match (R72, R80, R119). -/
theorem rejectedRecord_orphan (p : PortIx) (camCount format frameNo : BitVec 8) (l : LineTime) :
    (rejectedRecord p none camCount format frameNo l).payload =
      [0x05, BitVec.ofNat 8 p.val] ++ List.replicate 7 0xFF ++ [camCount, format, frameNo] ++ List.replicate 11 0xFF ++
        be 6 l.toNat ++ be 6 l.toNat ++ List.replicate 14 0 := by
  have hsums : be 4 (0 : BitVec 32).toNat ++ be 4 (0 : BitVec 32).toNat ++ be 2 (0 : BitVec 16).toNat ++ be 2 (0 : BitVec 16).toNat ++
      be 2 (0 : BitVec 16).toNat = List.replicate 14 0 := by decide
  have hpart : be 4 (BitVec.allOnes 32).toNat = List.replicate 4 0xFF := by decide
  have hfireF : be 5 (BitVec.allOnes 40).toNat = List.replicate 5 0xFF := by decide
  have hfireL : be 6 (BitVec.allOnes 48).toNat = List.replicate 6 0xFF := by decide
  rw [← hsums]
  simp only [rejectedRecord, CaptureRecord.payload, Option.map_none, Option.getD_none, hpart, hfireF, hfireL]
  simp [List.replicate]
  rfl

theorem State.setPortState_cpr_congr {s t : State} (h : t.cpr = s.cpr) (p : PortIx) (x : PortState) :
    (t.setPortState p x).cpr = (s.setPortState p x).cpr := by
  simp only [State.setPortState, State.setPort, State.port, h]

/-- A refusal after steps that did not raise its factors, in terms of what those steps made of the rest. -/
theorem FrameRefused.of_does {fs : List Factor} {s u t t' : State} (h : Does fs s u t)
    (hfs : ∀ f ∈ fs, f ≠ .cbmRejectLimit ∧ f ≠ .cbmRejectNoBuffer) {p : PortIx} {i : StreamIx} {v : Verdict} {payload : List Byte}
    (k : FrameRefused p i v payload t t') : FrameRefused p i v payload u t' := by
  have hstream (j : StreamIx) : t.stream j = u.stream j := by rw [State.stream, h.cbm]; rfl
  have hevu : u.evu = s.evu := by rw [← h.rest, withReportsOf_evu]
  have hquiet (f : Factor) (hf : f ∉ fs) : t.evu.has f = u.evu.has f := by
    rw [h.raised.factors f, hevu, decide_eq_false hf, Bool.or_false]
  refine ⟨k.cpr.trans (State.setPortState_cpr_congr (by rw [← withReportsOf_cpr t s, h.rest]) ..),
    k.xcr.trans (by rw [← withReportsOf_xcr t s, h.rest]), k.bpt.trans (by rw [← withReportsOf_bpt t s, h.rest]),
    k.trq.trans (by rw [← withReportsOf_trq t s, h.rest]), k.reserved.trans (by rw [h.cbm]), ?_, fun j hj => (k.others j hj).trans (hstream j),
    k.limit.trans ?_, k.noBuffer.trans ?_, fun f hf => k.keeps f (h.raised.has_of_has (hevu ▸ hf)), ?_⟩
  · obtain ⟨q, n, hs⟩ := k.stream
    exact ⟨q, n, by rw [hs, hstream]⟩
  · rw [hquiet _ fun hm => (hfs _ hm).1 rfl]
  · rw [hquiet _ fun hm => (hfs _ hm).2 rfl]
  · have hwent := k.went
    rw [hstream] at hwent
    exact hwent.congr h.cbm.symm rfl id

theorem camWrap_ne_reject (p : PortIx) : Factor.camWrap p ≠ .cbmRejectLimit ∧ Factor.camWrap p ≠ .cbmRejectNoBuffer := by
  revert p
  decide

theorem camOrphan_ne_reject (p : PortIx) : Factor.camOrphan p ≠ .cbmRejectLimit ∧ Factor.camOrphan p ≠ .cbmRejectNoBuffer := by
  revert p
  decide

/-- A frame refused on a stream that cannot take it, after the steps that made `u` of `s`. -/
theorem offerFrame_refused {fs : List Factor} {s u t : State} (h : Does fs s u t)
    (hfs : ∀ f ∈ fs, f ≠ .cbmRejectLimit ∧ f ≠ .cbmRejectNoBuffer) {p : PortIx} {i : StreamIx} (hno : ¬ CanTake p i u) (e : Option Exposure)
    (value : BitVec 16) :
    let takes := (u.stream i).boundPort = p ∧ (u.stream i).state = .opened
    let below := (u.stream i).framesHeld < (u.stream i).maxHeld.toNat
    ∃ v : Verdict, (v = .heldLimit ↔ takes ∧ ¬ below) ∧ (v = .noRoom ↔ takes ∧ below) ∧
      (∀ f, t.evu.has f = true → (offerFrame p i e value t).evu.has f = true) ∧
      FrameRefused p i v
        (rejectedRecord p e (value.extractLsb' 0 8) (value.extractLsb' 8 8) (u.stream i).frameCounter u.bpt.lineTime).payload u
        (offerFrame p i e value t) := by
  intro takes below
  have hstream : t.stream i = u.stream i := by rw [State.stream, h.cbm]; rfl
  have hbpt : t.bpt = u.bpt := by rw [← withReportsOf_bpt t s, h.rest]
  obtain ⟨v, hoffer, hlimit, hroom⟩ := offerFrame_refuses (fun ht : CanTake p i t => hno (ht.congr h.cbm.symm)) e value
  rw [hstream] at hlimit hroom
  have hrefused := refuseFrame_refuses p i v e value t
  rw [← hoffer, hstream, hbpt] at hrefused
  exact ⟨v, hlimit, hroom, hrefused.keeps, hrefused.of_does h hfs⟩

/-- Settles O16: the word is counted, the match leaves the list, CBM refuses the frame. -/
theorem frameStartRefused : Obligations.FrameStartRefused := by
  intro s p parity v e younger hidle hgood hlist hcount i takes below room hno
  have hmatched := (countFrame_does p s).done (fun x => x.setExposures p younger)
  obtain ⟨verdict, hlimit, hroom, -, hrefused⟩ := offerFrame_refused hmatched (fun f hf => mem_wrapsAt hf ▸ camWrap_ne_reject p) (p := p) (i := i)
    (fun h => hno ⟨⟨h.bound, h.opened⟩, h.below, h.room⟩) (some e) v
  rw [← beginFrame_match hlist hcount, rejectedRecord_matched] at hrefused
  have hexposures (q : PortIx) := congrArg (fun x : Xcr => x.lists[q]) hrefused.xcr
  obtain ⟨q, n, hstream⟩ := hrefused.stream
  refine ⟨_, exec_frameStart_idle hidle hgood, hrefused.cpr.trans ?_, (hexposures p).trans ?_, fun q hq => (hexposures q).trans ?_,
    hrefused.reserved, ?_, ?_, ?_, hrefused.others, hrefused.limit.trans ?_, hrefused.noBuffer.trans ?_,
    hrefused.went.congr rfl rfl id⟩
  · refine (State.setPortState_cpr_congr (s := s.setPort p _) rfl p .discarding).trans ?_
    rw [State.setPortState, State.setPort_port_self, State.setPort_setPort]
  · exact State.setExposures_exposures_self ..
  · exact State.setExposures_exposures_ne _ _ _ _ hq
  · rw [hstream]; rfl
  · rw [hstream]; rfl
  · rw [hstream]; rfl
  · exact congrArg (s.evu.has .cbmRejectLimit || ·) (decide_eq_decide.2 hlimit)
  · exact congrArg (s.evu.has .cbmRejectNoBuffer || ·) (decide_eq_decide.2 hroom)

/-- Settles O17: the word and the orphan are counted; then the port's policy decides (R72). -/
theorem orphanFrame : Obligations.OrphanFrame := by
  intro s p parity v hidle hgood hnone base
  have horphan := (countFrame_does p s).then (g := fun x => x.setPort p { x.port p with orphans := (x.port p).orphans + 1 })
    (countOrphan_does p (countFrame p s))
  have hport : (countFrame p s).port p = { s.port p with frames := (s.port p).frames + 1 } := by
    rw [(countFrame_does p s).port, State.setPort_port_self]
  have hu : (s.setPort p { s.port p with frames := (s.port p).frames + 1 }).setPort p
      { (s.setPort p { s.port p with frames := (s.port p).frames + 1 }).port p with
        orphans := ((s.setPort p { s.port p with frames := (s.port p).frames + 1 }).port p).orphans + 1 } = s.setPort p base := by
    rw [State.setPort_port_self, State.setPort_setPort]
  rw [hport, hu] at horphan
  have hbegin := beginFrame_orphan (v := v) hnone
  refine ⟨fun hdiscard => ?_, fun hforward hbound hopened hbelow hroom => ?_, fun hforward hno => ?_⟩
  · have hdone := horphan.done (fun x => x.setPortState p .discarding)
    refine ⟨_, exec_frameStart_idle hidle hgood, ?_⟩
    rw [hbegin, if_neg (by simp [hdiscard])]
    refine ⟨hdone.raised.perm fun f => ?_, hdone.rest.trans ?_⟩
    · simp only [List.mem_append, List.mem_cons]
      tauto
    · rw [State.setPortState, State.setPort_port_self, State.setPort_setPort]
  · have htakes : CanTake p (s.port p).defaultStream (countOrphan p (countFrame p s)) :=
      CanTake.congr ⟨hbound, hopened, hbelow, hroom⟩ horphan.cbm
    have hstream : (countOrphan p (countFrame p s)).stream (s.port p).defaultStream = s.stream (s.port p).defaultStream := by
      rw [State.stream, horphan.cbm]
      rfl
    have hdone := horphan.then (g := frameAdmitted p (s.port p).defaultStream none v) (offerFrame_admits htakes none v)
    rw [hstream] at hdone
    refine ⟨_, exec_frameStart_idle hidle hgood, ?_⟩
    rw [hbegin, if_pos hforward]
    refine ⟨hdone.raised.perm fun f => ?_, hdone.rest.trans ?_⟩
    · simp only [List.mem_append, List.mem_cons]
      tauto
    · rw [frameAdmitted]
      simp only [State.setPort_port_self]
      exact State.setPort_setPort ((s.setReserved (s.cbm.reserved + (s.stream (s.port p).defaultStream).reservation.toNat)).setStream
        (s.port p).defaultStream _) p _ _
  · have hfs : ∀ f ∈ wrapsAt (s.port p).frames (.camWrap p) ++ (.camOrphan p :: wrapsAt (s.port p).orphans (.camWrap p)),
        f ≠ .cbmRejectLimit ∧ f ≠ .cbmRejectNoBuffer := by
      intro f hf
      obtain hf | hf := List.mem_append.1 hf
      · exact mem_wrapsAt hf ▸ camWrap_ne_reject p
      · obtain rfl | hf := List.mem_cons.1 hf
        · exact camOrphan_ne_reject p
        · exact mem_wrapsAt hf ▸ camWrap_ne_reject p
    obtain ⟨verdict, hlimit, hnoRoom, hkeeps, hrefused⟩ := offerFrame_refused horphan hfs (p := p) (i := (s.port p).defaultStream)
      (fun h => hno ⟨⟨h.bound, h.opened⟩, h.below, h.room⟩) none v
    have hkept := hkeeps (.camOrphan p) (horphan.raised.has_of_mem (by simp))
    rw [if_pos hforward] at hbegin
    rw [← hbegin] at hrefused hkept
    rw [rejectedRecord_orphan] at hrefused
    obtain ⟨q, n, hstream⟩ := hrefused.stream
    refine ⟨_, exec_frameStart_idle hidle hgood, hrefused.xcr, hrefused.bpt, hrefused.trq, hrefused.cpr.trans ?_, hkept, hrefused.reserved,
      ?_, ?_, ?_, hrefused.others, hrefused.limit.trans ?_, hrefused.noBuffer.trans ?_, hrefused.went.congr rfl rfl id⟩
    · rw [State.setPortState, State.setPort_port_self, State.setPort_setPort]
    · rw [hstream]; rfl
    · rw [hstream]; rfl
    · rw [hstream]; rfl
    · exact congrArg (s.evu.has .cbmRejectLimit || ·) (decide_eq_decide.2 hlimit)
    · exact congrArg (s.evu.has .cbmRejectNoBuffer || ·) (decide_eq_decide.2 hnoRoom)

end Sys2Proof.Machine
end

section
/-! PROOFS. An exposure at its deadline expires (O24). -/

namespace Sys2Proof.Machine

theorem expiredOf_none {l : LineTime} {list : List Exposure} (h : ∀ x ∈ list, reached l x.deadline = false) : expiredOf l list = none := by
  induction list with
  | nil => rfl
  | cons x rest ih =>
    have hx : reached l x.deadline = false := h x List.mem_cons_self
    rw [expiredOf, ih fun y hy => h y (List.mem_cons_of_mem _ hy), hx]
    rfl

/-- The only exposure of a list whose deadline L has reached is the one to expire (R67). -/
theorem expiredOf_only {l : LineTime} {older younger : List Exposure} {e : Exposure} (he : reached l e.deadline = true)
    (h : ∀ x ∈ older ++ younger, reached l x.deadline = false) : expiredOf l (older ++ e :: younger) = some e := by
  induction older with
  | nil =>
    rw [List.nil_append, expiredOf, expiredOf_none (list := younger) h, he]
    rfl
  | cons x rest ih =>
    have hx : reached l x.deadline = false := h x List.mem_cons_self
    rw [List.cons_append, expiredOf, ih fun y hy => h y (List.mem_cons_of_mem _ hy), hx]
    rfl

theorem erase_only {older younger : List Exposure} {e : Exposure} (h : e ∉ older) : (older ++ e :: younger).erase e = older ++ younger := by
  rw [List.erase_append_right _ h, List.erase_cons_head]

/-- Settles O24. -/
theorem exposureExpires : Obligations.ExposureExpires := by
  intro s p older younger e hlist hreached hothers i
  have hout : e ∉ older := fun hmem => by
    have hnot := hothers e (List.mem_append_left _ hmem)
    rw [hreached] at hnot
    nomatch hnot
  have hexec : exec (.exposureExpiry p) s = .next (setFactor (.camNoFrame p)
      (closeExposure p .noFrame e.deadline e (s.setExposures p (older ++ younger)))) := by
    change execExposureExpiry p s = _
    rw [execExposureExpiry, hlist, show s.lineTime = s.bpt.lineTime from rfl, expiredOf_only hreached hothers]
    dsimp only
    rw [erase_only hout]
  have hwent := issueMissing_went i (exposureRecord p e .noFrame e.deadline) (s.setExposures p (older ++ younger))
  have hfactor := setFactor_raised (.camNoFrame p) (closeExposure p .noFrame e.deadline e (s.setExposures p (older ++ younger)))
  refine ⟨_, hexec, ?_, fun q hq => ?_, ?_, hfactor.has_of_mem (List.mem_singleton_self _), by simp, by simp, by simp, fun k hk => ?_, ?_⟩
  · rw [setFactor_exposures, closeExposure_exposures, State.setExposures_exposures_self]
  · rw [setFactor_exposures, closeExposure_exposures, State.setExposures_exposures_ne _ _ _ _ hq]
  · refine Vector.ext fun n hn => ?_
    have hport (q : PortIx) : (setFactor (.camNoFrame p) (closeExposure p .noFrame e.deadline e
        (s.setExposures p (older ++ younger)))).port q = (s.setPort p { s.port p with missing := (s.port p).missing + 1 }).port q := by
      rw [setFactor_port]
      by_cases hq : q = p
      · subst hq
        rw [closeExposure_port_self, State.setPort_port_self, State.setExposures_port]
      · rw [closeExposure_port_ne _ _ _ _ _ _ hq, State.setPort_port_ne _ _ _ _ hq, State.setExposures_port]
    exact hport ⟨n, hn⟩
  · rw [setFactor_stream, closeExposure_eq, issueMissing_stream_ne _ _ _ _ hk, State.setExposures_stream]
  · exact hwent.congr rfl (setFactor_cbm ..) hfactor.has_of_has

end Sys2Proof.Machine
end

section
/-! PROOFS. The end of a frame: a good FRAME_END, and a FRAME_START that aborts the frame in progress (O23, O45). -/

namespace Sys2Proof.Machine

/-! ### The cells and the context of a frame that ends (R55, R57, R97, R98) -/

/-- CBM's part of a frame's end, and a context that the frame's end removes. -/
theorem endFrameCells_eq (p : PortIx) (f : FrameCtx) (s : State) : ∃ g, endFrameCells p f s = (endedCells f s).setFrame p g := by
  cases hasm : f.assembly with
  | none =>
    refine ⟨((endedCells f s).port p).frame, ?_⟩
    rw [State.setFrame_of_frame rfl, endFrameCells, endedCells, commitCell_none p true f s hasm, FrameCtx.lastCell, hasm]
    simp
  | some a =>
    refine ⟨some { f with assembly := none, committed := true }, ?_⟩
    rw [endFrameCells, endedCells, commitCell_some p true f s a hasm, FrameCtx.lastCell, hasm, commitKind_last]
    simp [enqueue, State.setFrame, State.setStream, State.setPort, State.setReserved, State.stream, State.port]

/-- The record of an ending frame handed to CBM, and the context gone. -/
theorem finishFrame_eq (p : PortIx) (f : FrameCtx) (s : State) :
    finishFrame p f s = closeIfDrained f.stream ((handRecord f.stream .capture (frameRecord p f s.lineTime).payload f.frameNo true
      (endFrameCells p f s)).setFrame p none) := by
  obtain ⟨g, hcells⟩ := endFrameCells_eq p f s
  have hline : (endFrameCells p f s).lineTime = s.lineTime := by rw [hcells]; rfl
  rw [finishFrame, issueCapture, hline]
  rfl

/-! ### The record queued (R55, R97, R99) -/

/-- What the end of a frame makes of a state where its record is queued in cell `k`, before which `runs` is left. -/
def frameQueued (p : PortIx) (f : FrameCtx) (k : Nat) (runs : List Run) (payload : List Byte) (s : State) : State :=
  ((((s.setFree runs).setMem (writePayload s.cbm.mem k payload)).setReserved (s.cbm.reserved - f.remaining)).setStream f.stream
    { s.stream f.stream with
      queue := (s.stream f.stream).queue ++ f.lastCell ++
        [{ index := k, kind := .capture, len := payload.length, frameNo := f.frameNo, closing := true }]
      inProgress := false }).setFrame p none

theorem frameQueued_withReportsOf (p : PortIx) (f : FrameCtx) (k : Nat) (runs : List Run) (payload : List Byte) (x y : State) :
    (frameQueued p f k runs payload x).withReportsOf y = frameQueued p f k runs payload (x.withReportsOf y) := by
  rw [frameQueued, frameQueued, withReportsOf_cbm]
  generalize writePayload x.cbm.mem k payload = m
  rfl

theorem Does.frameQueued {fs : List Factor} {s u t : State} (h : Does fs s u t) (p : PortIx) (f : FrameCtx) (k : Nat) (runs : List Run)
    (payload : List Byte) : Does fs s (frameQueued p f k runs payload u) (frameQueued p f k runs payload t) :=
  h.done (Machine.frameQueued p f k runs payload) (fun x => by simp [Machine.frameQueued]) (fun x => by simp [Machine.frameQueued])
    (frameQueued_withReportsOf p f k runs payload)

theorem finishFrame_queued {p : PortIx} {f : FrameCtx} {s : State} {k : Nat} {rest : List Nat} (hopen : (s.stream f.stream).state ≠ .closed)
    (hroom : s.cbm.reserved - f.remaining < s.freeCount) (hfree : freeCells s.cbm.free = k :: rest) :
    ∃ runs, freeCells runs = rest ∧ finishFrame p f s = frameQueued p f k runs (frameRecord p f s.lineTime).payload s := by
  obtain ⟨g, hcells⟩ := endFrameCells_eq p f s
  rw [finishFrame_eq, hcells]
  generalize (frameRecord p f s.lineTime).payload = payload
  have hstate : (((endedCells f s).setFrame p g).stream f.stream).state ≠ .closed := by
    rw [State.setFrame_stream, endedCells, State.setStream_stream_self]
    exact hopen
  obtain ⟨runs, hrest, hqueued⟩ := handRecord_queued (i := f.stream) (s := (endedCells f s).setFrame p g) .capture payload f.frameNo true
    hstate hroom hfree
  refine ⟨runs, hrest, ?_⟩
  have hmem : ((endedCells f s).setFrame p g).cbm.mem = s.cbm.mem := rfl
  rw [hqueued, hmem]
  have hform : (enqueue f.stream { index := k, kind := .capture, len := payload.length, frameNo := f.frameNo, closing := true }
      ((((endedCells f s).setFrame p g).setFree runs).setMem (writePayload s.cbm.mem k payload))).setFrame p none =
        frameQueued p f k runs payload s := by
    rw [frameQueued]
    generalize writePayload s.cbm.mem k payload = m
    rw [enqueue, endedCells]
    simp [State.setFrame, State.setStream, State.setPort, State.setReserved, State.stream, State.port, State.setFree, State.setMem]
  rw [hform, closeIfDrained_of_not]
  rintro ⟨-, hempty, -⟩
  rw [frameQueued, State.setFrame_stream, State.setStream_stream_self] at hempty
  simp at hempty

/-! ### The record lost at a stream that nothing is left of (R99, R100, R106) -/

/-- The loss of a record that closes a frame of which nothing is queued (R100). -/
theorem loseRecord_does {i : StreamIx} {s : State} (hqueue : (s.stream i).queue = []) (f : BitVec 8) :
    Does (wrapsAt (s.stream i).recordsLost .cbmWrap ++ [.cbmRecordLost]) s
      (s.setStream i { s.stream i with
        recordsLost := (s.stream i).recordsLost + 1, framesHeld := (s.stream i).framesHeld - 1
        openTx := (s.stream i).openTx && (s.stream i).openTxNo != f }) (loseRecord i f true s) := by
  have hcount := countStream_does i Stream.recordsLost (fun x n => { x with recordsLost := n }) s
  have hlost := hcount.then (g := id) (setFactor_does .cbmRecordLost _)
  have hclose := hlost.done (fun x => x.setStream i
    { x.stream i with framesHeld := (x.stream i).framesHeld - 1, openTx := (x.stream i).openTx && (x.stream i).openTxNo != f })
  have hstream : ((setFactor .cbmRecordLost (countStream i Stream.recordsLost (fun x n => { x with recordsLost := n }) s)).stream i).queue = [] := by
    rw [setFactor_stream, countStream_stream_self]
    exact hqueue
  have hform : loseRecord i f true s =
      (fun x : State => x.setStream i { x.stream i with
        framesHeld := (x.stream i).framesHeld - 1, openTx := (x.stream i).openTx && (x.stream i).openTxNo != f })
      (setFactor .cbmRecordLost (countStream i Stream.recordsLost (fun x n => { x with recordsLost := n }) s)) := by
    rw [loseRecord]
    dsimp only
    rw [if_pos rfl, closeLost, hstream]
    rfl
  rw [hform]
  refine ⟨hclose.raised, hclose.rest.trans ?_⟩
  rw [id, State.setStream_stream_self, State.setStream_setStream]

/-- What the end of a frame makes of a state where its record is lost and its drained stream closes, but for what that raises. -/
def frameLost (p : PortIx) (f : FrameCtx) (s : State) : State :=
  ((s.setReserved (s.cbm.reserved - f.remaining)).setStream f.stream
    { s.stream f.stream with
      state := .closed, inProgress := false, framesHeld := (s.stream f.stream).framesHeld - 1
      recordsLost := (s.stream f.stream).recordsLost + 1
      openTx := (s.stream f.stream).openTx && decide ((s.stream f.stream).openTxNo ≠ f.frameNo) }).setFrame p none

theorem finishFrame_lost {p : PortIx} {f : FrameCtx} {s : State} (hdraining : (s.stream f.stream).state = .draining)
    (hqueue : (s.stream f.stream).queue = []) (hnone : f.assembly = none) (hroom : s.freeCount ≤ s.cbm.reserved - f.remaining) :
    Does (.cbmRecordLost :: .cbmStreamClosed :: wrapsAt (s.stream f.stream).recordsLost .cbmWrap) s (frameLost p f s) (finishFrame p f s) := by
  have hcells : endFrameCells p f s = (s.setReserved (s.cbm.reserved - f.remaining)).setStream f.stream
      { s.stream f.stream with inProgress := false } := by
    rw [endFrameCells, commitCell_none p true f s hnone]
    rfl
  have hstream : (endFrameCells p f s).stream f.stream = { s.stream f.stream with inProgress := false } := by
    rw [hcells, State.setStream_stream_self]
  have hended : Does [] s ((s.setReserved (s.cbm.reserved - f.remaining)).setStream f.stream { s.stream f.stream with inProgress := false })
      (endFrameCells p f s) := by
    rw [hcells]
    exact (Does.refl s).done (fun x => (x.setReserved (x.cbm.reserved - f.remaining)).setStream f.stream
      { x.stream f.stream with inProgress := false })
  have hrecord := (hended.then (g := fun x => x.setStream f.stream
    { x.stream f.stream with
      recordsLost := (x.stream f.stream).recordsLost + 1, framesHeld := (x.stream f.stream).framesHeld - 1
      openTx := (x.stream f.stream).openTx && (x.stream f.stream).openTxNo != f.frameNo })
    (loseRecord_does (by rw [hstream]; exact hqueue) f.frameNo)).done (fun x => x.setFrame p none)
  have hlost : handRecord f.stream .capture (frameRecord p f s.lineTime).payload f.frameNo true (endFrameCells p f s) =
      loseRecord f.stream f.frameNo true (endFrameCells p f s) := handRecord_lost _ _ _ _ (.inr (by rw [hcells]; exact hroom))
  have hleft : ((loseRecord f.stream f.frameNo true (endFrameCells p f s)).setFrame p none).stream f.stream =
      { s.stream f.stream with
        inProgress := false, recordsLost := (s.stream f.stream).recordsLost + 1, framesHeld := (s.stream f.stream).framesHeld - 1
        openTx := (s.stream f.stream).openTx && (s.stream f.stream).openTxNo != f.frameNo } := by
    rw [← withReportsOf_stream _ s, hrecord.rest, State.setFrame_stream, State.setStream_stream_self, State.setStream_stream_self]
  have hclosed := (hrecord.done (fun x => x.setStream f.stream { x.stream f.stream with state := .closed })).then (g := id)
    (setFactor_does .cbmStreamClosed _)
  rw [finishFrame_eq, hlost, closeIfDrained_of _ _ (by rw [hleft]; exact hdraining) (by rw [hleft]; exact hqueue) (by rw [hleft])]
  refine ⟨hclosed.raised.perm fun g => ?_, hclosed.rest.trans ?_⟩
  · rw [hstream]
    simp only [List.mem_append, List.mem_cons, List.not_mem_nil]
    tauto
  · have hne : ((s.stream f.stream).openTxNo != f.frameNo) = decide ((s.stream f.stream).openTxNo ≠ f.frameNo) := by
      rw [Bool.eq_iff_iff]
      simp
    have hcommute (x : State) (y : Stream) : (x.setFrame p none).setStream f.stream y = (x.setStream f.stream y).setFrame p none := rfl
    rw [id, frameLost, State.setStream_stream_self, State.setFrame_stream, State.setStream_stream_self, State.setStream_setStream, hcommute,
      State.setStream_setStream, hne]

/-! ### The port that is then IDLE (R55, R57) -/

theorem frameQueued_idle (p : PortIx) (f : FrameCtx) (k : Nat) (runs : List Run) (payload : List Byte) (s : State) (x : Port) :
    (frameQueued p f k runs payload (s.setPort p x)).setPortState p .idle =
      ((((s.setFree runs).setMem (writePayload s.cbm.mem k payload)).setReserved (s.cbm.reserved - f.remaining)).setStream f.stream
        { s.stream f.stream with
          queue := (s.stream f.stream).queue ++ f.lastCell ++
            [{ index := k, kind := .capture, len := payload.length, frameNo := f.frameNo, closing := true }]
          inProgress := false }).setPort p { x with state := .idle, frame := none } := by
  rw [frameQueued, State.setPort_cbm]
  generalize writePayload s.cbm.mem k payload = m
  have hcommute (y : Stream) : ((((s.setPort p x).setFree runs).setMem m).setReserved (s.cbm.reserved - f.remaining)).setStream f.stream y =
      ((((s.setFree runs).setMem m).setReserved (s.cbm.reserved - f.remaining)).setStream f.stream y).setPort p x := rfl
  rw [hcommute]
  simp [State.setFrame, State.setPortState]

theorem frameLost_idle (p : PortIx) (f : FrameCtx) (s : State) (x : Port) :
    (frameLost p f (s.setPort p x)).setPortState p .idle =
      ((s.setReserved (s.cbm.reserved - f.remaining)).setStream f.stream
        { s.stream f.stream with
          state := .closed, inProgress := false, framesHeld := (s.stream f.stream).framesHeld - 1
          recordsLost := (s.stream f.stream).recordsLost + 1
          openTx := (s.stream f.stream).openTx && decide ((s.stream f.stream).openTxNo ≠ f.frameNo) }).setPort p
        { x with state := .idle, frame := none } := by
  have hcommute (y : Stream) : ((s.setPort p x).setReserved (s.cbm.reserved - f.remaining)).setStream f.stream y =
      ((s.setReserved (s.cbm.reserved - f.remaining)).setStream f.stream y).setPort p x := rfl
  rw [frameLost, State.setPort_cbm, hcommute, State.setPort_stream, State.setFrame_setPort, State.setPortState, State.setPort_setPort,
    State.setPort_port_self]

/-! ### A good FRAME_END (R55) -/

theorem countChecksum_does (p : PortIx) (bad : Bool) (s : State) :
    Does (if bad then .camChecksum p :: wrapsAt (s.port p).checksumErrors (.camWrap p) else []) s
      (s.setPort p { s.port p with checksumErrors := if bad then (s.port p).checksumErrors + 1 else (s.port p).checksumErrors })
      (countChecksum p bad s) := by
  cases bad with
  | true =>
    exact ((countPort_does p Port.checksumErrors (fun x n => { x with checksumErrors := n }) s).then (g := id)
      (setFactor_does (.camChecksum p) _)).perm fun f => by simp [or_comm]
  | false => exact ⟨Raised.refl s, (State.setPort_self s p).symm⟩

/-- The context that a good FRAME_END leaves, and its checksum counted (R55). -/
theorem closing_does {s : State} {p : PortIx} (v : BitVec 16) (f : FrameCtx) :
    Does (if v = f.computed then [] else .camChecksum p :: wrapsAt (s.port p).checksumErrors (.camWrap p)) s
      (s.setPort p { s.port p with
        frame := some (f.closedAt s.lineTime v)
        checksumErrors := if v = f.computed then (s.port p).checksumErrors else (s.port p).checksumErrors + 1 })
      (countChecksum p (v != f.computed) (s.setFrame p (some (f.closedAt s.lineTime v)))) := by
  have hset := ((Does.refl s).done (fun x => x.setFrame p (some (f.closedAt s.lineTime v)))).then
    (g := fun x => x.setPort p { x.port p with
      checksumErrors := if (v != f.computed) = true then (x.port p).checksumErrors + 1 else (x.port p).checksumErrors })
    (countChecksum_does p (v != f.computed) _)
  have hport : (s.setFrame p (some (f.closedAt s.lineTime v))).port p = { s.port p with frame := some (f.closedAt s.lineTime v) } := by
    rw [State.setFrame, State.setPort_port_self]
  rw [hport] at hset
  rw [State.setFrame] at hset ⊢
  rw [State.setPort_setPort] at hset
  by_cases hv : v = f.computed
  · simpa [hv] using hset
  · simpa [hv] using hset

theorem exec_frameEnd_inFrame {s : State} {p : PortIx} {f : FrameCtx} {parity : Bool} {v : BitVec 16} (h : (s.port p).state = .inFrame)
    (hf : (s.port p).frame = some f) (hgood : parityGood parity 4 v = true) :
    exec (.frameEnd p parity v) s = .next (closeFrame p v f s) := by
  rw [exec, execFrameEnd, if_neg (by rw [h]; nofun), hgood, h]
  dsimp only
  rw [hf]
  rfl

theorem CaptureRecord.payload_length (r : CaptureRecord) : r.payload.length = 49 := by
  simp [CaptureRecord.payload, be]

/-- The flags of a frame's record (R78, R119). -/
theorem frameFlags (matched parity checksumBad truncated aborted : Bool) :
    StatusFlags.byte { partPresent := matched, parity, checksumBad, truncated, aborted, orphan := !matched } =
      ((if matched then 0x80 else 0x04) ||| (if parity then 0x40 else 0) ||| (if checksumBad then 0x20 else 0) |||
        (if truncated then 0x10 else 0) ||| (if aborted then 0x08 else 0) : Byte) := by
  revert matched parity checksumBad truncated aborted
  decide

/-- The 49 bytes of the capture record of a frame that a good FRAME_END closes (R55, R79, R119). -/
def closedBytes (p : PortIx) (f : FrameCtx) (v : BitVec 16) (l : LineTime) : List Byte :=
  [(if f.exposure.isSome then 0x80 else 0x04) ||| (if f.parity then 0x40 else 0) |||
      (if (f.checksumBad || v != f.computed) = true then 0x20 else 0) ||| (if f.truncated then 0x10 else 0) |||
      (if f.aborted then 0x08 else 0), BitVec.ofNat 8 p.val] ++
    (match f.exposure with
      | some e => [BitVec.ofNat 8 e.plan.val, e.tag] ++ be 4 e.part.toNat ++ [e.count]
      | none => List.replicate 7 0xFF) ++
    [f.camCount, f.format, f.frameNo] ++
    (match f.exposure with
      | some e => be 5 e.fireF.toNat ++ be 6 e.fireL.toNat
      | none => List.replicate 11 0xFF) ++
    be 6 f.startL.toNat ++ be 6 l.toNat ++ be 4 f.received.toNat ++ be 4 f.forwarded.toNat ++ be 2 f.lines.toNat ++
    be 2 v.toNat ++ be 2 f.computed.toNat

theorem frameRecord_closed (p : PortIx) (f : FrameCtx) (v : BitVec 16) (l now : LineTime) :
    (frameRecord p (f.closedAt l v) now).payload = closedBytes p f v l := by
  simp only [CaptureRecord.payload, frameRecord, closedBytes, FrameCtx.closedAt, Option.getD_some]
  cases f.exposure with
  | none =>
    have hflags := frameFlags false f.parity (f.checksumBad || v != f.computed) f.truncated f.aborted
    have hpart : be 4 (BitVec.allOnes 32).toNat = List.replicate 4 0xFF := by decide
    have hfireF : be 5 (BitVec.allOnes 40).toNat = List.replicate 5 0xFF := by decide
    have hfireL : be 6 (BitVec.allOnes 48).toNat = List.replicate 6 0xFF := by decide
    simp only [Option.map_none, Option.getD_none, Option.isSome_none, Option.isNone_none, Bool.not_false] at hflags ⊢
    rw [hflags, hpart, hfireF, hfireL]
    simp [List.replicate]
  | some e =>
    have hflags := frameFlags true f.parity (f.checksumBad || v != f.computed) f.truncated f.aborted
    simp only [Option.map_some, Option.getD_some, Option.isSome_some, Option.isNone_some, Bool.not_true] at hflags ⊢
    rw [hflags]
    simp

/-- Settles O23: the context closed, the cells and the record handed to CBM, the port IDLE. -/
theorem frameEndCloses : Obligations.FrameEndCloses := by
  refine ⟨fun s p parity v f hstate hframe hgood hdraining hqueue hnone hroom => ?_,
    fun s p parity v f k rest hstate hframe hgood hopen hroom hfree => ?_⟩
  · intro i
    have hclosing := closing_does (s := s) (p := p) v f
    generalize hx : countChecksum p (v != f.computed) (s.setFrame p (some (f.closedAt s.lineTime v))) = x at hclosing
    have hstream (j : StreamIx) : x.stream j = s.stream j := by rw [State.stream, hclosing.cbm]; rfl
    have hfinish := finishFrame_lost (p := p) (f := f.closedAt s.lineTime v) (s := x) ((congrArg _ (hstream i)).trans hdraining)
      ((congrArg _ (hstream i)).trans hqueue) hnone (by rw [State.freeCount, hclosing.cbm]; exact hroom)
    have hdone := (hclosing.then (g := frameLost p (f.closedAt s.lineTime v)) hfinish).done (fun y => y.setPortState p .idle)
    refine ⟨_, exec_frameEnd_inFrame hstate hframe hgood, ?_⟩
    rw [closeFrame_eq, hx]
    refine ⟨hdone.raised.perm fun g => ?_, hdone.rest.trans ?_⟩
    · change g ∈ _ ++ (_ :: _ :: wrapsAt (x.stream i).recordsLost _) ↔ _
      rw [hstream]
      simp only [List.mem_append, List.mem_cons]
      tauto
    · exact frameLost_idle p (f.closedAt s.lineTime v) s _
  · intro i bad last flags payload
    have hclosing := closing_does (s := s) (p := p) v f
    generalize hx : countChecksum p (v != f.computed) (s.setFrame p (some (f.closedAt s.lineTime v))) = x at hclosing
    have hcbm : x.cbm = s.cbm := by rw [hclosing.cbm]; rfl
    have hline : x.lineTime = s.lineTime := by rw [State.lineTime, ← withReportsOf_bpt x s, hclosing.rest]; rfl
    obtain ⟨runs, hrest, hfinish⟩ := finishFrame_queued (p := p) (f := f.closedAt s.lineTime v) (s := x) (k := k) (rest := rest)
      (by rw [State.stream, hcbm]; exact hopen) (by rw [State.freeCount, hcbm]; exact hroom) (by rw [hcbm]; exact hfree)
    rw [frameRecord_closed] at hfinish
    have hdone := ((hclosing.frameQueued p (f.closedAt s.lineTime v) k runs (closedBytes p f v s.lineTime)).done
      (fun y => y.setPortState p .idle))
    refine ⟨_, exec_frameEnd_inFrame hstate hframe hgood, ?_⟩
    rw [closeFrame_eq, hx, hfinish]
    have hfree' : ((frameQueued p (f.closedAt s.lineTime v) k runs (closedBytes p f v s.lineTime) x).setPortState p .idle).cbm.free = runs := rfl
    have hbytes : closedBytes p f v s.lineTime = payload := rfl
    have hlength : (closedBytes p f v s.lineTime).length = 49 := by
      rw [← frameRecord_closed p f v s.lineTime s.lineTime]
      exact CaptureRecord.payload_length _
    refine ⟨hdone.raised, by rw [hfree']; exact hrest, hdone.rest.trans ?_⟩
    rw [hfree', frameQueued_idle, hlength, hbytes]
    generalize writePayload s.cbm.mem k payload = m
    rfl

/-! ### A FRAME_START at a port that has not ended its frame (R52) -/

theorem exec_frameStart_discarding {s : State} {p : PortIx} {parity : Bool} {v : BitVec 16} (h : (s.port p).state = .discarding)
    (hgood : parityGood parity 1 v = true) : exec (.frameStart p parity v) s = .next (beginFrame p v (framingError p s)) := by
  rw [exec, execFrameStart, if_neg (by rw [h]; nofun), hgood, h]
  rfl

theorem exec_frameStart_inFrame {s : State} {p : PortIx} {parity : Bool} {v : BitVec 16} (h : (s.port p).state = .inFrame)
    (hgood : parityGood parity 1 v = true) :
    exec (.frameStart p parity v) s = .next (beginFrame p v (abortFrame p (framingError p s))) := by
  rw [exec, execFrameStart, if_neg (by rw [h]; nofun), hgood, h]
  rfl

/-- What begins the frame does so as at an IDLE port. -/
theorem beginFrame_as_idle {p : PortIx} {parity : Bool} {v : BitVec 16} (hgood : parityGood parity 1 v = true) (x : State) :
    exec (.frameStart p parity v) (x.setPortState p .idle) = .next (beginFrame p v x) := by
  rw [exec_frameStart_idle (by rw [State.setPortState, State.setPort_port_self]) hgood, beginFrame_setPortState]

/-- Settles O45: the framing error, the abort where a frame is in progress, and the word as at an IDLE port. -/
theorem frameStartAborts : Obligations.FrameStartAborts := by
  intro s p parity v hgood framing begun
  have hframing := framingError_does p s
  generalize hx : framingError p s = x at hframing
  have hcbm : x.cbm = s.cbm := by rw [hframing.cbm]; rfl
  have hstream (j : StreamIx) : x.stream j = s.stream j := by rw [State.stream, hcbm]; rfl
  have hline : x.lineTime = s.bpt.lineTime := by rw [State.lineTime, ← withReportsOf_bpt x s, hframing.rest]; rfl
  have hframe {f : FrameCtx} (h : (s.port p).frame = some f) : (x.port p).frame = some f := by
    rw [← withReportsOf_port x s, hframing.rest, State.setPort_port_self]
    exact h
  refine ⟨fun hstate => ?_, fun f k rest hstate hf hopen hroom hfree => ?_, fun f hstate hf hdraining hqueue hnone hroom => ?_⟩
  · have hdone := hframing.done (fun y => y.setPortState p .idle)
    refine ⟨_, _, beginFrame_as_idle hgood x, by rw [exec_frameStart_discarding hstate hgood, hx], hdone.raised, hdone.rest.trans ?_⟩
    rw [State.setPortState, State.setPort_setPort, State.setPort_port_self]
  · intro i
    obtain ⟨runs, hrest, hfinish⟩ := finishFrame_queued (p := p) (f := f.abortedAt s.bpt.lineTime) (s := x) (k := k) (rest := rest)
      (by rw [hstream]; exact hopen) (by rw [State.freeCount, hcbm]; exact hroom) (by rw [hcbm]; exact hfree)
    rw [frameRecord_aborted] at hfinish
    have habort : abortFrame p x = _ := (abortFrame_some (hframe hf)).trans ((congrArg (fun l => finishFrame p (f.abortedAt l) x) hline).trans
      hfinish)
    have hdone := (hframing.frameQueued p (f.abortedAt s.bpt.lineTime) k runs (abortedBytes p f s.bpt.lineTime)).done
      (fun y => y.setPortState p .idle)
    have hlength : (abortedBytes p f s.bpt.lineTime).length = 49 := by
      rw [← frameRecord_aborted p f s.bpt.lineTime s.bpt.lineTime]
      exact CaptureRecord.payload_length _
    have hfree' : ((frameQueued p (f.abortedAt s.bpt.lineTime) k runs (abortedBytes p f s.bpt.lineTime) x).setPortState p .idle).cbm.free =
      runs := rfl
    refine ⟨_, _, beginFrame_as_idle hgood _, by rw [exec_frameStart_inFrame hstate hgood, hx, habort], hdone.raised,
      by rw [hfree']; exact hrest, hdone.rest.trans ?_⟩
    rw [hfree', frameQueued_idle, hlength]
    generalize writePayload s.cbm.mem k _ = m
    rfl
  · intro i
    have hfinish := finishFrame_lost (p := p) (f := f.abortedAt x.lineTime) (s := x) ((congrArg _ (hstream i)).trans hdraining)
      ((congrArg _ (hstream i)).trans hqueue) hnone (by rw [State.freeCount, hcbm]; exact hroom)
    have hdone := (hframing.then (g := frameLost p (f.abortedAt x.lineTime)) hfinish).done (fun y => y.setPortState p .idle)
    rw [← abortFrame_some (hframe hf)] at hdone
    refine ⟨_, _, beginFrame_as_idle hgood _, by rw [exec_frameStart_inFrame hstate hgood, hx], hdone.raised.perm fun g => ?_,
      hdone.rest.trans ?_⟩
    · change g ∈ _ ++ (_ :: _ :: wrapsAt (x.stream i).recordsLost _) ↔ _
      rw [hstream]
      simp only [framing, List.mem_append, List.mem_cons, List.not_mem_nil]
      tauto
    · exact frameLost_idle p (f.abortedAt x.lineTime) s _

end Sys2Proof.Machine
end

section
/-! PROOFS. FLUSH of a stream (O43). -/

namespace Sys2Proof.Machine

/-! ### The command (R158) -/

theorem exec_flushStream {s : State} {r : Request} {rest : List Request} {i : StreamIx} (h : s.offers r rest) (hop : reqOp r = 6)
    (hi : reqNat r 2 = i.val) (ha : reqNat r 3 = 2) :
    exec .flushStream s = .next (placeResponse false r (answerFlush i (s.popped rest))) := by
  have haccepts : isStreamCmd 2 r = true := by simp [isStreamCmd, opStreamCmd, hop, ha]
  have hlt : reqNat r 2 < 16 := hi ▸ i.isLt
  have hix : (⟨reqNat r 2, hlt⟩ : StreamIx) = i := Fin.ext hi
  have hcmd : streamCmd answerFlush r (s.popped rest) = answerFlush i (s.popped rest) := by
    rw [streamCmd, dif_pos hlt, if_neg (by omega), hix]
  rw [← hcmd]
  exact congrArg Host.Outcome.next (takeRow_offers h false haccepts (streamCmd answerFlush))

/-! ### The records lost (R107, R190) -/

/-- The WRAP factor of a counter of CBM that stood at `old` before it was incremented `n` times (R190). -/
def wrapsIn (old : BitVec 32) (n : Nat) : List Factor := if 4294967296 ≤ old.toNat + n then [.cbmWrap] else []

theorem mem_wrapsIn {old : BitVec 32} {n : Nat} {f : Factor} : f ∈ wrapsIn old n ↔ f = .cbmWrap ∧ 4294967296 ≤ old.toNat + n := by
  unfold wrapsIn
  split <;> simp [*]

theorem mem_wrapsIn_succ (old : BitVec 32) (n : Nat) (f : Factor) :
    f ∈ wrapsIn old n ++ wrapsAt (old + BitVec.ofNat 32 n) .cbmWrap ↔ f ∈ wrapsIn old (n + 1) := by
  have hmax : old + BitVec.ofNat 32 n = 0xFFFFFFFF#32 ↔ (old.toNat + n) % 4294967296 = 4294967295 := by
    rw [← BitVec.toNat_inj]
    simp
  have hlast : f ∈ wrapsAt (old + BitVec.ofNat 32 n) .cbmWrap ↔ f = .cbmWrap ∧ (old.toNat + n) % 4294967296 = 4294967295 := by
    rw [← hmax]
    exact ⟨fun hf => ⟨mem_wrapsAt hf, by_contra fun hne => by simp [wrapsAt, hne] at hf⟩, fun ⟨hf, hold⟩ => by simp [wrapsAt, hold, hf]⟩
  rw [List.mem_append, mem_wrapsIn, hlast, mem_wrapsIn, ← and_or_left]
  refine and_congr_right fun _ => ?_
  omega

theorem Does.stream {fs : List Factor} {s u t : State} (h : Does fs s u t) (j : StreamIx) : t.stream j = u.stream j := by
  rw [State.stream, h.cbm]
  rfl

/-- The counter of lost records incremented once for each cell of a list. -/
theorem countLost_does (i : StreamIx) (cells : List QCell) (s : State) :
    Does (wrapsIn (s.stream i).recordsLost cells.length) s
      (s.setStream i { s.stream i with recordsLost := (s.stream i).recordsLost + BitVec.ofNat 32 cells.length })
      (cells.foldl (fun u _ => countStream i Stream.recordsLost (fun x n => { x with recordsLost := n }) u) s) := by
  induction cells using List.reverseRecOn with
  | nil =>
    refine ⟨(Raised.refl s).perm fun f => ?_, ?_⟩
    · rw [mem_wrapsIn]
      have := (s.stream i).recordsLost.isLt
      simp only [List.not_mem_nil, List.length_nil, false_iff, not_and]
      omega
    · simp only [List.length_nil, BitVec.add_zero]
      exact (State.setStream_self s i).symm
  | append_singleton cells c ih =>
    have hstep := ih.then (g := fun x => x.setStream i { x.stream i with recordsLost := (x.stream i).recordsLost + 1 })
      (countStream_does i Stream.recordsLost (fun x n => { x with recordsLost := n }) _)
    rw [List.foldl_append, List.length_append]
    refine ⟨hstep.raised.perm fun f => ?_, hstep.rest.trans ?_⟩
    · rw [ih.stream, State.setStream_stream_self]
      exact mem_wrapsIn_succ _ _ f
    · rw [State.setStream_stream_self, State.setStream_setStream, List.length_singleton, BitVec.ofNat_add, ← BitVec.add_assoc]
      rfl

/-! ### The frame in progress (R58) -/

/-- `holder` is the port and the context of the frame in progress on stream `i`, if there is one. -/
def HeldBy (i : StreamIx) (holder : Option (PortIx × FrameCtx)) (s : State) : Prop :=
  (s.stream i).inProgress = true ∧
      (∃ p f, holder = some (p, f) ∧ (s.port p).frame = some f ∧ f.stream = i ∧
        ∀ q g, q ≠ p → (s.port q).frame = some g → g.stream ≠ i) ∨
    (s.stream i).inProgress = false ∧ holder = none

/-- The assembly cell of the frame in progress. -/
def heldCells (holder : Option (PortIx × FrameCtx)) : List Nat := ((holder.bind (fun x => x.2.assembly)).map Assembly.index).toList

/-- The remaining reservation of the frame in progress. -/
def heldRoom (holder : Option (PortIx × FrameCtx)) : Nat := (holder.map (fun x => x.2.remaining)).getD 0

/-- The frame in progress ended without a record: its port DISCARDING, and its stream without it. -/
def frameDropped (i : StreamIx) (holder : Option (PortIx × FrameCtx)) (s : State) : State :=
  ((holder.map (fun x => s.setPort x.1 { s.port x.1 with frame := none, state := .discarding })).getD s).setStream i
    { s.stream i with inProgress := false }

theorem holderOf_of_unique {i : StreamIx} {s : State} {p : PortIx} {f : FrameCtx} (hf : (s.port p).frame = some f) (hi : f.stream = i)
    (hu : ∀ q g, q ≠ p → (s.port q).frame = some g → g.stream ≠ i) : holderOf i s = some (p, f) := by
  cases hholder : holderOf i s with
  | none =>
    have hp := List.findSome?_eq_none_iff.1 hholder p (List.mem_finRange p)
    rw [hf] at hp
    simp [hi] at hp
  | some x =>
    obtain ⟨q, g⟩ := x
    have hg := holderOf_frame hholder
    have hq : q = p := by_contra fun hne => hu q g hne hg (holderOf_stream hholder)
    rw [hq, hf] at hg
    rw [hq, Option.some.inj hg]

theorem flushFrame_of_heldBy {i : StreamIx} {holder : Option (PortIx × FrameCtx)} {s : State} (h : HeldBy i holder s) :
    flushFrame i s = (heldCells holder, heldRoom holder, frameDropped i holder s) := by
  obtain ⟨hprogress, p, f, rfl, hf, hi, hu⟩ | ⟨hprogress, rfl⟩ := h
  · rw [flushFrame, if_pos hprogress, holderOf_of_unique hf hi hu]
    rfl
  · have hself : s.setStream i { s.stream i with inProgress := false } = s := by
      rw [← hprogress]
      exact State.setStream_self s i
    rw [flushFrame, if_neg (by rw [hprogress]; nofun), frameDropped]
    exact congrArg (fun t => ([], 0, t)) hself.symm

theorem frameDropped_does (i : StreamIx) (holder : Option (PortIx × FrameCtx)) (s : State) :
    Does [] s (frameDropped i holder s) (frameDropped i holder s) := by
  cases holder with
  | none => exact (Does.refl s).done fun x => x.setStream i { x.stream i with inProgress := false }
  | some x =>
    exact (Does.refl s).done fun y =>
      (y.setPort x.1 { y.port x.1 with frame := none, state := .discarding }).setStream i { y.stream i with inProgress := false }

theorem frameDropped_cbm (i : StreamIx) (holder : Option (PortIx × FrameCtx)) (s : State) :
    (frameDropped i holder s).cbm = (s.setStream i { s.stream i with inProgress := false }).cbm := by
  cases holder <;> rfl

/-! ### What a flush leaves (R107) -/

/-- The state that a flush leaves, but for what it raises, with the free list, the DRAM and the stream still to say. -/
def flushed (i : StreamIx) (holder : Option (PortIx × FrameCtx)) (runs : List Run) (mem : List Host.Cell) (x : Stream) (s : State) : State :=
  ((((frameDropped i holder s).setFree runs).setMem mem).setReserved (s.cbm.reserved - heldRoom holder)).setStream i x

/-- The cells that a flush returns, behind the free list. -/
def flushedFree (i : StreamIx) (holder : Option (PortIx × FrameCtx)) (s : State) : List Nat :=
  freeCells s.cbm.free ++ (s.stream i).queue.map QCell.index ++ heldCells holder

/-- The record cells that a flush takes out of the queue. -/
def flushedRecords (i : StreamIx) (s : State) : List QCell := (s.stream i).queue.filter (fun c => !c.kind.isData)

/-- The stream behind step 3 of the flush. -/
def emptiedStream (i : StreamIx) (s : State) : Stream :=
  { s.stream i with
    queue := [], inProgress := false
    recordsLost := (s.stream i).recordsLost + BitVec.ofNat 32 (flushedRecords i s).length }

/-- Steps 1 to 3 of the flush. -/
def cellsReturned (i : StreamIx) (holder : Option (PortIx × FrameCtx)) (s : State) : State :=
  let t := flushCells i (heldCells holder) (frameDropped i holder s)
  t.setReserved (t.cbm.reserved - heldRoom holder)

/-- Step 4 of the flush. -/
def flushRecord (i : StreamIx) (t : State) : State :=
  if (t.stream i).openTx then issueCapture i (flushedRecord (t.stream i).boundPort (t.stream i).openTxNo t.lineTime) true t else t

/-- Steps 5 and 6 of the flush, and the closing of a drained stream. -/
def flushEnd (i : StreamIx) (t : State) : State :=
  closeIfDrained i (setFactor .cbmFlushDone (t.setStream i { t.stream i with framesHeld := (t.stream i).queue.length }))

theorem flushSteps_eq {i : StreamIx} {holder : Option (PortIx × FrameCtx)} {s : State} (h : HeldBy i holder s) :
    flushSteps i s = flushEnd i (flushRecord i (cellsReturned i holder s)) := by
  rw [flushSteps, flushFrame_of_heldBy h]
  rfl

theorem flushCells_does (i : StreamIx) (held : List Nat) (s : State) :
    Does (wrapsIn (s.stream i).recordsLost (flushedRecords i s).length) s
      ((s.setFree (pushAll s.cbm.free ((s.stream i).queue.map QCell.index ++ held))).setStream i
        { s.stream i with
          queue := [], recordsLost := (s.stream i).recordsLost + BitVec.ofNat 32 (flushedRecords i s).length })
      (flushCells i held s) := by
  have hdone := ((Does.refl s).done (fun x =>
      (x.setFree (pushAll s.cbm.free ((s.stream i).queue.map QCell.index ++ held))).setStream i { x.stream i with queue := [] })).then
    (g := fun x => x.setStream i { x.stream i with
      recordsLost := (x.stream i).recordsLost + BitVec.ofNat 32 (flushedRecords i s).length })
    (countLost_does i (flushedRecords i s) _)
  refine ⟨hdone.raised.perm fun f => ?_, hdone.rest.trans ?_⟩
  · rw [State.setStream_stream_self]
    exact Iff.rfl
  · rw [State.setStream_stream_self, State.setStream_setStream]

theorem cellsReturned_does (i : StreamIx) (holder : Option (PortIx × FrameCtx)) (s : State) :
    ∃ runs, freeCells runs = flushedFree i holder s ∧
      Does (wrapsIn (s.stream i).recordsLost (flushedRecords i s).length) s (flushed i holder runs s.cbm.mem (emptiedStream i s) s)
        (cellsReturned i holder s) := by
  have hstream : (frameDropped i holder s).stream i = { s.stream i with inProgress := false } := by
    rw [State.stream, frameDropped_cbm]
    exact State.setStream_stream_self ..
  have hfree : (frameDropped i holder s).cbm.free = s.cbm.free := by rw [frameDropped_cbm]; rfl
  have hmem : (frameDropped i holder s).cbm.mem = s.cbm.mem := by rw [frameDropped_cbm]; rfl
  have hreserved : (frameDropped i holder s).cbm.reserved = s.cbm.reserved := by rw [frameDropped_cbm]; rfl
  refine ⟨pushAll s.cbm.free ((s.stream i).queue.map QCell.index ++ heldCells holder), ?_, ?_⟩
  · rw [freeCells_pushAll, flushedFree, List.append_assoc]
  · have hcells := flushCells_does i (heldCells holder) (frameDropped i holder s)
    rw [flushedRecords, hstream, hfree] at hcells
    have hleft : (flushCells i (heldCells holder) (frameDropped i holder s)).cbm.reserved = s.cbm.reserved := by
      rw [hcells.cbm]
      exact hreserved
    have hdone := ((frameDropped_does i holder s).then
      (g := fun x => (x.setFree (pushAll s.cbm.free ((s.stream i).queue.map QCell.index ++ heldCells holder))).setStream i
        (emptiedStream i s)) hcells).done (fun x => x.setReserved (s.cbm.reserved - heldRoom holder))
    rw [cellsReturned, hleft, flushed, ← hmem]
    exact hdone

/-! ### The end of a flush (R106, R107) -/

/-- The factors of the end of a flush that leaves a stream in a state with a queue. -/
def closedFactor (x : StreamState) (queue : List QCell) : List Factor :=
  if x = .draining ∧ queue = [] then [.cbmStreamClosed] else []

/-- A stream at the end of a flush. -/
def Stream.flushEnded (x : Stream) : Stream :=
  { x with framesHeld := x.queue.length, state := if x.state = .draining ∧ x.queue = [] then .closed else x.state }

theorem flushEnd_does {i : StreamIx} {t : State} (h : (t.stream i).inProgress = false) :
    Does (.cbmFlushDone :: closedFactor (t.stream i).state (t.stream i).queue) t (t.setStream i (t.stream i).flushEnded) (flushEnd i t) := by
  have hdone := ((Does.refl t).done (fun x => x.setStream i { x.stream i with framesHeld := (x.stream i).queue.length })).then (g := id)
    (setFactor_does .cbmFlushDone _)
  have hstream := hdone.stream i
  rw [id, State.setStream_stream_self] at hstream
  rw [flushEnd, closeIfDrained_of_ended _ _ (by rw [hstream]; exact h), hstream]
  dsimp only
  by_cases hdrained : (t.stream i).state = .draining ∧ (t.stream i).queue = []
  · have hclosed := (hdone.done (fun x => x.setStream i { x.stream i with state := .closed })).then (g := id)
      (setFactor_does .cbmStreamClosed _)
    rw [hstream] at hclosed
    rw [if_pos hdrained, closedFactor, if_pos hdrained]
    refine ⟨hclosed.raised, hclosed.rest.trans ?_⟩
    rw [id, id, State.setStream_stream_self, State.setStream_setStream, Stream.flushEnded, if_pos hdrained]
  · rw [if_neg hdrained, closedFactor, if_neg hdrained]
    refine ⟨hdone.raised, hdone.rest.trans ?_⟩
    rw [id, Stream.flushEnded, if_neg hdrained]

theorem flushed_stream (i : StreamIx) (holder : Option (PortIx × FrameCtx)) (runs : List Run) (mem : List Host.Cell) (x : Stream) (s : State) :
    (flushed i holder runs mem x s).stream i = x := State.setStream_stream_self ..

theorem flushed_setStream (i : StreamIx) (holder : Option (PortIx × FrameCtx)) (runs : List Run) (mem : List Host.Cell) (x y : Stream)
    (s : State) : (flushed i holder runs mem x s).setStream i y = flushed i holder runs mem y s := State.setStream_setStream ..

/-- A flush whose steps 1 to 4 made of the rest what `flushed` says. -/
theorem Does.flushEnd {fs : List Factor} {i : StreamIx} {holder : Option (PortIx × FrameCtx)} {runs : List Run} {mem : List Host.Cell}
    {x : Stream} {s t : State} (h : Does fs s (flushed i holder runs mem x s) t) (hended : x.inProgress = false) :
    Does (fs ++ .cbmFlushDone :: closedFactor x.state x.queue) s (flushed i holder runs mem x.flushEnded s) (flushEnd i t) := by
  have hstream : t.stream i = x := by rw [h.stream, flushed_stream]
  have hend := flushEnd_does (i := i) (t := t) (by rw [hstream]; exact hended)
  rw [hstream] at hend
  have hdone := h.then (g := fun y => y.setStream i x.flushEnded) hend
  rwa [flushed_setStream] at hdone

/-! ### The FLUSHED record (R82, R107) -/

/-- The 49 bytes of a FLUSHED record (R82, R119). -/
theorem flushedRecord_payload (p : PortIx) (frameNo : BitVec 8) (l : LineTime) :
    (flushedRecord p frameNo l).payload =
      [0x02, BitVec.ofNat 8 p.val] ++ List.replicate 7 0xFF ++ [0, 0, frameNo] ++ List.replicate 11 0xFF ++
        be 6 l.toNat ++ be 6 l.toNat ++ List.replicate 14 0 := by
  have hsums : be 4 (0 : BitVec 32).toNat ++ be 4 (0 : BitVec 32).toNat ++ be 2 (0 : BitVec 16).toNat ++ be 2 (0 : BitVec 16).toNat ++
      be 2 (0 : BitVec 16).toNat = List.replicate 14 0 := by decide
  have hpart : be 4 (BitVec.allOnes 32).toNat = List.replicate 4 0xFF := by decide
  have hfireF : be 5 (BitVec.allOnes 40).toNat = List.replicate 5 0xFF := by decide
  have hfireL : be 6 (BitVec.allOnes 48).toNat = List.replicate 6 0xFF := by decide
  rw [← hsums]
  simp only [flushedRecord, CaptureRecord.payload, Option.map_none, Option.getD_none, hpart, hfireF, hfireL]
  simp [List.replicate]
  rfl

theorem flushed_enqueue (i : StreamIx) (holder : Option (PortIx × FrameCtx)) (runs left : List Run) (mem m : List Host.Cell) (x : Stream)
    (c : QCell) (s : State) :
    enqueue i c (((flushed i holder runs mem x s).setFree left).setMem m) =
      flushed i holder left m { x with queue := x.queue ++ [c] } s := by
  have hform : ((flushed i holder runs mem x s).setFree left).setMem m =
      (((((frameDropped i holder s).setFree left).setMem m).setReserved (s.cbm.reserved - heldRoom holder)).setStream i x) := by
    rw [flushed]
    generalize frameDropped i holder s = d
    rfl
  rw [hform, enqueue, State.setStream_stream_self, State.setStream_setStream, flushed]

theorem flushed_lineTime (i : StreamIx) (holder : Option (PortIx × FrameCtx)) (runs : List Run) (mem : List Host.Cell) (x : Stream) (s : State) :
    (flushed i holder runs mem x s).lineTime = s.lineTime := by
  cases holder <;> simp [flushed, frameDropped]

theorem Does.lineTime {fs : List Factor} {s u t : State} (h : Does fs s u t) : t.lineTime = u.lineTime := by
  rw [← h.rest]
  rfl

/-- No frame of the stream is open: no record. -/
theorem flushSteps_unopened {i : StreamIx} {holder : Option (PortIx × FrameCtx)} {s : State} (h : HeldBy i holder s)
    (hopens : (s.stream i).openTx = false) :
    ∃ runs, freeCells runs = flushedFree i holder s ∧
      Does (wrapsIn (s.stream i).recordsLost (flushedRecords i s).length ++ .cbmFlushDone :: closedFactor (s.stream i).state []) s
        (flushed i holder runs s.cbm.mem (emptiedStream i s).flushEnded s) (flushSteps i s) := by
  obtain ⟨runs, hfree, hcells⟩ := cellsReturned_does i holder s
  refine ⟨runs, hfree, ?_⟩
  have hopens' : ((cellsReturned i holder s).stream i).openTx = false := by
    rw [hcells.stream, flushed_stream]
    exact hopens
  rw [flushSteps_eq h, flushRecord, if_neg (by rw [hopens']; nofun)]
  exact hcells.flushEnd rfl

/-- The FLUSHED record finds no cell: it is lost, and with it the open frame is closed (R100). -/
theorem flushSteps_lost {i : StreamIx} {holder : Option (PortIx × FrameCtx)} {s : State} (h : HeldBy i holder s)
    (hopens : (s.stream i).openTx = true) (hroom : (flushedFree i holder s).length ≤ s.cbm.reserved - heldRoom holder) :
    ∃ runs, freeCells runs = flushedFree i holder s ∧
      Does (wrapsIn (s.stream i).recordsLost ((flushedRecords i s).length + 1) ++
          .cbmRecordLost :: .cbmFlushDone :: closedFactor (s.stream i).state []) s
        (flushed i holder runs s.cbm.mem
          { emptiedStream i s with openTx := false, recordsLost := (emptiedStream i s).recordsLost + 1 }.flushEnded s) (flushSteps i s) := by
  obtain ⟨runs, hfree, hcells⟩ := cellsReturned_does i holder s
  refine ⟨runs, hfree, ?_⟩
  have hstream : (cellsReturned i holder s).stream i = emptiedStream i s := by rw [hcells.stream, flushed_stream]
  have hfull : (cellsReturned i holder s).freeCount ≤ (cellsReturned i holder s).cbm.reserved := by
    rw [State.freeCount, hcells.cbm, freeCountOf_eq]
    exact hfree ▸ hroom
  rw [flushSteps_eq h, flushRecord, hstream, if_pos (show (emptiedStream i s).openTx = true from hopens), issueCapture,
    handRecord_lost _ _ _ _ (.inr hfull)]
  have hlose := loseRecord_does (i := i) (s := cellsReturned i holder s) (by rw [hstream]; rfl)
    (flushedRecord (emptiedStream i s).boundPort (emptiedStream i s).openTxNo (cellsReturned i holder s).lineTime).frameNo
  rw [hstream] at hlose
  have hlost := hcells.then (g := fun x => x.setStream i _) hlose
  rw [flushed_setStream] at hlost
  have hdone := hlost.flushEnd rfl
  refine ⟨hdone.raised.perm fun f => ?_, hdone.rest.trans ?_⟩
  · have hsucc := mem_wrapsIn_succ (s.stream i).recordsLost (flushedRecords i s).length f
    rw [List.mem_append] at hsucc
    change _ ∈ _ ++ _ ++ (_ :: closedFactor (s.stream i).state []) ↔ _
    simp only [List.mem_append, List.mem_cons, List.not_mem_nil, or_false, ← hsucc]
    have hbase : (emptiedStream i s).recordsLost = (s.stream i).recordsLost + BitVec.ofNat 32 (flushedRecords i s).length := rfl
    simp only [hbase, or_assoc]
  · have hopen : ((emptiedStream i s).openTx && (emptiedStream i s).openTxNo != (flushedRecord (emptiedStream i s).boundPort
        (emptiedStream i s).openTxNo (cellsReturned i holder s).lineTime).frameNo) = false := by
      simp [flushedRecord]
    rw [hopen]
    exact congrArg (fun x => flushed i holder runs s.cbm.mem x s) rfl

/-- The FLUSHED record takes the free list's head cell, and is then the whole queue. -/
theorem flushSteps_queued {i : StreamIx} {holder : Option (PortIx × FrameCtx)} {s : State} (h : HeldBy i holder s)
    (hclosed : (s.stream i).state ≠ .closed) (hopens : (s.stream i).openTx = true)
    (hroom : s.cbm.reserved - heldRoom holder < (flushedFree i holder s).length) {k : Nat} {free : List Nat}
    (hhead : flushedFree i holder s = k :: free) :
    ∃ runs, freeCells runs = free ∧
      Does (wrapsIn (s.stream i).recordsLost (flushedRecords i s).length ++ [.cbmFlushDone]) s
        (flushed i holder runs (writePayload s.cbm.mem k (flushedRecord (s.stream i).boundPort (s.stream i).openTxNo s.lineTime).payload)
          { emptiedStream i s with
            queue := [{ index := k, kind := .capture, len := 49, frameNo := (s.stream i).openTxNo, closing := true }] }.flushEnded s)
        (flushSteps i s) := by
  obtain ⟨runs, hfree, hcells⟩ := cellsReturned_does i holder s
  have hstream : (cellsReturned i holder s).stream i = emptiedStream i s := by rw [hcells.stream, flushed_stream]
  have hline : (cellsReturned i holder s).lineTime = s.lineTime := by rw [hcells.lineTime, flushed_lineTime]
  have hmem : (cellsReturned i holder s).cbm.mem = s.cbm.mem := by rw [hcells.cbm]; rfl
  have hcount : (cellsReturned i holder s).cbm.reserved < (cellsReturned i holder s).freeCount := by
    rw [State.freeCount, hcells.cbm, freeCountOf_eq]
    exact hfree ▸ hroom
  obtain ⟨left, hleft, hqueued⟩ := handRecord_queued (i := i) (s := cellsReturned i holder s) .capture
    (flushedRecord (s.stream i).boundPort (s.stream i).openTxNo s.lineTime).payload (s.stream i).openTxNo true
    (by rw [hstream]; exact hclosed) hcount (by rw [hcells.cbm]; exact hfree.trans hhead)
  refine ⟨left, hleft, ?_⟩
  have hrecord : flushRecord i (cellsReturned i holder s) = handRecord i .capture
      (flushedRecord (s.stream i).boundPort (s.stream i).openTxNo s.lineTime).payload (s.stream i).openTxNo true (cellsReturned i holder s) := by
    rw [flushRecord, hstream, if_pos (show (emptiedStream i s).openTx = true from hopens), issueCapture, hline]
    rfl
  rw [flushSteps_eq h, hrecord, hqueued, hmem, flushedRecord, CaptureRecord.payload_length]
  generalize writePayload s.cbm.mem k _ = m
  have hdone := hcells.done (fun x => enqueue i { index := k, kind := .capture, len := 49, frameNo := (s.stream i).openTxNo, closing := true }
    ((x.setFree left).setMem m))
  rw [flushed_enqueue] at hdone
  have hclosing := hdone.flushEnd rfl
  refine ⟨hclosing.raised.perm fun f => ?_, hclosing.rest⟩
  simp [closedFactor, emptiedStream]

/-! ### The whole flush (R107) -/

/-- The stream that a flush leaves where its record is not queued. -/
def flushedBase (i : StreamIx) (s : State) : Stream :=
  { emptiedStream i s with
    framesHeld := 0, openTx := false, state := if (s.stream i).state = .draining then .closed else (s.stream i).state }

theorem Stream.flushEnded_of_nil {x : Stream} (h : x.queue = []) :
    x.flushEnded = { x with framesHeld := 0, state := if x.state = .draining then .closed else x.state } := by
  simp [Stream.flushEnded, h]

theorem Stream.flushEnded_singleton {x : Stream} {c : QCell} (h : x.queue = [c]) : x.flushEnded = { x with framesHeld := 1 } := by
  simp [Stream.flushEnded, h]

theorem emptiedStream_openTx {i : StreamIx} {s : State} {b : Bool} (h : (s.stream i).openTx = b) :
    emptiedStream i s = { emptiedStream i s with openTx := b } := by
  rw [← h]
  rfl

theorem mem_closedFactor {x : StreamState} {f : Factor} : f ∈ closedFactor x [] ↔ f = .cbmStreamClosed ∧ x = .draining := by
  by_cases hx : x = .draining <;> simp [closedFactor, hx]

/-- The factors that a flush raises other than FLUSH_DONE; `full` says that its record finds no cell. -/
def FlushRaises (i : StreamIx) (full : Prop) [Decidable full] (s : State) (f : Factor) : Prop :=
  (f = .cbmRecordLost ∧ (s.stream i).openTx = true ∧ full) ∨
  (f = .cbmStreamClosed ∧ (s.stream i).state = .draining ∧ (¬ (s.stream i).openTx = true ∨ full)) ∨
  (f = .cbmWrap ∧ 4294967296 ≤ (s.stream i).recordsLost.toNat + (flushedRecords i s).length +
    if (s.stream i).openTx = true ∧ full then 1 else 0)

/-- The cells of a flush: its record, where a frame is open and a cell is free, is the whole queue. -/
structure FlushLeaves (i : StreamIx) (holder : Option (PortIx × FrameCtx)) (s : State) (runs : List Run) (mem : List Host.Cell) (x : Stream) :
    Prop where
  unopened : ¬ (s.stream i).openTx = true → freeCells runs = flushedFree i holder s ∧ mem = s.cbm.mem ∧ x = flushedBase i s
  lost : (s.stream i).openTx = true → (flushedFree i holder s).length ≤ s.cbm.reserved - heldRoom holder →
    freeCells runs = flushedFree i holder s ∧ mem = s.cbm.mem ∧ x = { flushedBase i s with recordsLost := (flushedBase i s).recordsLost + 1 }
  queued : ∀ k free, (s.stream i).openTx = true → s.cbm.reserved - heldRoom holder < (flushedFree i holder s).length →
    flushedFree i holder s = k :: free → freeCells runs = free ∧
      mem = writePayload s.cbm.mem k
        ([0x02, BitVec.ofNat 8 (s.stream i).boundPort.val] ++ List.replicate 7 0xFF ++ [0, 0, (s.stream i).openTxNo] ++
          List.replicate 11 0xFF ++ be 6 s.bpt.lineTime.toNat ++ be 6 s.bpt.lineTime.toNat ++ List.replicate 14 0) ∧
      x = { flushedBase i s with
        queue := [{ index := k, kind := .capture, len := 49, frameNo := (s.stream i).openTxNo, closing := true }]
        framesHeld := 1, openTx := true, state := (s.stream i).state }

theorem flushSteps_does {i : StreamIx} {holder : Option (PortIx × FrameCtx)} {s : State} (h : HeldBy i holder s)
    (hclosed : (s.stream i).state ≠ .closed) :
    ∃ fs runs mem x, Does fs s (flushed i holder runs mem x s) (flushSteps i s) ∧ .cbmFlushDone ∈ fs ∧
      (∀ f, f ≠ .cbmFlushDone →
        (f ∈ fs ↔ FlushRaises i ((flushedFree i holder s).length ≤ s.cbm.reserved - heldRoom holder) s f)) ∧
      FlushLeaves i holder s runs mem x := by
  by_cases hopens : (s.stream i).openTx = true
  · by_cases hfull : (flushedFree i holder s).length ≤ s.cbm.reserved - heldRoom holder
    · obtain ⟨runs, hfree, hdoes⟩ := flushSteps_lost h hopens hfull
      refine ⟨_, runs, _, _, hdoes, by simp, fun f hf => ?_, fun hno => absurd hopens hno, fun _ _ => ⟨hfree, rfl, ?_⟩,
        fun k free _ hroom => absurd hroom (Nat.not_lt.2 hfull)⟩
      · simp only [FlushRaises, List.mem_append, List.mem_cons, mem_wrapsIn, mem_closedFactor, hf, hopens, hfull, false_or, and_true, not_true,
          or_true, if_true, and_self, Nat.add_assoc]
        rw [or_comm, or_assoc]
      · rw [Stream.flushEnded_of_nil rfl]
        rfl
    · obtain ⟨k, free, hhead⟩ := List.exists_cons_of_ne_nil (List.ne_nil_of_length_pos (Nat.zero_lt_of_lt (Nat.not_le.1 hfull)))
      obtain ⟨runs, hfree, hdoes⟩ := flushSteps_queued h hclosed hopens (Nat.not_le.1 hfull) hhead
      refine ⟨_, runs, _, _, hdoes, by simp, fun f hf => ?_, fun hno => absurd hopens hno, fun _ hyes => absurd hyes hfull,
        fun k' free' _ _ hhead' => ?_⟩
      · simp [FlushRaises, mem_wrapsIn, hf, hopens, hfull]
      · obtain ⟨rfl, rfl⟩ := List.cons.inj (hhead.symm.trans hhead')
        refine ⟨hfree, congrArg _ (flushedRecord_payload _ _ _), ?_⟩
        rw [Stream.flushEnded_singleton rfl, emptiedStream_openTx hopens]
        rfl
  · obtain ⟨runs, hfree, hdoes⟩ := flushSteps_unopened h (Bool.eq_false_of_not_eq_true hopens)
    refine ⟨_, runs, _, _, hdoes, by simp, fun f hf => ?_, fun _ => ⟨hfree, rfl, ?_⟩, fun hyes => absurd hyes hopens,
      fun k free hyes => absurd hyes hopens⟩
    · simp [FlushRaises, mem_wrapsIn, mem_closedFactor, hf, hopens, or_comm]
    · rw [Stream.flushEnded_of_nil rfl, emptiedStream_openTx (Bool.eq_false_of_not_eq_true hopens)]
      rfl

/-! ### What a flush leaves unchanged (R107) -/

theorem flushed_stream_ne (i : StreamIx) (holder : Option (PortIx × FrameCtx)) (runs : List Run) (mem : List Host.Cell) (x : Stream) (s : State)
    {j : StreamIx} (h : j ≠ i) : (flushed i holder runs mem x s).stream j = s.stream j := by
  have hdropped : (frameDropped i holder s).stream j = s.stream j := by
    rw [State.stream, frameDropped_cbm]
    exact State.setStream_stream_ne _ _ _ _ h
  rw [flushed, State.setStream_stream_ne _ _ _ _ h, State.setReserved_stream, State.setMem_stream, State.setFree_stream, hdropped]

theorem flushed_port (i : StreamIx) (holder : Option (PortIx × FrameCtx)) (runs : List Run) (mem : List Host.Cell) (x : Stream) (s : State)
    (p : PortIx) : (flushed i holder runs mem x s).port p =
      if holder.map Prod.fst = some p then { s.port p with frame := none, state := .discarding } else s.port p := by
  cases holder with
  | none => simp [flushed, frameDropped]
  | some y =>
    obtain ⟨q, f⟩ := y
    simp only [flushed, frameDropped, Option.map_some, Option.getD_some, State.setStream_port, State.setReserved_port, State.setMem_port,
      State.setFree_port, State.setPort_port]
    by_cases hq : p = q
    · simp [hq]
    · simp [hq, Ne.symm hq]

/-- The blocks that a flush does not touch. -/
theorem flushed_rest (i : StreamIx) (holder : Option (PortIx × FrameCtx)) (runs : List Run) (mem : List Host.Cell) (x : Stream) (s : State) :
    let u := flushed i holder runs mem x s
    u.bpt = s.bpt ∧ u.trq = s.trq ∧ u.xcr = s.xcr ∧ u.flk = s.flk ∧ u.scd = s.scd ∧ u.ccr = s.ccr ∧ u.lvc = s.lvc := by
  cases holder <;> simp [flushed, frameDropped]

/-- Settles O43: the check, and the six steps of the flush. -/
theorem flushedStream : Obligations.FlushedStream := by
  intro s r rest i holder hoffers hop hi ha
  have hexec := exec_flushStream hoffers hop hi ha
  have hpopped : (s.popped rest).stream i = s.stream i := rfl
  refine ⟨fun hclosed => ?_, fun hopen hheld => ?_⟩
  · rw [hexec, answerFlush, hpopped, if_pos hclosed, placeResponse_refuse _ _ _ (by decide)]
    rfl
  · intro held back left lost opens base
    obtain ⟨fs, runs, mem, x, hdoes, hdone, hraises, hleaves⟩ :=
      flushSteps_does (i := i) (holder := holder) (s := s.popped rest) hheld hopen
    have hflush : exec .flushStream s = .next ((flushSteps i (s.popped rest)).placed (reply r 0)) := by
      rw [hexec, answerFlush, hpopped, if_neg hopen, placeResponse_okay]
    generalize flushSteps i (s.popped rest) = u at hdoes hflush
    have hrest := flushed_rest i holder runs mem x (s.popped rest)
    rw [← hdoes.rest] at hrest
    obtain ⟨hbpt, htrq, hxcr, hflk, hscd, hccr, hlvc⟩ := hrest
    have hstream : u.stream i = x := by rw [hdoes.stream, flushed_stream]
    have hfree : u.cbm.free = runs := by rw [hdoes.cbm]; rfl
    have hmem : u.cbm.mem = mem := by rw [hdoes.cbm]; rfl
    have hreserved : u.cbm.reserved = left := by rw [hdoes.cbm]; rfl
    subst hfree hmem hstream
    refine ⟨u, hflush, hdoes.raised.requests, hreserved, fun j hj => ?_, fun p => ?_, hbpt, htrq, hxcr, hflk, hscd, hccr, hlvc,
      hdoes.raised.has_of_mem hdone, fun f hf => ?_, hleaves.unopened, fun hopens hfull => ?_, hleaves.queued⟩
    · rw [hdoes.stream, flushed_stream_ne _ _ _ _ _ _ hj]
      rfl
    · rw [hdoes.port]
      exact flushed_port i holder _ _ _ _ p
    · rw [hdoes.raised.factors, Bool.eq_iff_iff]
      simp only [Bool.or_eq_true, decide_eq_true_eq, or_assoc]
      exact or_congr_right (hraises f hf)
    · obtain ⟨hfree, hmem, hstream⟩ := hleaves.lost hopens hfull
      exact ⟨hfree, hmem, hstream, hdoes.raised.has_of_mem ((hraises .cbmRecordLost nofun).2 (.inl ⟨rfl, hopens, hfull⟩))⟩

end Sys2Proof.Machine
end

section
/-! PROOFS. A match under sequence check passes over the older exposures (O18). -/

namespace Sys2Proof.Machine

/-! ### The match (R69) -/

/-- The first exposure with the count divides the list. -/
theorem splitAtCount_append {c : BitVec 8} {older younger : List Exposure} {e : Exposure} (he : e.count = c)
    (hcounts : ∀ x ∈ older, x.count ≠ c) : splitAtCount c (older ++ e :: younger) = some (older, e, younger) := by
  induction older with
  | nil => exact if_pos he
  | cons x rest ih =>
    rw [List.cons_append, splitAtCount, if_neg (hcounts x List.mem_cons_self), ih fun y hy => hcounts y (List.mem_cons_of_mem _ hy)]
    rfl

theorem matchFrame_skips {s : State} {p : PortIx} {older younger : List Exposure} {e : Exposure} (hseq : (s.port p).seqCheck = true)
    (hlist : s.exposures p = older ++ e :: younger) (hcounts : ∀ x ∈ older, x.count ≠ e.count) :
    matchFrame p e.count s = (some e, closeSkipped p older (s.setExposures p younger)) := by
  rw [matchFrame, if_pos hseq, hlist, splitAtCount_append rfl hcounts]

/-! ### One exposure passed over, and then the others (R69, R76, R83, R84) -/

/-- One exposure closed with SKIPPED, L as it stands. -/
def skipOne (p : PortIx) (x : Exposure) (s : State) : State := setFactor (.camSkipped p) (closeExposure p .skipped s.lineTime x s)

theorem closeSkipped_cons (p : PortIx) (x : Exposure) (rest : List Exposure) (s : State) :
    closeSkipped p (x :: rest) s = closeSkipped p rest (skipOne p x s) := rfl

/-- What one exposure passed over leaves alone, all of them leave alone. -/
theorem closeSkipped_keeps {α : Type} {p : PortIx} {view : State → α} (hone : ∀ x u, view (skipOne p x u) = view u)
    (older : List Exposure) (s : State) : view (closeSkipped p older s) = view s := by
  induction older generalizing s with
  | nil => rfl
  | cons x rest ih => rw [closeSkipped_cons, ih, hone]

@[simp] theorem skipOne_bpt (p : PortIx) (x : Exposure) (s : State) : (skipOne p x s).bpt = s.bpt := by simp [skipOne]

@[simp] theorem skipOne_lineTime (p : PortIx) (x : Exposure) (s : State) : (skipOne p x s).lineTime = s.lineTime := by simp [skipOne]

@[simp] theorem skipOne_trq (p : PortIx) (x : Exposure) (s : State) : (skipOne p x s).trq = s.trq := by simp [skipOne]

@[simp] theorem skipOne_exposures (p : PortIx) (x : Exposure) (s : State) (q : PortIx) :
    (skipOne p x s).exposures q = s.exposures q := by simp [skipOne]

theorem skipOne_port_self (p : PortIx) (x : Exposure) (s : State) :
    (skipOne p x s).port p = { s.port p with missing := (s.port p).missing + 1 } := by simp [skipOne]

theorem skipOne_port_ne (p : PortIx) (x : Exposure) (s : State) {q : PortIx} (hq : q ≠ p) : (skipOne p x s).port q = s.port q := by
  simp [skipOne, hq]

theorem closeSkipped_port_self (p : PortIx) (older : List Exposure) (s : State) :
    (closeSkipped p older s).port p = { s.port p with missing := (s.port p).missing + BitVec.ofNat 32 older.length } := by
  induction older generalizing s with
  | nil => simp [closeSkipped]
  | cons x rest ih =>
    have hcount (n : BitVec 32) : n + 1 + BitVec.ofNat 32 rest.length = n + BitVec.ofNat 32 (rest.length + 1) := by
      rw [BitVec.ofNat_add, BitVec.add_assoc, BitVec.add_comm 1]
      rfl
    rw [closeSkipped_cons, ih, skipOne_port_self]
    dsimp only
    rw [hcount, List.length_cons]

/-- One exposure passed over by the part, and its record alone: SKIPPED and the port's WRAP are all that tells them apart. -/
theorem SameRecords.of_skipOne {watched : Factor → Prop} {s v : State} (h : SameRecords watched s v) {p : PortIx}
    (hskipped : ¬ watched (.camSkipped p)) (hwrap : ¬ watched (.camWrap p)) (x : Exposure) :
    SameRecords watched (skipOne p x s)
      (handRecord x.stream .missing (exposureMissing p x 2 s.lineTime) (v.stream x.stream).frameCounter false v) := by
  have hclosed := h.of_closeExposure (cause := .skipped) rfl p hwrap s.lineTime x
  refine hclosed.raised_left (setFactor_cbm ..) (setFactor_raised ..) fun f hf => ?_
  rwa [List.mem_singleton.1 hf]

theorem SameRecords.of_closeSkipped {watched : Factor → Prop} {s v : State} (h : SameRecords watched s v) {p : PortIx}
    (hskipped : ¬ watched (.camSkipped p)) (hwrap : ¬ watched (.camWrap p)) (older : List Exposure) :
    SameRecords watched (closeSkipped p older s) (handMissing (listMissing p older 2 s.lineTime) v) := by
  induction older generalizing s v with
  | nil => exact h
  | cons x rest ih =>
    have hrest := ih (h.of_skipOne hskipped hwrap x)
    rw [skipOne_lineTime] at hrest
    exact hrest

/-! ### The factor SKIPPED -/

theorem skipOne_has_camSkipped (p : PortIx) (x : Exposure) (s : State) : (skipOne p x s).evu.has (.camSkipped p) = true :=
  (setFactor_raised ..).has_of_mem (List.mem_singleton_self _)

theorem closeSkipped_has_camSkipped (p : PortIx) (older : List Exposure) (s : State) :
    (closeSkipped p older s).evu.has (.camSkipped p) = (s.evu.has (.camSkipped p) || !older.isEmpty) := by
  induction older generalizing s with
  | nil => simp [closeSkipped]
  | cons x rest ih => rw [closeSkipped_cons, ih, skipOne_has_camSkipped]; simp

/-! ### The statement -/

/-- The record of one exposure passed over. -/
theorem skipOne_went (p : PortIx) (x : Exposure) (s : State) :
    RecordWent x.stream .missing (exposureMissing p x 2 s.lineTime) (s.stream x.stream).frameCounter false s (skipOne p x s) := by
  have hwent := issueMissing_went x.stream (exposureRecord p x .skipped s.lineTime) s
  rw [exposureRecord_payload_code (cause := .skipped) rfl] at hwent
  exact hwent.congr rfl (setFactor_cbm ..) (setFactor_raised ..).has_of_has

/-- Settles O18, by induction on the exposures passed over. -/
theorem matchSkipsOlder : Obligations.MatchSkipsOlder := by
  intro s p older younger e hseq hlist hcounts
  rw [matchFrame_skips hseq hlist hcounts]
  have hunlisted : SameRecords (fun f => f ≠ .camSkipped p ∧ f ≠ .camWrap p) (s.setExposures p younger) s :=
    (SameRecords.refl s).left (State.setExposures_cbm ..) (State.setExposures_evu ..)
  have hrecords := hunlisted.of_closeSkipped (p := p) (fun h => h.1 rfl) (fun h => h.2 rfl) older
  refine ⟨rfl, ?_, fun q hq => ?_, ?_, fun q hq => ?_, ?_, ?_, ?_, fun x hone => ?_, hrecords.cbm,
    fun f hskipped hwrap => hrecords.factors f ⟨hskipped, hwrap⟩⟩
  · rw [closeSkipped_keeps (view := (·.exposures p)) (fun x u => skipOne_exposures p x u p)]
    exact State.setExposures_exposures_self ..
  · rw [closeSkipped_keeps (view := (·.exposures q)) (fun x u => skipOne_exposures p x u q)]
    exact State.setExposures_exposures_ne _ _ _ _ hq
  · exact closeSkipped_port_self p older _
  · exact closeSkipped_keeps (view := (·.port q)) (fun x u => skipOne_port_ne p x u hq) older _
  · exact closeSkipped_has_camSkipped p older _
  · exact closeSkipped_keeps (view := State.bpt) (skipOne_bpt p) older _
  · exact closeSkipped_keeps (view := State.trq) (skipOne_trq p) older _
  · subst hone
    exact (skipOne_went p x (s.setExposures p younger)).congr (State.setExposures_cbm ..).symm rfl id

end Sys2Proof.Machine
end

section
/-! PROOFS. What ReservedLaw sees of a state, and the steps that leave every reservation (O54). -/

namespace Sys2Proof.Machine

/-! ### The law at one port -/

/-- What ReservedLaw sees of a port: the remaining reservation of its frame, and whether it is IN_FRAME. -/
def Port.reserveView (x : Port) : Option Nat × Bool := (x.frame.map FrameCtx.remaining, decide (x.state = .inFrame))

theorem State.remainingOf_eq (s : State) (p : PortIx) : s.remainingOf p = (s.port p).reserveView.1.getD 0 := rfl

theorem Port.reserveView_matched (x : Port) : x.reserveView.1.isSome = x.reserveView.2 ↔ (x.frame.isSome = true ↔ x.state = .inFrame) := by
  rw [Port.reserveView, Option.isSome_map]
  exact ⟨fun h => by rw [h]; exact decide_eq_true_iff, fun h => Bool.eq_iff_iff.2 (h.trans decide_eq_true_iff.symm)⟩

theorem framesMatch_iff (s : State) : FramesMatch s ↔ ∀ p, (s.port p).reserveView.1.isSome = (s.port p).reserveView.2 :=
  forall_congr' fun p => (Port.reserveView_matched (s.port p)).symm

theorem reservedLaw_iff (s : State) :
    ReservedLaw s ↔ FramesMatch s ∧ s.cbm.reserved = ∑ p, s.remainingOf p ∧ s.cbm.reserved ≤ s.freeCount := by
  rw [ReservedLaw, Fin.sum_univ_def]

theorem ReservedLaw.remaining_le {s : State} (h : ReservedLaw s) (p : PortIx) : s.remainingOf p ≤ s.cbm.reserved := by
  obtain ⟨-, hsum, -⟩ := (reservedLaw_iff s).1 h
  rw [hsum]
  exact Finset.single_le_sum (f := s.remainingOf) (fun _ _ => Nat.zero_le _) (Finset.mem_univ p)

/-- A port without a frame has nothing reserved. -/
theorem ReservedLaw.remaining_of_out {s : State} (h : ReservedLaw s) {p : PortIx} (hp : (s.port p).state ≠ .inFrame) :
    s.remainingOf p = 0 := by
  have hnone : (s.port p).frame = none := by simpa [← h.1 p] using hp
  rw [State.remainingOf, hnone]
  rfl

/-- The reserved total goes with the remaining reservation of the one port that changes. -/
theorem ReservedLaw.at_port {s t : State} (h : ReservedLaw s) (p : PortIx)
    (hothers : ∀ q, q ≠ p → (t.port q).reserveView = (s.port q).reserveView)
    (hmatched : (t.port p).reserveView.1.isSome = (t.port p).reserveView.2)
    (hreserved : t.cbm.reserved + s.remainingOf p = s.cbm.reserved + t.remainingOf p) (hroom : t.cbm.reserved ≤ t.freeCount) :
    ReservedLaw t := by
  obtain ⟨hm, hsum, -⟩ := (reservedLaw_iff s).1 h
  refine (reservedLaw_iff t).2 ⟨(framesMatch_iff t).2 fun q => ?_, ?_, hroom⟩
  · by_cases hq : q = p
    · exact hq ▸ hmatched
    · rw [hothers q hq]
      exact (framesMatch_iff s).1 hm q
  · have hremaining : t.remainingOf = Function.update s.remainingOf p (t.remainingOf p) := by
      funext q
      rw [Function.update_apply]
      split
      · rename_i hq
        rw [hq]
      · rename_i hq
        rw [State.remainingOf_eq, hothers q hq, State.remainingOf_eq]
    have hmoved := sum_update id s.remainingOf p (t.remainingOf p)
    simp only [id, ← hremaining, ← hsum] at hmoved
    have htotal : (∑ q, t.remainingOf q) + s.remainingOf p = s.cbm.reserved + t.remainingOf p := hmoved
    omega

/-! ### Steps that leave every reservation -/

/-- The step from `s` to `t` leaves every reservation, and takes free cells beyond the reserved total alone. -/
structure Unspent (s t : State) : Prop where
  reserved : t.cbm.reserved = s.cbm.reserved
  ports : ∀ p, (t.port p).reserveView = (s.port p).reserveView
  room : s.cbm.reserved ≤ s.freeCount → s.cbm.reserved ≤ t.freeCount

theorem Unspent.refl (s : State) : Unspent s s := ⟨rfl, fun _ => rfl, id⟩

theorem Unspent.trans {s t u : State} (h : Unspent s t) (k : Unspent t u) : Unspent s u where
  reserved := k.reserved.trans h.reserved
  ports p := (k.ports p).trans (h.ports p)
  room hs := by
    have ht := k.room
    rw [h.reserved] at ht
    exact ht (h.room hs)

theorem Unspent.ite {s t u : State} {c : Prop} [Decidable c] (ht : c → Unspent s t) (hu : ¬ c → Unspent s u) :
    Unspent s (if c then t else u) := by
  split
  · exact ht ‹_›
  · exact hu ‹_›

theorem foldl_unspent {α : Type} (f : State → α → State) (h : ∀ s a, Unspent s (f s a)) (l : List α) (s : State) :
    Unspent s (l.foldl f s) := by
  induction l generalizing s with
  | nil => exact Unspent.refl s
  | cons a rest ih => exact (h s a).trans (ih _)

/-- A step that changes neither the ports nor the number of free cells. -/
theorem Unspent.of_counts {s t : State} (hreserved : t.cbm.reserved = s.cbm.reserved := by simp) (hcpr : t.cpr = s.cpr := by simp)
    (hfree : s.freeCount ≤ t.freeCount := by simp) : Unspent s t :=
  ⟨hreserved, fun p => by rw [State.port, State.port, hcpr], fun h => h.trans hfree⟩

/-- A step that changes neither the ports nor CBM. -/
theorem Unspent.of_blocks {s t : State} (hcbm : t.cbm = s.cbm := by simp) (hcpr : t.cpr = s.cpr := by simp) : Unspent s t :=
  .of_counts (by rw [hcbm]) hcpr (by rw [State.freeCount, State.freeCount, hcbm])

theorem Does.unspent {fs : List Factor} {s u t : State} (h : Does fs s u t) (hu : Unspent s u) : Unspent s t := by
  have hcpr := congrArg State.cpr h.rest
  have hcbm := congrArg State.cbm h.rest
  exact hu.trans (.of_blocks hcbm hcpr)

theorem Unspent.law {s t : State} (h : Unspent s t) (hs : ReservedLaw s) : ReservedLaw t := by
  have hremaining : t.remainingOf = s.remainingOf := funext fun p => by rw [State.remainingOf_eq, h.ports, State.remainingOf_eq]
  obtain ⟨hm, hsum, hroom⟩ := (reservedLaw_iff s).1 hs
  refine (reservedLaw_iff t).2 ⟨(framesMatch_iff t).2 fun p => ?_, ?_, ?_⟩
  · rw [h.ports]
    exact (framesMatch_iff s).1 hm p
  · rw [h.reserved, hremaining, hsum]
  · rw [h.reserved]
    exact h.room hroom

theorem setFactor_unspent (f : Factor) (s : State) : Unspent s (setFactor f s) := .of_blocks

theorem setStream_unspent (i : StreamIx) (x : Stream) (s : State) : Unspent s (s.setStream i x) := .of_counts

theorem setPort_unspent {p : PortIx} {x : Port} {s : State} (h : x.reserveView = (s.port p).reserveView) : Unspent s (s.setPort p x) := by
  refine ⟨rfl, fun q => ?_, id⟩
  rw [State.setPort_port]
  split
  · rename_i hq
    rw [h, hq]
  · rfl

/-- A port that is not IN_FRAME goes to another state that is not. -/
theorem setPortState_unspent {p : PortIx} {x : PortState} {s : State} (hp : (s.port p).state ≠ .inFrame) (hx : x ≠ .inFrame) :
    Unspent s (s.setPortState p x) :=
  setPort_unspent (by simp [Port.reserveView, hp, hx])

theorem setFrame_unspent {p : PortIx} {f : Option FrameCtx} {s : State}
    (h : f.map FrameCtx.remaining = (s.port p).frame.map FrameCtx.remaining) : Unspent s (s.setFrame p f) :=
  setPort_unspent (Prod.ext h rfl)

theorem countPort_unspent (p : PortIx) (get : Port → BitVec 32) (upd : Port → BitVec 32 → Port) (s : State)
    (h : ∀ n, (upd (s.port p) n).reserveView = (s.port p).reserveView := by intros; rfl) : Unspent s (countPort p get upd s) :=
  (countPort_does p get upd s).unspent (setPort_unspent (h _))

theorem countStream_unspent (i : StreamIx) (get : Stream → BitVec 32) (upd : Stream → BitVec 32 → Stream) (s : State) :
    Unspent s (countStream i get upd s) := (countStream_does i get upd s).unspent (setStream_unspent ..)

theorem countTrq_unspent (old : BitVec 32) (upd : Trq → BitVec 32 → Trq) (s : State) : Unspent s (countTrq old upd s) := .of_blocks

theorem setExposures_unspent (p : PortIx) (x : List Exposure) (s : State) : Unspent s (s.setExposures p x) := .of_blocks

theorem setTrq_unspent (s : State) (x : Trq) : Unspent s { s with trq := x } := .of_blocks rfl rfl

theorem setScd_unspent (s : State) (x : Scd) : Unspent s { s with scd := x } := .of_blocks rfl rfl

theorem setFlk_unspent (s : State) (x : Flk) : Unspent s { s with flk := x } := .of_blocks rfl rfl

theorem setEvu_unspent (s : State) (x : Evu) : Unspent s { s with evu := x } := .of_blocks rfl rfl

theorem setMge_unspent (s : State) (x : Mge) : Unspent s { s with mge := x } := .of_blocks rfl rfl

theorem setCcr_unspent (s : State) (x : Ccr) : Unspent s { s with ccr := x } := .of_blocks rfl rfl

theorem setBpt_unspent (s : State) (x : Bpt) : Unspent s { s with bpt := x } := .of_blocks rfl rfl

theorem setLvc_unspent (s : State) (x : Lvc) : Unspent s { s with lvc := x } := .of_blocks rfl rfl

/-! ### Records at CBM (R99, R100) -/

/-- A record takes a free cell beyond the reserved total, or none (R99). -/
theorem handRecord_unspent (i : StreamIx) (kind : CellKind) (payload : List Byte) (f : BitVec 8) (closing : Bool) (s : State) :
    Unspent s (handRecord i kind payload f closing s) := by
  refine ⟨by simp, fun p => by simp, fun hroom => ?_⟩
  obtain ⟨-, hbeyond, k, hfree, -⟩ | ⟨-, hfree, -⟩ := handRecord_went i kind payload f closing s
  · have hlength := congrArg List.length hfree
    rw [List.length_cons, ← freeCountOf_eq, ← freeCountOf_eq] at hlength
    simp only [State.freeCount] at hbeyond ⊢
    omega
  · rw [State.freeCount, hfree]
    exact hroom

theorem closeIfDrained_unspent (i : StreamIx) (s : State) : Unspent s (closeIfDrained i s) := .of_counts

theorem issueMissing_unspent (i : StreamIx) (r : MissingRecord) (s : State) : Unspent s (issueMissing i r s) :=
  (countPort_unspent r.port Port.missing (fun x n => { x with missing := n }) s).trans (handRecord_unspent ..)

theorem closeExposure_unspent (p : PortIx) (cause : Cause) (l : LineTime) (e : Exposure) (s : State) :
    Unspent s (closeExposure p cause l e s) := issueMissing_unspent ..

theorem removeAll_unspent (p : PortIx) (cause : Cause) (list : List Exposure) (s : State) : Unspent s (removeAll p cause list s) := by
  induction list generalizing s with
  | nil => exact setExposures_unspent p [] s
  | cons e rest ih => exact ((setExposures_unspent p rest s).trans (closeExposure_unspent ..)).trans (ih _)

theorem matchFrame_unspent (p : PortIx) (c : BitVec 8) (s : State) : Unspent s (matchFrame p c s).2 := by
  unfold matchFrame
  split
  · split
    · exact Unspent.refl s
    · exact (setExposures_unspent p _ s).trans
        (foldl_unspent _ (fun _ _ => (closeExposure_unspent ..).trans (setFactor_unspent ..)) _ _)
  · split
    · exact Unspent.refl s
    · exact setExposures_unspent p _ s

theorem countRefusal_unspent (i : StreamIx) (v : Verdict) (s : State) : Unspent s (countRefusal i v s) := by
  have hcount := countStream_unspent i Stream.framesRejected (fun x n => { x with framesRejected := n }) s
  cases v with
  | granted | notOpen => exact hcount
  | heldLimit | noRoom => exact hcount.trans (setFactor_unspent ..)

theorem parityError_unspent (p : PortIx) (s : State) : Unspent s (parityError p s) := (parityError_does p s).unspent (setPort_unspent rfl)

theorem framingError_unspent (p : PortIx) (s : State) : Unspent s (framingError p s) := (framingError_does p s).unspent (setPort_unspent rfl)

/-! ### TRQ (R22-R43) -/

theorem streamCheck_unspent (e : TrigEntry) (s : State) : Unspent s (streamCheck e s) := .of_blocks

theorem failTrigger_unspent (e : TrigEntry) (i : StreamIx) (cause : Cause) (s : State) : Unspent s (failTrigger e i cause s) := by
  rw [failTrigger_eq]
  exact (issueMissing_unspent ..).trans (countTrq_unspent ..)

theorem appendExposure_unspent (p : PortIx) (x : Exposure) (s : State) : Unspent s (appendExposure p x s) :=
  ((setExposures_unspent p _ s).trans
    (foldl_unspent _ (fun _ _ => (closeExposure_unspent ..).trans (setFactor_unspent ..)) _ _)).trans (setExposures_unspent ..)

theorem fireTrigger_unspent (e : TrigEntry) (i : StreamIx) (s : State) : Unspent s (fireTrigger e i s) :=
  ((setTrq_unspent s _).trans (countTrq_unspent ..)).trans (appendExposure_unspent ..)

theorem firingProcedure_unspent (e : TrigEntry) (s : State) : Unspent s (firingProcedure e s) := by
  have hfail (cause : Cause) (f : Factor) :=
    (failTrigger_unspent e (checkedStream e s) cause (streamCheck e s)).trans (setFactor_unspent f _)
  exact (streamCheck_unspent e s).trans (Unspent.ite (fun _ => hfail ..) fun _ => Unspent.ite (fun _ => hfail ..) fun _ =>
    Unspent.ite (fun _ => hfail ..) fun _ => fireTrigger_unspent ..)

theorem fireDue_unspent (queue : List TrigEntry) (s : State) : Unspent s (fireDue queue s) := by
  induction queue generalizing s with
  | nil => exact setTrq_unspent s _
  | cons e rest ih =>
    exact Unspent.ite (fun _ => ((setTrq_unspent s _).trans (firingProcedure_unspent ..)).trans (ih _)) (fun _ => setTrq_unspent s _)

theorem deliverF_unspent (old : FinePos) (s : State) : Unspent s (deliverF old s) :=
  Unspent.ite (fun _ => Unspent.refl s) (fun _ => fireDue_unspent _ s)

theorem dropTriggers_unspent (queue : List TrigEntry) (s : State) : Unspent s (dropTriggers queue s) := by
  induction queue generalizing s with
  | nil => exact setTrq_unspent s _
  | cons e rest ih => exact (((setTrq_unspent s _).trans (streamCheck_unspent e _)).trans (failTrigger_unspent ..)).trans (ih _)

theorem insertTrigger_unspent (e : TrigEntry) (s : State) : Unspent s (insertTrigger e s) :=
  Unspent.ite (fun _ => setTrq_unspent s _) fun _ =>
    ((streamCheck_unspent e s).trans (failTrigger_unspent ..)).trans (setFactor_unspent ..)

theorem registerPart_unspent (n : SensorIx) (s : State) : Unspent s (registerPart n s) :=
  (((setTrq_unspent s _).trans (countTrq_unspent ..)).trans (setTrq_unspent _ _)).trans
    (foldl_unspent _ (fun _ _ => Unspent.ite (fun _ => insertTrigger_unspent ..) (fun _ => Unspent.refl _)) _ _)

theorem sampleSensor_unspent (n : SensorIx) (sample : Bool) (s : State) : Unspent s (sampleSensor n sample s) := by
  have hgate (u : State) : Unspent u (registrationGate n sample u) :=
    Unspent.ite
      (fun _ => Unspent.ite (fun _ => countTrq_unspent ..) fun _ =>
        Unspent.ite (fun _ => (countTrq_unspent ..).trans (setFactor_unspent ..)) (fun _ => registerPart_unspent n u))
      (fun _ => Unspent.refl u)
  exact Unspent.ite (fun _ => (setTrq_unspent s _).trans (hgate _)) (fun _ => setTrq_unspent s _)

/-! ### The blocks that keep no cells: BPT, FLK's return lane, MGE's and CCR's queues -/

theorem BeltStep.unspent {fs : List Factor} {b : Bpt} {s t : State} (h : BeltStep fs b s t) : Unspent s t :=
  Does.unspent ⟨h.raised, h.rest⟩ (.of_blocks rfl rfl)

theorem beltWork_unspent (step dir : Bool) (s : State) : Unspent s (beltWork step dir s) := by
  have htick : Unspent s (s.ticked step dir) := by
    by_cases hlevel : s.lvc.level = .listen
    · exact (ticked_beltStep_listen step dir hlevel).unspent
    · exact (ticked_beltStep_tracking step dir hlevel).unspent
  rw [beltWork_eq]
  refine Unspent.ite (fun _ => Unspent.ite (fun _ => ?_) fun _ => ?_) (fun _ => Unspent.ite (fun _ => ?_) fun _ => htick)
  · exact htick.trans (forwardEdge_beltStep _).unspent
  · exact htick.trans (reverseEdge_beltStep _).unspent
  · exact htick.trans (.of_blocks rfl rfl)

theorem presetBelt_unspent (value : BitVec 32) (s : State) : Unspent s (presetBelt value s) :=
  Unspent.trans (.of_blocks (by simp [clearLockout]) (by simp [clearLockout])) (deliverF_unspent ..)

theorem takeDueExpiry_unspent (s : State) : Unspent s (takeDueExpiry s) :=
  Unspent.ite (fun _ => .of_blocks (by simp [expireHold]) (by simp [expireHold])) (fun _ => Unspent.refl s)

theorem leaveSync_unspent (s : State) : Unspent s (leaveSync s) := by
  have hdown : Unspent s (setFactor .flkDown { s with flk := s.flk.down }) := .of_blocks
  rw [leaveSync_eq]
  exact Unspent.ite (fun _ => hdown.trans (.of_blocks rfl rfl)) (fun _ => hdown)

theorem takeGoodCell_unspent (act : State → State) (hact : ∀ u, Unspent u (act u)) (s : State) : Unspent s (takeGoodCell act s) := by
  unfold takeGoodCell
  split
  · exact Unspent.refl s
  · exact Unspent.ite (fun _ => .of_blocks (by simp [enterSync]) (by simp [enterSync])) (fun _ => .of_blocks rfl rfl)
  · exact (setFlk_unspent s _).trans (hact _)

theorem takeBadCell_unspent (s : State) : Unspent s (takeBadCell s) := by
  have hcount : Unspent s (setFactor .flkBadCell (countFlk s.flk.badCells (fun x n => { x with badCells := n }) s)) := .of_blocks
  unfold takeBadCell
  split
  · exact Unspent.refl s
  · exact hcount.trans (.of_blocks rfl rfl)
  · exact Unspent.ite (fun _ => hcount.trans (leaveSync_unspent _)) (fun _ => hcount.trans (.of_blocks rfl rfl))

theorem takeRequest_unspent (payload : List Byte) (s : State) : Unspent s (takeRequest payload s) :=
  Unspent.ite (fun _ => .of_blocks rfl rfl)
    (fun _ => .of_blocks (by simp [countDropped]) (by simp [countDropped]))

/-- Whatever a relay tick comes to, it changes CCR alone. -/
theorem txnTick_unspent (clk dat : Bool) (x : Txn) (s : State) : Unspent s (txnTick clk dat x s) := by
  have hhold (y : Txn) (ph : StallPhase) (w : Wires) : Unspent s (holdTick y ph w s) := Unspent.ite (fun _ => setCcr_unspent s _) (fun _ => setCcr_unspent s _)
  have hbit (ph : StallPhase) : Unspent s (bitTick clk dat x ph s) :=
    Unspent.ite (fun _ => setCcr_unspent s _) fun _ => Unspent.ite (fun _ => hhold ..) fun _ => Unspent.ite (fun _ => setCcr_unspent s _) (fun _ => setCcr_unspent s _)
  unfold txnTick
  cases x.phase with
  | deferring => exact Unspent.ite (fun _ => setCcr_unspent s _) fun _ => Unspent.ite (fun _ => setCcr_unspent s _) (fun _ => Unspent.refl s)
  | lineCheck => exact Unspent.ite (fun _ => Unspent.ite (fun _ => setCcr_unspent s _) (fun _ => setCcr_unspent s _)) (fun _ => setCcr_unspent s _)
  | start => exact Unspent.ite (fun _ => hhold ..) fun _ => Unspent.ite (fun _ => setCcr_unspent s _) (fun _ => setCcr_unspent s _)
  | address | write | read => exact hbit _
  | restart =>
    exact Unspent.ite (fun _ => setCcr_unspent s _) fun _ => Unspent.ite (fun _ => hhold ..) fun _ =>
      Unspent.ite (fun _ => Unspent.ite (fun _ => setCcr_unspent s _) fun _ => Unspent.ite (fun _ => setCcr_unspent s _) (fun _ => setCcr_unspent s _)) (fun _ => setCcr_unspent s _)
  | stop =>
    exact Unspent.ite (fun _ => setCcr_unspent s _) fun _ => Unspent.ite (fun _ => hhold ..) fun _ => Unspent.ite (fun _ => setCcr_unspent s _) (fun _ => setCcr_unspent s _)
  | report => exact Unspent.refl s

end Sys2Proof.Machine
end

section
/-! PROOFS. Frames take their reservation, spend it and give it back (O54). -/

namespace Sys2Proof.Machine

/-! ### Cells of a frame (R94-R96) -/

/-- The frame at port `p` has the remaining reservation of `f`. -/
def State.Reserves (s : State) (p : PortIx) (f : FrameCtx) : Prop := (s.port p).frame.map FrameCtx.remaining = some f.remaining

theorem State.Reserves.of_frame {s : State} {p : PortIx} {f g : FrameCtx} (h : (s.port p).frame = some f)
    (hg : g.remaining = f.remaining) : s.Reserves p g := by
  rw [State.Reserves, h, hg]
  rfl

theorem State.Reserves.remainingOf {s : State} {p : PortIx} {f : FrameCtx} (h : s.Reserves p f) : s.remainingOf p = f.remaining := by
  rw [State.remainingOf, h]
  rfl

theorem Unspent.reserves {s t : State} (h : Unspent s t) {p : PortIx} {f : FrameCtx} (hf : s.Reserves p f) : t.Reserves p f :=
  (congrArg Prod.fst (h.ports p)).trans hf

/-- The context replaced by one with the same reservation. -/
theorem State.Reserves.setFrame {s : State} {p : PortIx} {f : FrameCtx} (h : s.Reserves p f) : Unspent s (s.setFrame p (some f)) :=
  setFrame_unspent (by rw [h]; rfl)

theorem commitCell_unspent (p : PortIx) (last : Bool) {f : FrameCtx} {s : State} (h : s.Reserves p f) : Unspent s (commitCell p last f s) := by
  cases hasm : f.assembly with
  | none =>
    rw [commitCell_none p last f s hasm]
    exact Unspent.refl s
  | some a =>
    have hqueued := setStream_unspent f.stream { s.stream f.stream with queue := (s.stream f.stream).queue ++
      [{ index := a.index, kind := commitKind f.committed last, len := 2 * a.words, frameNo := f.frameNo, closing := false }] } s
    rw [commitCell_some p last f s a hasm]
    exact hqueued.trans (State.Reserves.setFrame (f := { f with assembly := none, committed := true }) (hqueued.reserves h))

theorem truncateWord_unspent (p : PortIx) {f : FrameCtx} {s : State} (h : s.Reserves p f) : Unspent s (truncateWord p f s) :=
  (State.Reserves.setFrame (f := { f with truncated := true }) h).trans (setFactor_unspent ..)

theorem placeInCell_unspent (p : PortIx) (value : BitVec 16) (a : Assembly) {f : FrameCtx} {s : State} (h : s.Reserves p f) :
    Unspent s (placeInCell p value a f s) := by
  have hmem : Unspent s (s.setMem (writeWord s.cbm.mem a.index a.words value)) := .of_counts rfl rfl (Nat.le_refl _)
  exact hmem.trans (State.Reserves.setFrame (hmem.reserves h))

/-- A new cell is taken from the free list against the frame's reservation (R94). -/
theorem placeInNewCell_law (p : PortIx) (value : BitVec 16) {f : FrameCtx} {s : State} (hs : ReservedLaw s) (h : s.Reserves p f) :
    ReservedLaw (placeInNewCell p value f s) := by
  unfold placeInNewCell
  split
  · exact (truncateWord_unspent p h).law hs
  · rename_i hleft
    split
    · exact (truncateWord_unspent p h).law hs
    · rename_i k runs htake
      have hroom := hs.2.2
      have hheld := hs.remaining_le p
      have hcount : s.freeCount = freeCountOf runs + 1 := by
        rw [State.freeCount, freeCountOf_eq, takeHead_some htake, List.length_cons, freeCountOf_eq]
      rw [h.remainingOf] at hheld
      refine hs.at_port p (fun q hq => ?_) ?_ ?_ ?_
      · simp [placeInCell, State.setFrame_port, hq]
      · have hmatched := (framesMatch_iff s).1 hs.1 p
        rw [Port.reserveView, h] at hmatched
        simpa [placeInCell, State.setFrame_port, Port.reserveView] using hmatched
      · have hspent : (placeInCell p value { index := k, words := 0 } { f with remaining := f.remaining - 1 }
            (((s.setFree runs).setMem (writePayload s.cbm.mem k [])).setReserved (s.cbm.reserved - 1))).remainingOf p =
              f.remaining - 1 := by
          simp [placeInCell, State.remainingOf, State.setFrame_port]
        rw [hspent, h.remainingOf]
        change s.cbm.reserved - 1 + f.remaining = _
        omega
      · change s.cbm.reserved - 1 ≤ freeCountOf runs
        omega

theorem placeWord_law (p : PortIx) (value : BitVec 16) {f : FrameCtx} {s : State} (hs : ReservedLaw s) (h : s.Reserves p f) :
    ReservedLaw (placeWord p value f s) := by
  unfold placeWord
  split
  · exact placeInNewCell_law p value hs h
  · split
    · exact (placeInCell_unspent p value _ h).law hs
    · have hcommit := commitCell_unspent p (f.remaining == 0) h
      exact placeInNewCell_law p value (f := { f with assembly := none, committed := true }) (hcommit.law hs) (hcommit.reserves h)

theorem takeData_law (p : PortIx) (good : Bool) (value : BitVec 16) {f : FrameCtx} {s : State} (hs : ReservedLaw s) (h : s.Reserves p f) :
    ReservedLaw (takeData p good value f s) := by
  have hset := State.Reserves.setFrame (s := s) (p := p)
    (f := { f with computed := f.computed + value, received := saturatingInc f.received, parity := f.parity || !good }) h
  exact placeWord_law p value (hset.law hs) (hset.reserves h)

/-! ### The end of a frame (R55, R57, R58, R97, R98) -/

/-- A frame ends, and its remaining reservation leaves the reserved total. -/
theorem ReservedLaw.frame_ended {s t : State} {p : PortIx} {f : FrameCtx} (hs : ReservedLaw s) (h : s.Reserves p f)
    (hothers : ∀ q, q ≠ p → (t.port q).reserveView = (s.port q).reserveView) (hp : (t.port p).reserveView = (none, false))
    (hreserved : t.cbm.reserved = s.cbm.reserved - f.remaining) (hroom : s.cbm.reserved - f.remaining ≤ t.freeCount) : ReservedLaw t := by
  have hheld := hs.remaining_le p
  rw [h.remainingOf] at hheld
  refine hs.at_port p hothers (by rw [hp]; rfl) ?_ (hreserved ▸ hroom)
  rw [State.remainingOf_eq t, hp, hreserved, h.remainingOf]
  exact Nat.sub_add_cancel hheld

/-- A frame that closes or is aborted gives its remaining reservation back before its record is handed over (R97, R98). -/
theorem finishFrame_law {p : PortIx} {f : FrameCtx} {s : State} {x : PortState} (hs : ReservedLaw s) (h : s.Reserves p f) (out : x ≠ .inFrame) :
    ReservedLaw ((finishFrame p f s).setPortState p x) := by
  have hroom := hs.2.2
  have hcbm := endFrameCells_cbm p f s
  have hended : (endFrameCells p f s).cbm.reserved = s.cbm.reserved - f.remaining := by rw [hcbm]; rfl
  have hfree : (endFrameCells p f s).freeCount = s.freeCount := by rw [State.freeCount, hcbm]; rfl
  have hrecord := handRecord_unspent f.stream .capture (frameRecord p f s.lineTime).payload f.frameNo true (endFrameCells p f s)
  have hreserved : (finishFrame p f s).cbm.reserved = s.cbm.reserved - f.remaining := by
    rw [finishFrame_eq, closeIfDrained_reserved, State.setFrame_cbm, hrecord.reserved, hended]
  have hleft : s.cbm.reserved - f.remaining ≤ (finishFrame p f s).freeCount := by
    rw [finishFrame_eq, closeIfDrained_freeCount, State.setFrame_freeCount, ← hended]
    exact hrecord.room (by omega)
  refine hs.frame_ended h (fun q hq => ?_) ?_ hreserved hleft
  · simp [State.setPortState_port, finishFrame_port, hq]
  · simp [State.setPortState_port, finishFrame_port, Port.reserveView, out]

theorem abortFrame_law {p : PortIx} {s : State} {x : PortState} (hs : ReservedLaw s) (out : x ≠ .inFrame) :
    ReservedLaw ((abortFrame p s).setPortState p x) := by
  cases hframe : (s.port p).frame with
  | none =>
    have hstate : (s.port p).state ≠ .inFrame := by simp [← hs.1 p, hframe]
    rw [abortFrame_none hframe]
    exact (setPortState_unspent hstate out).law hs
  | some f =>
    rw [abortFrame_some hframe]
    exact finishFrame_law hs (.of_frame hframe rfl) out

theorem closeFrame_law (p : PortIx) (value : BitVec 16) {f : FrameCtx} {s : State} (hs : ReservedLaw s) (h : s.Reserves p f) :
    ReservedLaw (closeFrame p value f s) := by
  have hset := State.Reserves.setFrame (s := s) (p := p) (f := f.closedAt s.lineTime value) h
  have hcount : Unspent (s.setFrame p (some (f.closedAt s.lineTime value)))
      (countChecksum p (value != f.computed) (s.setFrame p (some (f.closedAt s.lineTime value)))) :=
    Unspent.ite (fun _ => (countPort_unspent ..).trans (setFactor_unspent ..)) (fun _ => Unspent.refl _)
  have hclosed := hset.trans hcount
  rw [closeFrame_eq]
  exact finishFrame_law (hclosed.law hs) (hclosed.reserves h) nofun

/-! ### The start of a frame (R51, R91, R92) -/

theorem refuseFrame_unspent {p : PortIx} (i : StreamIx) (v : Verdict) (e : Option Exposure) (value : BitVec 16) {s : State}
    (ready : (s.port p).state ≠ .inFrame) : Unspent s (refuseFrame p i v e value s) := by
  have hrecord := (countRefusal_unspent i v s).trans (handRecord_unspent i .capture
    (rejectedRecord p e (value.setWidth 8) ((value >>> 8).setWidth 8) ((countRefusal i v s).stream i).frameCounter
      (countRefusal i v s).lineTime).payload ((countRefusal i v s).stream i).frameCounter false _)
  exact hrecord.trans (setPortState_unspent (by simpa using ready) nofun)

/-- A frame is admitted where its whole reservation finds room beyond the reserved total (R91). -/
theorem offerFrame_law {p : PortIx} (i : StreamIx) (e : Option Exposure) (value : BitVec 16) {s : State} (hs : ReservedLaw s)
    (ready : (s.port p).state ≠ .inFrame) : ReservedLaw (offerFrame p i e value s) := by
  unfold offerFrame
  split
  · exact (refuseFrame_unspent i _ e value ready).law hs
  · split
    · rename_i hgranted
      have hroom : s.cbm.reserved + (s.stream i).reservation.toNat ≤ s.freeCount := by
        by_contra hfull
        have hnot : ¬ s.cbm.reserved + Config.recordRoom + (s.stream i).reservation.toNat ≤ s.freeCount := by omega
        simp [judgeFrame, hnot] at hgranted
        split_ifs at hgranted
      have hreserved : (grantFrame i s).cbm.reserved = s.cbm.reserved + (s.stream i).reservation.toNat := by simp [grantFrame]
      have hfree : (grantFrame i s).freeCount = s.freeCount := by simp [grantFrame]
      refine hs.at_port p (fun q hq => ?_) (by simp [Port.reserveView]) ?_ ?_
      · simp [hq]
      · rw [hs.remaining_of_out ready]
        simp [hreserved, State.remainingOf, newFrame]
      · simpa [hreserved, hfree] using hroom
    · exact (refuseFrame_unspent i _ e value ready).law hs

theorem beginFrame_law {p : PortIx} (value : BitVec 16) {s : State} (hs : ReservedLaw s) (ready : (s.port p).state ≠ .inFrame) :
    ReservedLaw (beginFrame p value s) := by
  have hmatch := (countPort_unspent p Port.frames (fun x n => { x with frames := n }) s).trans (matchFrame_unspent p (value.setWidth 8) _)
  have hready {t : State} (ht : Unspent s t) : (t.port p).state ≠ .inFrame := by
    have hview := congrArg Prod.snd (ht.ports p)
    simp only [Port.reserveView, decide_eq_decide] at hview
    rwa [Ne, hview]
  unfold beginFrame
  dsimp only
  split
  · rename_i e t hfound
    rw [hfound] at hmatch
    exact offerFrame_law _ _ value (hmatch.law hs) (hready hmatch)
  · rename_i t hfound
    rw [hfound] at hmatch
    have horphan := (hmatch.trans (setFactor_unspent (.camOrphan p) t)).trans
      (countPort_unspent p Port.orphans (fun x n => { x with orphans := n }) _)
    split
    · exact offerFrame_law _ _ value (horphan.law hs) (hready horphan)
    · exact (horphan.trans (setPortState_unspent (x := .discarding) (hready horphan) nofun)).law hs

/-! ### FLUSH (R107) -/

theorem flushCells_unspent (i : StreamIx) (held : List Nat) (s : State) : Unspent s (flushCells i held s) := by
  refine (flushCells_does i held s).unspent (.of_counts rfl rfl ?_)
  rw [State.setStream_freeCount, State.setFree_freeCount, State.freeCount, freeCountOf_eq, freeCountOf_eq, freeCells_pushAll,
    List.length_append]
  exact Nat.le_add_right ..

/-- Steps 1 to 3 of a flush: the frame in progress, if a port holds one, gives its reservation back, and cells return to the free list. -/
theorem cellsFlushed_law (i : StreamIx) {s : State} (hs : ReservedLaw s) :
    let t := flushCells i (flushFrame i s).1 (flushFrame i s).2.2
    ReservedLaw (t.setReserved (t.cbm.reserved - (flushFrame i s).2.1)) := by
  have hquiet {u : State} (hu : Unspent s u) : ReservedLaw ((flushCells i [] u).setReserved ((flushCells i [] u).cbm.reserved - 0)) :=
    (hu.trans (flushCells_unspent i [] u)).law hs
  have hroom := hs.2.2
  unfold flushFrame
  split
  · split
    · rename_i p f hholder
      have hcells := flushCells_unspent i (f.assembly.map Assembly.index).toList
        ((s.setPort p { s.port p with frame := none, state := .discarding }).setStream i { s.stream i with inProgress := false })
      refine hs.frame_ended (.of_frame (holderOf_frame hholder) rfl) (fun q hq => (hcells.ports q).trans (by simp [hq]))
        ((hcells.ports p).trans (by simp [Port.reserveView])) (congrArg (· - f.remaining) hcells.reserved) ?_
      exact (Nat.sub_le ..).trans (hcells.room hroom)
    · exact hquiet (setStream_unspent ..)
  · exact hquiet (Unspent.refl s)

theorem flushSteps_law (i : StreamIx) {s : State} (hs : ReservedLaw s) : ReservedLaw (flushSteps i s) := by
  have hcells := cellsFlushed_law i hs
  unfold flushSteps
  refine Unspent.law ?_ hcells
  dsimp only
  refine Unspent.trans ?_ (closeIfDrained_unspent ..)
  refine Unspent.trans ?_ (setFactor_unspent ..)
  refine Unspent.trans ?_ (setStream_unspent ..)
  exact Unspent.ite (fun _ => handRecord_unspent ..) (fun _ => Unspent.refl _)

end Sys2Proof.Machine
end

section
/-! PROOFS. The head cell of a stream selected, and a drained stream closed: what they make of the rest, and what they raise. -/

namespace Sys2Proof.Machine

/-! ### A drained stream (R106) -/

/-- A stream of which nothing is left while it is DRAINING. -/
abbrev Stream.Drained (x : Stream) : Prop := x.state = .draining ∧ x.queue = [] ∧ x.inProgress = false

/-- A stream closed if it is drained. -/
def Stream.closedIfDrained (x : Stream) : Stream := { x with state := if x.Drained then .closed else x.state }

theorem closeIfDrained_does (i : StreamIx) (s : State) :
    Does (if (s.stream i).Drained then [.cbmStreamClosed] else []) s (s.setStream i (s.stream i).closedIfDrained) (closeIfDrained i s) := by
  unfold Stream.closedIfDrained
  split
  · rename_i hdrained
    obtain ⟨hstate, hqueue, hprogress⟩ := hdrained
    rw [closeIfDrained_of i s hstate hqueue hprogress]
    exact ((Does.refl s).done (fun x => x.setStream i { x.stream i with state := .closed })).then (g := id) (setFactor_does _ _)
  · rename_i hnot
    have hself : s.setStream i { s.stream i with state := (s.stream i).state } = s := State.setStream_self s i
    rw [closeIfDrained_of_not i s hnot, hself]
    exact Does.refl s

/-! ### The selection (R102) -/

/-- A stream without its head, which is counted as sent (R102, steps 1, 2 and 5). -/
def Stream.popped (x : Stream) (rest : List QCell) : Stream := { x with queue := rest, seq := x.seq + 1, cellsSent := x.cellsSent + 1 }

/-- The open-transmitted frame number at a frame's first data cell (R102, step 3). -/
def Stream.openedBy (x : Stream) (c : QCell) : Stream :=
  if c.kind = .dataFirst ∨ c.kind = .dataOnly then { x with openTx := true, openTxNo := c.frameNo } else x

/-- The frame's accounting closed at a cell with the closing mark (R102, step 4). -/
def Stream.closedBy (x : Stream) (c : QCell) : Stream :=
  if c.closing then { x with framesHeld := x.framesHeld - 1, openTx := false } else x

/-- A stream whose head `c` leaves it, before `rest`. -/
def Stream.sent (x : Stream) (c : QCell) (rest : List QCell) : Stream := (((x.popped rest).openedBy c).closedBy c).closedIfDrained

theorem Stream.sent_eq (x : Stream) (c : QCell) (rest : List QCell) :
    x.sent c rest =
      { x with
        queue := rest, seq := x.seq + 1, cellsSent := x.cellsSent + 1
        openTx := (decide (c.kind = .dataFirst ∨ c.kind = .dataOnly) || x.openTx) && !c.closing
        openTxNo := if c.kind = .dataFirst ∨ c.kind = .dataOnly then c.frameNo else x.openTxNo
        framesHeld := if c.closing then x.framesHeld - 1 else x.framesHeld
        state := if x.state = .draining ∧ rest = [] ∧ x.inProgress = false then .closed else x.state } := by
  unfold Stream.sent Stream.closedIfDrained Stream.closedBy Stream.openedBy Stream.popped
  by_cases hopens : c.kind = .dataFirst ∨ c.kind = .dataOnly <;> cases hclosing : c.closing <;> simp [hopens]

theorem setStream_openedBy (i : StreamIx) (c : QCell) (s : State) :
    (if c.kind = .dataFirst ∨ c.kind = .dataOnly then s.setStream i { s.stream i with openTx := true, openTxNo := c.frameNo } else s) =
      s.setStream i ((s.stream i).openedBy c) := by
  unfold Stream.openedBy
  split
  · rfl
  · exact (State.setStream_self s i).symm

theorem setStream_closedBy (i : StreamIx) (c : QCell) (s : State) :
    (if c.closing then s.setStream i { s.stream i with framesHeld := (s.stream i).framesHeld - 1, openTx := false } else s) =
      s.setStream i ((s.stream i).closedBy c) := by
  unfold Stream.closedBy
  split
  · rfl
  · exact (State.setStream_self s i).symm

/-- The head taken and counted (R102, steps 1, 2 and 5). -/
def headTaken (i : StreamIx) (rest : List QCell) (s : State) : State :=
  countStream i Stream.cellsSent (fun x n => { x with cellsSent := n })
    (s.setStream i { s.stream i with queue := rest, seq := (s.stream i).seq + 1 })

theorem headTaken_does (i : StreamIx) (rest : List QCell) (s : State) :
    Does (wrapsAt (s.stream i).cellsSent .cbmWrap) s (s.setStream i ((s.stream i).popped rest)) (headTaken i rest s) := by
  have hcount := ((Does.refl s).done fun x => x.setStream i { x.stream i with queue := rest, seq := (x.stream i).seq + 1 }).then
    (g := fun x => x.setStream i { x.stream i with cellsSent := (x.stream i).cellsSent + 1 })
    (countStream_does i Stream.cellsSent (fun x n => { x with cellsSent := n }) _)
  rw [State.setStream_stream_self, State.setStream_setStream] at hcount
  exact hcount

theorem selectCell_cons {i : StreamIx} {s : State} {c : QCell} {rest : List QCell} (h : (s.stream i).queue = c :: rest) :
    selectCell i s = some (c, (s.stream i).seq, closeIfDrained i ((headTaken i rest s).setStream i
      ((((headTaken i rest s).stream i).openedBy c).closedBy c))) := by
  unfold selectCell
  simp only [h, setStream_openedBy, setStream_closedBy]
  rw [State.setStream_stream_self, State.setStream_setStream]
  rfl

/-- The selection of a stream's head cell: the cell, its sequence number, and the steps of R102. -/
theorem selectCell_does {i : StreamIx} {s : State} {c : QCell} {rest : List QCell} (h : (s.stream i).queue = c :: rest) :
    ∃ t, selectCell i s = some (c, (s.stream i).seq, t) ∧
      Does (wrapsAt (s.stream i).cellsSent .cbmWrap ++
        if (s.stream i).state = .draining ∧ rest = [] ∧ (s.stream i).inProgress = false then [.cbmStreamClosed] else []) s
        (s.setStream i ((s.stream i).sent c rest)) t := by
  refine ⟨_, selectCell_cons h, ?_⟩
  have hmarked := (headTaken_does i rest s).done fun x => x.setStream i (((x.stream i).openedBy c).closedBy c)
  have hclosed := hmarked.then (g := fun x => x.setStream i (x.stream i).closedIfDrained) (closeIfDrained_does i _)
  have hstream : (headTaken i rest s).stream i = (s.stream i).popped rest := by
    rw [(headTaken_does i rest s).stream, State.setStream_stream_self]
  have hkept : (((((s.stream i).popped rest).openedBy c).closedBy c).Drained ↔
      (s.stream i).state = .draining ∧ rest = [] ∧ (s.stream i).inProgress = false) := by
    unfold Stream.Drained Stream.closedBy Stream.openedBy Stream.popped
    split <;> split <;> rfl
  simp only [State.setStream_stream_self, State.setStream_setStream, hstream, hkept] at hclosed
  rw [hstream]
  exact hclosed

end Sys2Proof.Machine
end

section
/-! PROOFS. Every command, and every step, keeps ReservedLaw (O54). -/

namespace Sys2Proof.Machine

/-! ### The outward lane (R102, R116, R137-R141) -/

theorem sendStream_unspent (i : StreamIx) (s : State) : Unspent s (sendStream i s) := by
  unfold sendStream
  cases hqueue : (s.stream i).queue with
  | nil =>
    have hnone : selectCell i s = none := by simp [selectCell, hqueue]
    rw [hnone]
    exact .of_blocks rfl rfl
  | cons c rest =>
    obtain ⟨t, hselect, hdone⟩ := selectCell_does hqueue
    rw [hselect]
    exact (hdone.unspent (setStream_unspent ..)).trans (.of_blocks rfl rfl)

theorem takeSlot_unspent (s : State) : Unspent s (takeSlot s) := by
  have hsend : Unspent s (sendChoice (chooseCell s) s) := by
    unfold sendChoice
    split
    · exact .of_blocks rfl rfl
    · unfold sendMgmt
      split <;> exact .of_blocks rfl rfl
    · exact sendStream_unspent ..
    · exact (setScd_unspent _ _).trans (sendStream_unspent ..)
  have hadvance (t : State) : Unspent t (advanceSlot t) :=
    Unspent.ite (fun _ => .of_blocks (by simp [exchangeCalendars]) (by simp [exchangeCalendars])) (fun _ => .of_blocks rfl rfl)
  exact hsend.trans (hadvance _)

/-- The end of a transmission: a buffer cell joins the free list (R102, R116). -/
theorem reportSent_unspent (owner : TxOwner) (s : State) : Unspent s (reportSent owner s) := by
  cases owner with
  | idle => exact Unspent.refl s
  | stream index =>
    refine .of_counts rfl rfl ?_
    rw [reportSent, returnCell, State.setFree_freeCount, State.freeCount, freeCountOf_eq, freeCountOf_eq, freeCells_pushTail,
      List.length_append]
    exact Nat.le_add_right ..
  | response isReset => exact Unspent.ite (fun _ => .of_blocks rfl rfl) (fun _ => Unspent.refl s)
  | event live => exact Unspent.ite (fun _ => .of_blocks rfl rfl) (fun _ => Unspent.refl s)

theorem transmissionEnd_unspent {s t : State} (h : execTransmissionEnd s = .next t) : Unspent s t := by
  unfold execTransmissionEnd at h
  split at h
  · cases h
    exact Unspent.refl s
  · cases h
    have htick (u : State) : Unspent u (tickHold u) :=
      Unspent.ite (fun _ => Unspent.refl u) fun _ => Unspent.ite (fun _ => .of_blocks rfl rfl) (fun _ => .of_blocks rfl rfl)
    have hended : Unspent s { takeDueExpiry s with flk := { (takeDueExpiry s).flk with tx := none } } :=
      (takeDueExpiry_unspent s).trans (.of_blocks rfl rfl)
    exact (hended.trans (reportSent_unspent ..)).trans (htick _)

/-! ### The answers that touch no frame (R152-R163) -/

/-- The checks of a request, one after another: each answer's state. -/
theorem Unspent.answer_ite {s : State} {a b : Answer} {c : Prop} [Decidable c] (ha : c → Unspent s a.after)
    (hb : ¬ c → Unspent s b.after) : Unspent s (if c then a else b).after := by
  split
  · exact ha ‹_›
  · exact hb ‹_›

/-- A refusal leaves the state as it is (R152). -/
theorem refuse_unspent (x : Status) (s : State) : Unspent s (refuse x s).after := Unspent.refl s

/-- A check refused, or the rest of the checks. -/
theorem Unspent.check {s : State} {b : Answer} {c : Prop} [Decidable c] {x : Status} (hb : ¬ c → Unspent s b.after) :
    Unspent s (if c then refuse x s else b).after := Unspent.answer_ite (fun _ => refuse_unspent x s) hb

theorem judgeEvent_unspent (s : State) : Unspent s (judgeEvent s) :=
  Unspent.ite (fun _ => .of_blocks rfl rfl) (fun _ => Unspent.refl s)

theorem evuChanged_unspent (before : Evu) (g : GroupIx) (s : State) : Unspent s (evuChanged before g s) :=
  Unspent.ite (fun _ => (setEvu_unspent s _).trans (judgeEvent_unspent _)) (fun _ => setEvu_unspent s _)

theorem answerRead_unspent (r : Request) (s : State) : Unspent s (answerRead r s).after := by
  unfold answerRead
  split
  · exact refuse_unspent ..
  · exact Unspent.answer_ite (fun _ => Unspent.refl s) (fun _ => refuse_unspent ..)

theorem answerWriteBelt_unspent (r : Request) (s : State) : Unspent s (answerWriteBelt r s).after :=
  Unspent.check fun _ => Unspent.check fun _ => Unspent.check fun _ => .of_blocks rfl rfl

theorem answerWriteTrigger_unspent (r : Request) (s : State) : Unspent s (answerWriteTrigger r s).after :=
  Unspent.check fun _ => Unspent.check fun _ => Unspent.check fun _ => .of_blocks rfl rfl

theorem answerWriteSensor_unspent (r : Request) (s : State) : Unspent s (answerWriteSensor r s).after := by
  unfold answerWriteSensor
  split
  · exact Unspent.check fun _ => .of_blocks rfl rfl
  · exact refuse_unspent ..

theorem answerWritePort_unspent (r : Request) (s : State) : Unspent s (answerWritePort r s).after := by
  unfold answerWritePort
  split
  · have hset (v : List (Nat × Nat)) (p : PortIx) : Unspent s (s.setPort p (storePort v (s.port p))) := setPort_unspent rfl
    exact Unspent.check fun _ => Unspent.check fun _ => Unspent.ite (fun _ => (hset _ _).trans (setTrq_unspent _ _)) (fun _ => hset _ _)
  · exact refuse_unspent ..

theorem answerWriteRelay_unspent (r : Request) (s : State) : Unspent s (answerWriteRelay r s).after :=
  Unspent.check fun _ => Unspent.check fun _ => Unspent.check fun _ => .of_blocks rfl rfl

theorem answerWriteEvent_unspent (r : Request) (s : State) : Unspent s (answerWriteEvent r s).after := by
  unfold answerWriteEvent
  split
  · exact Unspent.check fun _ => (setEvu_unspent s _).trans (evuChanged_unspent ..)
  · exact refuse_unspent ..

theorem answerClearEvents_unspent (r : Request) (s : State) : Unspent s (answerClearEvents r s).after := by
  unfold answerClearEvents
  split
  · exact Unspent.check fun _ => (setEvu_unspent s _).trans (evuChanged_unspent ..)
  · exact refuse_unspent ..

theorem answerWriteShadow_unspent (r : Request) (s : State) : Unspent s (answerWriteShadow r s).after := by
  refine Unspent.check fun _ => Unspent.check fun _ => ?_
  change Unspent s (stored _ 0 s _)
  unfold stored
  split
  · exact Unspent.refl s
  · exact .of_blocks rfl rfl

/-- The tables without a row of their own (R154). -/
theorem answerWritePlain_unspent (r : Request) (s : State) : Unspent s (answerWritePlain r s).after := by
  unfold answerWritePlain
  split
  case h_1 =>
    unfold answerWritePlan
    split
    · exact Unspent.check fun _ => .of_blocks rfl rfl
    · exact refuse_unspent ..
  case h_2 =>
    unfold answerWriteStream
    split
    · exact Unspent.check fun _ => Unspent.check fun _ => setStream_unspent ..
    · exact refuse_unspent ..
  case h_3 => exact answerWriteShadow_unspent r s
  case h_5 => exact Unspent.check fun _ => Unspent.check fun _ => .of_blocks rfl rfl
  case h_6 => exact Unspent.check fun _ => Unspent.check fun _ => .of_blocks rfl rfl
  all_goals exact refuse_unspent ..

theorem answerWriteCal_unspent (r : Request) (s : State) : Unspent s (answerWriteCal r s).after :=
  Unspent.check fun _ => Unspent.check fun _ => foldl_unspent _ (fun u _ => setScd_unspent u _) _ s

theorem answerCalSwap_unspent (r : Request) (s : State) : Unspent s (answerCalSwap r s).after :=
  Unspent.check fun _ => Unspent.check fun _ => .of_blocks rfl rfl

theorem clearCounters_unspent (group stream : Nat) (s : State) : Unspent s (clearCounters group stream s) :=
  Unspent.ite (fun _ => .of_blocks rfl rfl) fun _ => Unspent.ite (fun _ => .of_blocks rfl rfl) fun _ =>
    Unspent.ite (fun _ => setPort_unspent rfl) fun _ => Unspent.ite (fun _ => setStream_unspent ..) fun _ =>
      Unspent.ite (fun _ => .of_blocks rfl rfl) fun _ => .of_blocks rfl rfl

theorem answerReadCounters_unspent (r : Request) (s : State) : Unspent s (answerReadCounters r s).after :=
  Unspent.check fun _ => Unspent.check fun _ => Unspent.ite (fun _ => clearCounters_unspent ..) (fun _ => Unspent.refl s)

theorem answerBeltPreset_unspent (r : Request) (s : State) : Unspent s (answerBeltPreset r s).after :=
  Unspent.answer_ite (fun _ => presetBelt_unspent ..) (fun _ => refuse_unspent ..)

theorem answerRelay_unspent (r : Request) (s : State) : Unspent s (answerRelay r s).after :=
  Unspent.check fun _ => Unspent.check fun _ => Unspent.check fun _ => Unspent.check fun _ => .of_blocks rfl rfl

theorem answerOpen_unspent (i : StreamIx) (s : State) : Unspent s (answerOpen i s).after :=
  Unspent.answer_ite (fun _ => setStream_unspent ..) (fun _ => refuse_unspent ..)

theorem answerClose_unspent (i : StreamIx) (s : State) : Unspent s (answerClose i s).after := by
  unfold answerClose
  split
  · exact (setStream_unspent ..).trans (closeIfDrained_unspent ..)
  · exact Unspent.refl s
  · exact refuse_unspent ..

theorem enableSteps_unspent (p : PortIx) (s : State) : Unspent s (enableSteps p s) := by
  refine Unspent.ite (fun _ => Unspent.refl s) fun _ => ?_
  have hport : Unspent s (s.setPort p
      { s.port p with
        enabled := true, state := if s.lvc.level.portsLive ∧ (s.port p).state = .off then .idle else (s.port p).state }) := by
    refine setPort_unspent (Prod.ext rfl ?_)
    dsimp only [Port.reserveView]
    split
    · rename_i hidle
      simp [hidle.2]
    · rfl
  exact hport.trans (setTrq_unspent _ _)

/-! ### The levels (R192-R196) -/

theorem arrive_unspent (x : Level) (s : State) : Unspent s (arrive x s) := .of_blocks (by simp [arrive]) (by simp [arrive])

theorem endEmptying_unspent (s : State) : Unspent s (endEmptying s) := by
  obtain ⟨-, -, hcpr, -, hcbm, -⟩ := endEmptying_rest s
  exact .of_blocks hcbm hcpr

theorem answerSetLevel_unspent (r : Request) (s : State) : Unspent s (answerSetLevel r s).after := by
  refine Unspent.check fun _ => ?_
  split
  · exact refuse_unspent ..
  · refine Unspent.ite (fun _ => setFactor_unspent ..) fun _ => ?_
    unfold beginTransition
    split
    case h_1 => exact .of_blocks rfl rfl
    case h_2 => exact Unspent.ite (fun _ => arrive_unspent ..) (fun _ => .of_blocks rfl rfl)
    case h_3 => exact ((setLvc_unspent s _).trans (dropTriggers_unspent ..)).trans (setLvc_unspent _ _)
    all_goals exact Unspent.refl s

theorem settlePort_unspent (p : PortIx) (s : State) : Unspent s (settlePort p s) :=
  Unspent.ite (fun hoff => setPortState_unspent (by rw [hoff.2]; nofun) nofun) (fun _ => Unspent.refl s)

theorem forPorts_law (order : List PortIx) (f : PortIx → State → State) (h : ∀ p s, ReservedLaw s → ReservedLaw (f p s)) {s : State}
    (hs : ReservedLaw s) : ReservedLaw (forPorts order f s) := by
  unfold forPorts
  induction portOrder order generalizing s with
  | nil => exact hs
  | cons p rest ih => exact ih (h p s hs)

theorem forcePort_law (p : PortIx) (s : State) (hs : ReservedLaw s) : ReservedLaw (forcePort p s) := by
  refine (removeAll_unspent ..).law ?_
  split
  · exact abortFrame_law hs nofun
  · exact hs

theorem powerOffPort_law (p : PortIx) (s : State) (hs : ReservedLaw s) : ReservedLaw (powerOffPort p s) := by
  unfold powerOffPort
  dsimp only
  split
  · exact abortFrame_law hs nofun
  · rename_i hout
    exact (setPortState_unspent (x := .off) hout nofun).law hs

theorem disableSteps_law (p : PortIx) {s : State} (hs : ReservedLaw s) : ReservedLaw (disableSteps p s) := by
  unfold disableSteps
  split
  · -- the port's frame, if it has one, ends before the port goes OFF
    have hoff := powerOffPort_law p s hs
    unfold powerOffPort at hoff
    dsimp only at hoff ⊢
    generalize (if (s.port p).state = .inFrame then abortFrame p s else s) = t at hoff ⊢
    have hdisable : Unspent (t.setPortState p .off) (t.setPort p { t.port p with enabled := false, state := .off }) := by
      have hport := setPort_unspent (s := t.setPortState p .off) (p := p) (x := { t.port p with enabled := false, state := .off })
        (by simp [State.setPortState_port, Port.reserveView])
      rwa [State.setPortState, State.setPort_setPort] at hport
    exact ((hdisable.trans (setTrq_unspent _ _)).trans (removeAll_unspent ..)).law hoff
  · exact hs

/-! ### The resets (R112, R164, R191) -/

/-- The soft reset: every port OFF without a frame, and nothing reserved. -/
theorem softResetAll_law (s : State) : ReservedLaw (softResetAll s) := by
  rw [softResetAll_eq]
  refine (setFactor_unspent ..).law ((reservedLaw_iff _).2 ⟨fun p => ?_, ?_, Nat.zero_le _⟩)
  · simp [softResetBlocks_port, softPort]
  · simp [State.remainingOf, softResetBlocks_port, softPort]
    rfl

/-- Power-on: the DRAM and the waiting commands are no part of the law. -/
theorem powerOn_law (s : State) :
    ReservedLaw { State.reset with cbm := { Cbm.reset with mem := s.cbm.mem }, pending := s.pending } :=
  Unspent.law (s := .reset) (.of_counts rfl rfl (Nat.le_refl _)) reservedLaw_reset

/-! ### Every command -/

/-- A management row (R149). -/
theorem takeRow_law (isReset : Bool) (accepts : Request → Bool) (owner : Request → State → Answer)
    (h : ∀ r s, ReservedLaw s → ReservedLaw (owner r s).after) {s : State} (hs : ReservedLaw s) :
    ReservedLaw (takeRow isReset accepts owner s) := by
  have hmge {u : State} (x : Mge) (hu : ReservedLaw u) : ReservedLaw { u with mge := x } := Unspent.law (.of_blocks rfl rfl) hu
  unfold takeRow
  split
  · exact hs
  · split
    · exact hmge _ (h _ _ (hmge _ hs))
    · exact hs

/-- A row whose owner leaves every reservation. -/
theorem takeRow_law_of_unspent (isReset : Bool) (accepts : Request → Bool) (owner : Request → State → Answer)
    (h : ∀ r s, Unspent s (owner r s).after) {s : State} (hs : ReservedLaw s) : ReservedLaw (takeRow isReset accepts owner s) :=
  takeRow_law isReset accepts owner (fun r u => (h r u).law) hs

theorem streamCmd_law (cbm : StreamIx → State → Answer) (h : ∀ i s, ReservedLaw s → ReservedLaw (cbm i s).after) (r : Request) (s : State)
    (hs : ReservedLaw s) : ReservedLaw (streamCmd cbm r s).after := by
  unfold streamCmd
  split
  · split
    · exact hs
    · exact h _ s hs
  · exact hs

theorem portCmd_law (cpr : PortIx → State → State) (h : ∀ p s, ReservedLaw s → ReservedLaw (cpr p s)) (r : Request) (s : State)
    (hs : ReservedLaw s) : ReservedLaw (portCmd cpr r s).after := by
  unfold portCmd
  split
  · split
    · exact hs
    · exact h _ s hs
  · exact hs

theorem answerFlush_law (i : StreamIx) (s : State) (hs : ReservedLaw s) : ReservedLaw (answerFlush i s).after := by
  unfold answerFlush
  split
  · exact hs
  · exact flushSteps_law i hs

theorem frameStart_law {p : PortIx} {parity : Bool} {value : BitVec 16} {s t : State} (hs : ReservedLaw s)
    (h : execFrameStart p parity value s = .next t) : ReservedLaw t := by
  cases h
  have herror := (framingError_unspent p s).law hs
  split
  · exact hs
  · split
    · exact (parityError_unspent p s).law hs
    · split
      · rw [← beginFrame_setPortState p value .idle]
        exact beginFrame_law value (abortFrame_law herror nofun) (by simp [State.setPortState_port])
      · rename_i hstate
        exact beginFrame_law value herror (by simp [framingError, hstate])
      · rename_i hstate
        exact beginFrame_law value hs (by rw [hstate]; nofun)
      · exact absurd ‹_› ‹_›

theorem lineStart_law {p : PortIx} {parity : Bool} {value : BitVec 16} {s t : State} (hs : ReservedLaw s)
    (h : execLineStart p parity value s = .next t) : ReservedLaw t := by
  cases h
  split
  · exact hs
  · split
    · exact (parityError_unspent p s).law hs
    · split
      · exact (framingError_unspent p s).law hs
      · exact (setFrame_unspent (by rw [Option.map_map]; rfl)).law hs
      · exact hs
      · exact hs

theorem data_law {p : PortIx} {parity : Bool} {value : BitVec 16} {s t : State} (hs : ReservedLaw s)
    (h : execData p parity value s = .next t) : ReservedLaw t := by
  cases h
  have hparity : ReservedLaw (if parityGood parity 3 value then s else parityError p s) :=
    (Unspent.ite (fun _ => Unspent.refl s) (fun _ => parityError_unspent p s)).law hs
  split
  · exact hs
  · dsimp only
    split
    · exact (framingError_unspent p _).law hparity
    · split
      · rename_i f hframe
        exact takeData_law p _ value hparity (.of_frame hframe rfl)
      · exact hparity
    · exact hparity
    · exact hparity

theorem frameEnd_law {p : PortIx} {parity : Bool} {value : BitVec 16} {s t : State} (hs : ReservedLaw s)
    (h : execFrameEnd p parity value s = .next t) : ReservedLaw t := by
  cases h
  split
  · exact hs
  · split
    · exact (parityError_unspent p s).law hs
    · split
      · exact (framingError_unspent p s).law hs
      · rename_i hstate
        split
        · rename_i f hframe
          exact closeFrame_law p value hs (.of_frame hframe rfl)
        · rename_i hnone
          simp [← hs.1 p, hnone] at hstate
      · rename_i hstate
        exact (setPortState_unspent (x := .idle) (by rw [hstate]; nofun) nofun).law hs
      · exact hs

/-- Each command keeps the law. -/
theorem exec_reservedLaw (i : Instr) {s t : State} (hs : ReservedLaw s) (h : exec i s = .next t) : ReservedLaw t := by
  have hnext {u v : State} (hu : ReservedLaw u) (hn : (Host.Outcome.next u : Host.Outcome State Fault Refusal) = .next v) :
      ReservedLaw v := by
    cases hn
    exact hu
  have hunspent {u v : State} (hu : Unspent s u) (hn : (Host.Outcome.next u : Host.Outcome State Fault Refusal) = .next v) :
      ReservedLaw v := hnext (hu.law hs) hn
  have hgood (c : Prop) [Decidable c] (act : State → State) (hact : ∀ u, Unspent u (act u)) :
      Unspent s (if c then takeGoodCell act s else s) :=
    Unspent.ite (fun _ => takeGoodCell_unspent act hact s) (fun _ => Unspent.refl s)
  cases i with
  | powerOn => exact hnext (powerOn_law s) h
  | beltTick step dir => exact hunspent ((beltWork_unspent step dir s).trans (deliverF_unspent ..)) h
  | stall => exact hunspent (Unspent.ite (fun _ => (countInterval_beltStep s).unspent) (fun _ => Unspent.refl s)) h
  | triggerTick lines =>
    exact hunspent ((foldl_unspent _ (fun _ _ => sampleSensor_unspent ..) _ s).trans
      (foldl_unspent _ (fun u _ => setTrq_unspent u _) _ _)) h
  | pulseEnd p => exact hunspent (Unspent.ite (fun _ => setTrq_unspent s _) (fun _ => Unspent.refl s)) h
  | rearmGapEnd p => exact hunspent (Unspent.ite (fun _ => setTrq_unspent s _) (fun _ => Unspent.refl s)) h
  | idleWord p parity value =>
    exact hunspent (Unspent.ite (fun _ => Unspent.refl s) fun _ =>
      Unspent.ite (fun _ => Unspent.refl s) (fun _ => parityError_unspent p s)) h
  | frameStart p parity value => exact frameStart_law hs h
  | lineStart p parity value => exact lineStart_law hs h
  | data p parity value => exact data_law hs h
  | frameEnd p parity value => exact frameEnd_law hs h
  | undefinedKindWord p kind parity value =>
    exact hunspent (Unspent.ite (fun _ => Unspent.refl s) fun _ =>
      Unspent.ite (fun _ => framingError_unspent p s) (fun _ => parityError_unspent p s)) h
  | exposureExpiry p =>
    change execExposureExpiry p s = .next t at h
    unfold execExposureExpiry at h
    split at h
    · exact hnext hs h
    · exact hunspent (((setExposures_unspent p _ s).trans (closeExposure_unspent ..)).trans (setFactor_unspent ..)) h
  | cellSlot => exact hunspent (Unspent.ite (fun _ => takeSlot_unspent s) (fun _ => Unspent.refl s)) h
  | calendarSwap => exact hunspent (Unspent.ite (fun _ => takeSlot_unspent s) (fun _ => Unspent.refl s)) h
  | transmissionEnd => exact (transmissionEnd_unspent h).law hs
  | holdExpiry => exact hunspent (takeDueExpiry_unspent s) h
  | delimiterFound light => exact hunspent (Unspent.ite (fun _ => setFlk_unspent s _) (fun _ => Unspent.refl s)) h
  | lossOfLight =>
    refine hnext ?_ h
    split
    · exact (leaveSync_unspent s).law hs
    · exact (setFlk_unspent s _).law hs
    · exact hs
  | badCell cell => exact hunspent (Unspent.ite (fun _ => takeBadCell_unspent s) (fun _ => Unspent.refl s)) h
  | idleCell cell => exact hunspent (hgood _ _ Unspent.refl) h
  | hold cell => exact hunspent (hgood _ _ fun u => .of_blocks (by simp [takeHold]) (by simp [takeHold])) h
  | resume cell => exact hunspent (hgood _ _ fun u => Unspent.ite (fun _ => setFlk_unspent u _) (fun _ => Unspent.refl u)) h
  | mgmtReq cell => exact hunspent (hgood _ _ (takeRequest_unspent _)) h
  | badOp => exact hnext (takeRow_law_of_unspent _ _ _ (fun _ u => refuse_unspent .badOp u) hs) h
  | read => exact hnext (takeRow_law_of_unspent _ _ _ answerRead_unspent hs) h
  | write => exact hnext (takeRow_law_of_unspent _ _ _ answerWritePlain_unspent hs) h
  | writeBelt => exact hnext (takeRow_law_of_unspent _ _ _ answerWriteBelt_unspent hs) h
  | writeTrigger => exact hnext (takeRow_law_of_unspent _ _ _ answerWriteTrigger_unspent hs) h
  | writeSensor => exact hnext (takeRow_law_of_unspent _ _ _ answerWriteSensor_unspent hs) h
  | writePort => exact hnext (takeRow_law_of_unspent _ _ _ answerWritePort_unspent hs) h
  | writeRelay => exact hnext (takeRow_law_of_unspent _ _ _ answerWriteRelay_unspent hs) h
  | writeEvent => exact hnext (takeRow_law_of_unspent _ _ _ answerWriteEvent_unspent hs) h
  | writeCal => exact hnext (takeRow_law_of_unspent _ _ _ answerWriteCal_unspent hs) h
  | readCounters => exact hnext (takeRow_law_of_unspent _ _ _ answerReadCounters_unspent hs) h
  | clearEvents => exact hnext (takeRow_law_of_unspent _ _ _ answerClearEvents_unspent hs) h
  | openStream => exact hnext (takeRow_law _ _ _ (streamCmd_law _ fun i u => (answerOpen_unspent i u).law) hs) h
  | closeStream => exact hnext (takeRow_law _ _ _ (streamCmd_law _ fun i u => (answerClose_unspent i u).law) hs) h
  | flushStream => exact hnext (takeRow_law _ _ _ (streamCmd_law _ answerFlush_law) hs) h
  | enablePort => exact hnext (takeRow_law _ _ _ (portCmd_law _ fun p u => (enableSteps_unspent p u).law) hs) h
  | disablePort => exact hnext (takeRow_law _ _ _ (portCmd_law _ fun p _ => disableSteps_law p) hs) h
  | calSwap => exact hnext (takeRow_law_of_unspent _ _ _ answerCalSwap_unspent hs) h
  | setLevel => exact hnext (takeRow_law_of_unspent _ _ _ answerSetLevel_unspent hs) h
  | beltPreset => exact hnext (takeRow_law_of_unspent _ _ _ answerBeltPreset_unspent hs) h
  | relay => exact hnext (takeRow_law_of_unspent _ _ _ answerRelay_unspent hs) h
  | status => exact hnext (takeRow_law_of_unspent _ _ _ (fun _ u => Unspent.refl u) hs) h
  | softReset => exact hnext (takeRow_law_of_unspent _ _ _ (fun _ u => setMge_unspent u _) hs) h
  | softResetCarriedOut =>
    refine hnext ?_ h
    split
    · exact softResetAll_law s
    · exact hs
  | relayEngineTake =>
    change execRelayEngineTake s = .next t at h
    unfold execRelayEngineTake at h
    split at h
    · exact hunspent (setCcr_unspent s _) h
    · exact hnext hs h
  | relayTick clk dat =>
    change execRelayTick clk dat s = .next t at h
    unfold execRelayTick at h
    split at h
    · exact hnext hs h
    · exact hunspent (txnTick_unspent ..) h
  | deferTimeout =>
    change execDeferTimeout s = .next t at h
    unfold execDeferTimeout at h
    split at h
    · exact hnext hs h
    · exact hunspent (Unspent.ite (fun _ => setCcr_unspent s _) (fun _ => Unspent.refl s)) h
  | stallTimeout =>
    change execStallTimeout s = .next t at h
    unfold execStallTimeout at h
    split at h
    · exact hnext hs h
    · split at h
      · exact hnext hs h
      · exact hunspent (Unspent.ite (fun _ => setCcr_unspent s _) (fun _ => Unspent.refl s)) h
  | relayResult =>
    change execRelayResult s = .next t at h
    unfold execRelayResult at h
    split at h
    · exact hnext hs h
    · exact hunspent (Unspent.ite (fun _ => (setMge_unspent s _).trans (setCcr_unspent _ _)) (fun _ => Unspent.refl s)) h
  | settleExpiry =>
    exact hunspent (Unspent.ite (fun _ => ((setLvc_unspent s _).trans (foldl_unspent _ (fun u p => settlePort_unspent p u) _ _)).trans
      (setFactor_unspent ..)) (fun _ => Unspent.refl s)) h
  | drainComplete => exact hunspent (Unspent.ite (fun _ => endEmptying_unspent s) (fun _ => Unspent.refl s)) h
  | drainExpiry order =>
    refine hnext ?_ h
    split
    · exact ((setFactor_unspent ..).trans (endEmptying_unspent _)).law (forPorts_law order forcePort forcePort_law hs)
    · exact hs
  | shuttingEnd order =>
    refine hnext ?_ h
    split
    · obtain ⟨hcpr, -, hcbm, -⟩ := endShutting_rest (camerasOff order s)
      have hoff := forPorts_law order powerOffPort powerOffPort_law ((setLvc_unspent s { s.lvc with power := false }).law hs)
      exact Unspent.law (s := camerasOff order s) (.of_blocks hcbm hcpr) hoff
    · exact hs
  | referenceClockPeriod => exact hunspent (setBpt_unspent s _) h

/-- Settles O54: most steps leave every reservation and take free cells beyond the reserved total alone; a frame's start, its words and its end
move its own reservation and the total together. -/
theorem reservedWithinFree : Obligations.ReservedWithinFree := by
  intro s t hlaw hstep
  unfold step at hstep
  split at hstep
  · cases hstep
    exact hlaw
  · rename_i c rest _
    exact exec_reservedLaw c (s := { s with pending := rest }) (Unspent.law (.of_blocks rfl rfl) hlaw) hstep

end Sys2Proof.Machine
end

section
/-! PROOFS. What a slot carries (O27), and the end of a transmission and of a hold (O30). -/

namespace Sys2Proof.Machine

/-! ### The start of a slot (R116, R141) -/

theorem exec_cellSlot {s : State} (h : s.flk.tx = none) : exec .cellSlot s = .next (advanceSlot (sendChoice (chooseCell s) s)) := by
  change Host.Outcome.next (if s.flk.tx.isNone then takeSlot s else s) = _
  rw [h]
  rfl

/-- The slot pointer one slot on. -/
def State.nextSlot (s : State) : State := { s with scd := { s.scd with slotPtr := s.scd.slotPtr + 1 } }

theorem advanceSlot_of_no_swap {s : State} (h : ¬ (s.scd.slotPtr = 255 ∧ s.scd.swapPending = true)) : advanceSlot s = s.nextSlot := if_neg h

theorem advanceSlot_cbm (s : State) : (advanceSlot s).cbm = s.cbm := by
  unfold advanceSlot
  dsimp only
  split
  · rw [exchangeCalendars, setFactor_cbm]
  · rfl

theorem advanceSlot_flk (s : State) : (advanceSlot s).flk = s.flk := by
  unfold advanceSlot
  dsimp only
  split
  · rw [exchangeCalendars, setFactor_flk]
  · rfl

/-! ### The choice (R137) -/

theorem chooseCell_out_of_sync {s : State} (h : s.flk.rx ≠ .sync) : chooseCell s = .idle := if_pos h

theorem chooseCell_mgmt {s : State} (hsync : s.flk.rx = .sync) (hslot : s.scd.active[s.scd.slotPtr] = .mgmt) (hout : s.mge.output ≠ []) :
    chooseCell s = .mgmt := by
  rw [chooseCell, if_neg (not_not.2 hsync), hslot]
  exact if_pos hout

theorem chooseCell_owner {s : State} {i : StreamIx} (hsync : s.flk.rx = .sync) (hslot : s.scd.active[s.scd.slotPtr] = .stream i)
    (hstate : (s.stream i).state ≠ .closed) (hqueue : (s.stream i).queue ≠ []) (hheld : s.flk.held = false) :
    chooseCell s = .stream i false := by
  have hcell : s.hasCell i = true := by simp [State.hasCell, hstate, hqueue]
  rw [chooseCell, if_neg (not_not.2 hsync), hslot]
  simp [hcell, hheld]

/-- While HELD, a spare slot carries no stream's cell (R138). -/
theorem chooseSpare_held {s : State} (h : s.flk.held = true) : chooseSpare s = .idle ∨ chooseSpare s = .mgmt := by
  unfold chooseSpare
  split
  · exact .inr rfl
  · exact .inl rfl

/-- While HELD or out of SYNC, no slot carries a stream's cell (R137). -/
theorem chooseCell_held {s : State} (h : s.flk.held = true ∨ s.flk.rx ≠ .sync) : chooseCell s = .idle ∨ chooseCell s = .mgmt := by
  by_cases hsync : s.flk.rx = .sync
  · have hheld : s.flk.held = true := h.resolve_right (not_not.2 hsync)
    rw [chooseCell, if_neg (not_not.2 hsync)]
    split
    · split
      · exact .inr rfl
      · exact chooseSpare_held hheld
    · rw [hheld, Bool.not_true, Bool.and_false]
      exact chooseSpare_held hheld
    · exact chooseSpare_held hheld
  · exact .inl (chooseCell_out_of_sync hsync)

/-! ### The cells sent (R102, R116, R139) -/

theorem sendMgmt_cons {s : State} {c : OutCell} {rest : List OutCell} (h : s.mge.output = c :: rest) :
    sendMgmt s = (s.setOutput rest).transmit c.sent.owner c.sent.bytes := by
  rw [sendMgmt, h]
  cases c <;> rfl

/-- An IDLE cell, or a cell of the output queue, is no buffer cell and leaves CBM as it is. -/
theorem sendMgmt_sends (s : State) : ∃ c, (sendMgmt s).flk.tx = some c ∧ c.owner.cell = [] ∧ (sendMgmt s).cbm = s.cbm := by
  cases hout : s.mge.output with
  | nil =>
    have hidle : sendMgmt s = sendIdle s := by rw [sendMgmt, hout]
    rw [hidle]
    exact ⟨_, rfl, rfl, rfl⟩
  | cons c rest =>
    rw [sendMgmt_cons hout]
    refine ⟨_, rfl, ?_, rfl⟩
    cases c <;> rfl

/-- The head cell of stream `i`, as the link carries it (R102, R113). -/
def QCell.sent (i : StreamIx) (seq : BitVec 16) (mem : List Host.Cell) (c : QCell) : TxCell :=
  { owner := .stream c.index
    bytes := formCell c.kind.code (BitVec.ofNat 8 i.val) seq c.len c.frameNo ((readPayload mem c.index).take c.len) }

theorem sendStream_does {i : StreamIx} {s : State} {c : QCell} {rest : List QCell} (h : (s.stream i).queue = c :: rest) :
    Does (wrapsAt (s.stream i).cellsSent .cbmWrap ++
      if (s.stream i).state = .draining ∧ rest = [] ∧ (s.stream i).inProgress = false then [.cbmStreamClosed] else []) s
      ((s.setStream i ((s.stream i).sent c rest)).transmit (.stream c.index) (c.sent i (s.stream i).seq s.cbm.mem).bytes)
      (sendStream i s) := by
  obtain ⟨t, hselect, hdone⟩ := selectCell_does h
  rw [sendStream, hselect]
  exact hdone.done fun x => x.transmit (.stream c.index) (c.sent i (s.stream i).seq s.cbm.mem).bytes

theorem sendStream_flk (i : StreamIx) (s : State) : (sendStream i s).flk = { s.flk with tx := (sendStream i s).flk.tx } := by
  cases hqueue : (s.stream i).queue with
  | nil =>
    have hidle : sendStream i s = sendIdle s := by
      have hnone : selectCell i s = none := by simp [selectCell, hqueue]
      rw [sendStream, hnone]
    rw [hidle]
    rfl
  | cons c rest =>
    have hflk : (sendStream i s).flk = { s.flk with tx := some (c.sent i (s.stream i).seq s.cbm.mem) } :=
      congrArg State.flk (sendStream_does hqueue).rest
    rw [hflk]

/-- Whatever a slot carries, its start changes nothing else of FLK. -/
theorem sendChoice_flk (x : Choice) (s : State) : (sendChoice x s).flk = { s.flk with tx := (sendChoice x s).flk.tx } := by
  unfold sendChoice
  split
  · rfl
  · unfold sendMgmt
    split <;> rfl
  · exact sendStream_flk ..
  · exact sendStream_flk ..

/-- Settles O27: by the three cases of the choice, each without a swap at the wrap; and the choice while HELD or out of SYNC. -/
theorem cellSlotCarries : Obligations.CellSlotCarries := by
  refine ⟨fun s htx hswap => ⟨fun hsync => ?_, fun c rest hsync hslot hout => ?_, fun i c rest hsync hslot hstate hqueue hheld => ?_⟩,
    fun s htx hheld => ?_⟩
  · rw [exec_cellSlot htx, chooseCell_out_of_sync hsync]
    exact congrArg Host.Outcome.next (advanceSlot_of_no_swap (s := sendIdle s) hswap)
  · rw [exec_cellSlot htx, chooseCell_mgmt hsync hslot (by rw [hout]; nofun), sendChoice, sendMgmt_cons hout]
    exact congrArg Host.Outcome.next (advanceSlot_of_no_swap (s := (s.setOutput rest).transmit c.sent.owner c.sent.bytes) hswap)
  · rw [exec_cellSlot htx, chooseCell_owner hsync hslot hstate (by rw [hqueue]; nofun) hheld, sendChoice]
    have hsent := sendStream_does hqueue
    have hscd := congrArg State.scd hsent.rest
    rw [advanceSlot_of_no_swap (by rw [show (sendStream i s).scd = s.scd from hscd]; exact hswap)]
    obtain ⟨hraised, hrest⟩ := hsent.done State.nextSlot
    refine ⟨_, rfl, hraised, hrest.trans ?_⟩
    rw [Stream.sent_eq]
    rfl
  · rw [exec_cellSlot htx]
    have hsends : ∃ c, (sendChoice (chooseCell s) s).flk.tx = some c ∧ c.owner.cell = [] ∧ (sendChoice (chooseCell s) s).cbm = s.cbm := by
      obtain hidle | hmgmt := chooseCell_held hheld
      · rw [hidle]
        exact ⟨_, rfl, rfl, rfl⟩
      · rw [hmgmt]
        exact sendMgmt_sends s
    obtain ⟨c, htx', hcell, hcbm⟩ := hsends
    exact ⟨_, c, rfl, by rw [advanceSlot_flk, htx'], hcell, by rw [advanceSlot_cbm, hcbm]⟩

/-! ### The end of a transmission (R89, R116, R164, R188) -/

theorem reportSent_eq (owner : TxOwner) (s : State) :
    reportSent owner s = { s with
      cbm := { s.cbm with free := (reportSent owner s).cbm.free }
      mge := { s.mge with resetDue := s.mge.resetDue || (decide (owner = .response true) && s.mge.resetPending) }
      evu := if owner = .event true then { s.evu with reported := Vector.ofFn s.evu.isActive, eventPending := false } else s.evu } := by
  cases owner with
  | idle => simp [reportSent]
  | stream index => simp [reportSent, returnCell, State.setFree]
  | response isReset =>
    have hset (b : Bool) (hb : (s.mge.resetDue || (decide (TxOwner.response isReset = .response true) && s.mge.resetPending)) = b) :
        { s with mge := { s.mge with resetDue := b } } = { s with mge := { s.mge with
          resetDue := s.mge.resetDue || (decide (TxOwner.response isReset = .response true) && s.mge.resetPending) } } := by rw [hb]
    by_cases hdue : (isReset && s.mge.resetPending) = true
    · rw [reportSent, if_pos hdue]
      exact hset true (by simp_all)
    · rw [reportSent, if_neg hdue]
      exact hset s.mge.resetDue (by cases isReset <;> simp_all)
  | event live => cases live <;> simp [reportSent, eventSent]

theorem reportSent_free (owner : TxOwner) (s : State) : freeCells (reportSent owner s).cbm.free = freeCells s.cbm.free ++ owner.cell := by
  cases owner with
  | stream index => exact freeCells_pushTail ..
  | idle => exact (List.append_nil _).symm
  | response isReset =>
    rw [reportSent]
    split <;> exact (List.append_nil _).symm
  | event live =>
    rw [reportSent]
    split <;> exact (List.append_nil _).symm

/-! ### The hold timer (R130) -/

theorem tickHold_eq {s : State} (h : s.flk.expiryDue = false) :
    tickHold s = { s with
      flk := { s.flk with timer := if s.flk.timer = 1 then 1 else s.flk.timer - 1, expiryDue := decide (s.flk.timer = 1) } } := by
  have hset {n : Nat} {b : Bool} (hn : (if s.flk.timer = 1 then 1 else s.flk.timer - 1) = n) (hb : decide (s.flk.timer = 1) = b) :
      { s with flk := { s.flk with timer := n, expiryDue := b } } = { s with
        flk := { s.flk with timer := if s.flk.timer = 1 then 1 else s.flk.timer - 1, expiryDue := decide (s.flk.timer = 1) } } := by
    rw [hn, hb]
  have hother (hone : s.flk.timer ≠ 1) : decide (s.flk.timer = 1) = s.flk.expiryDue := by rw [h, decide_eq_false hone]
  by_cases hzero : s.flk.timer = 0
  · have hone : s.flk.timer ≠ 1 := by omega
    exact (if_pos hzero).trans (hset (n := s.flk.timer) (by rw [if_neg hone, hzero]) (hother hone))
  · by_cases hone : s.flk.timer = 1
    · exact (if_neg hzero).trans ((if_pos hone).trans (hset (n := s.flk.timer) (by rw [if_pos hone, hone]) (decide_eq_true hone)))
    · exact (if_neg hzero).trans ((if_neg hone).trans (hset (if_neg hone) (hother hone)))

theorem takeDueExpiry_due {s : State} (h : s.flk.expiryDue = true) : takeDueExpiry s = expireHold s := if_pos h

theorem takeDueExpiry_not_due {s : State} (h : s.flk.expiryDue = false) : takeDueExpiry s = s := if_neg (by rw [h]; nofun)

theorem exec_transmissionEnd {s : State} {c : TxCell} (h : s.flk.tx = some c) :
    exec .transmissionEnd s =
      .next (tickHold (reportSent c.owner { takeDueExpiry s with flk := { (takeDueExpiry s).flk with tx := none } })) := by
  change execTransmissionEnd s = _
  rw [execTransmissionEnd, h]

/-- Settles O30: the cell's owner is told, the hold timer counts, and an expiry that is due is taken before either. -/
theorem transmissionEnds : Obligations.TransmissionEnds := by
  refine ⟨fun s c htx hdue => ?_, fun s hdue => ⟨?_, fun c htx => ?_, fun htx => ?_⟩, fun s hdue => ?_⟩
  · rw [exec_transmissionEnd htx, takeDueExpiry_not_due hdue]
    have hflk : (reportSent c.owner { s with flk := { s.flk with tx := none } }).flk = { s.flk with tx := none } := by
      rw [reportSent_eq]
    have htick := tickHold_eq (s := reportSent c.owner { s with flk := { s.flk with tx := none } }) (by rw [hflk]; exact hdue)
    have hreport := reportSent_eq c.owner { s with flk := { s.flk with tx := none } }
    have hfree := reportSent_free c.owner { s with flk := { s.flk with tx := none } }
    refine ⟨_, rfl, ?_, ?_⟩
    · rw [htick]
      exact hfree
    · rw [htick, hflk]
      exact congrArg (fun u : State => { u with flk := { s.flk with
        tx := none, timer := if s.flk.timer = 1 then 1 else s.flk.timer - 1, expiryDue := decide (s.flk.timer = 1) } }) hreport
  · obtain ⟨hraised, hrest⟩ := setFactor_from (s := s) (u := { s with flk := { s.flk with held := false, timer := 0, expiryDue := false } })
      .flkHoldExpired rfl rfl
    exact ⟨_, congrArg Host.Outcome.next (takeDueExpiry_due hdue), hraised, hrest⟩
  · have hexpired : (expireHold s).flk = { s.flk with held := false, timer := 0, expiryDue := false } := setFactor_flk ..
    refine ⟨expireHold s, _, congrArg Host.Outcome.next (takeDueExpiry_due hdue),
      exec_transmissionEnd (c := c) (by rw [hexpired]; exact htx), ?_⟩
    rw [exec_transmissionEnd htx, takeDueExpiry_due hdue, takeDueExpiry_not_due (by rw [hexpired])]
  · refine ⟨_, exec_cellSlot htx, ?_⟩
    rw [advanceSlot_flk]
    exact sendChoice_flk ..
  · exact congrArg Host.Outcome.next (takeDueExpiry_not_due hdue)

end Sys2Proof.Machine
end

section
/-! PROOFS. A record queued or lost, and the accounting of a frame whose closing record is lost (O25). -/

namespace Sys2Proof.Machine

/-! ### The closing mark (R100) -/

/-- A queue without a data cell of frame number `f` takes no mark. -/
theorem markLastData_none {f : BitVec 8} {queue : List QCell} (h : ∀ x ∈ queue, ¬ (x.kind.isData = true ∧ x.frameNo = f)) :
    markLastData f queue = none := by
  induction queue with
  | nil => rfl
  | cons x rest ih =>
    obtain ⟨hx, hrest⟩ := List.forall_mem_cons.1 h
    rw [markLastData, ih hrest]
    exact if_neg (by simpa using hx)

/-- The mark goes to the last data cell of frame number `f`. -/
theorem markLastData_last {f : BitVec 8} {c : QCell} {after : List QCell} (before : List QCell) (hdata : c.kind.isData = true)
    (hframe : c.frameNo = f) (hlast : ∀ x ∈ after, ¬ (x.kind.isData = true ∧ x.frameNo = f)) :
    markLastData f (before ++ c :: after) = some (before ++ { c with closing := true } :: after) := by
  induction before with
  | nil =>
    rw [List.nil_append, markLastData, markLastData_none hlast]
    exact if_pos (by simp [hdata, hframe])
  | cons x rest ih => rw [List.cons_append, markLastData, ih, List.cons_append]

/-! ### A lost record with the closing mark (R99, R100) -/

/-- The stream that has lost a record, before the frame's accounting is closed. -/
theorem loseRecord_closing (i : StreamIx) (f : BitVec 8) (s : State) :
    ∃ t, loseRecord i f true s = closeLost i f t ∧ t.stream i = { s.stream i with recordsLost := (s.stream i).recordsLost + 1 } := by
  refine ⟨_, rfl, ?_⟩
  rw [setFactor_stream, countStream_stream_self]

theorem closeLost_marked {i : StreamIx} {f : BitVec 8} {s : State} {queue : List QCell} (h : markLastData f (s.stream i).queue = some queue) :
    (closeLost i f s).stream i = { s.stream i with queue := queue } := by
  rw [closeLost, h]
  exact State.setStream_stream_self ..

theorem closeLost_unmarked {i : StreamIx} {f : BitVec 8} {s : State} (h : markLastData f (s.stream i).queue = none) :
    (closeLost i f s).stream i = { s.stream i with
      framesHeld := (s.stream i).framesHeld - 1, openTx := (s.stream i).openTx && decide ((s.stream i).openTxNo ≠ f) } := by
  have hne : ((s.stream i).openTxNo != f) = decide ((s.stream i).openTxNo ≠ f) := by
    rw [bne, decide_not, beq_eq_decide]
  rw [closeLost, h, ← hne]
  exact State.setStream_stream_self ..

/-- Settles O25: by what becomes of any record, and by the two places at which the loss of a closing one is noted. -/
theorem recordQueuedOrLost : Obligations.RecordQueuedOrLost := by
  intro s i kind payload f closing
  refine ⟨handRecord_went .., fun k hk => handRecord_stream_ne i k kind payload f closing s hk, handRecord_reserved .., ?_⟩
  rintro rfl hlost
  obtain ⟨t, hclose, hstream⟩ := loseRecord_closing i f s
  rw [handRecord_lost kind payload f true hlost, hclose]
  have hqueue : (t.stream i).queue = (s.stream i).queue := by rw [hstream]
  refine ⟨fun before c after hsplit hdata hframe hlast => ?_, fun hnone => ?_⟩
  · rw [closeLost_marked (by rw [hqueue, hsplit]; exact markLastData_last before hdata hframe hlast), hstream]
  · rw [closeLost_unmarked (by rw [hqueue]; exact markLastData_none hnone), hstream]

end Sys2Proof.Machine
end

section
/-! PROOFS. OPEN and CLOSE of a stream, and the checks that they share with FLUSH (O42). -/

namespace Sys2Proof.Machine

/-! ### The command (R158) -/

/-- What CBM does at the action with code `a`. -/
def streamSteps (a : Nat) : StreamIx → State → Answer := if a = 0 then answerOpen else if a = 1 then answerClose else answerFlush

theorem isStreamCmd_of {a : Nat} {r : Request} (hop : reqOp r = 6) (ha : reqNat r 3 = a ∨ 3 ≤ reqNat r 3) : isStreamCmd a r = true := by
  simpa [isStreamCmd, opStreamCmd, hop, Nat.lt_iff_add_one_le] using ha

/-- What each of the three rows of STREAM_CMD does with a request that it accepts. -/
theorem exec_streamCmd {a : Nat} {c : Instr} (hc : (a, c) ∈ [(0, Instr.openStream), (1, .closeStream), (2, .flushStream)]) {s : State}
    {r : Request} {rest : List Request} (h : s.offers r rest) (hop : reqOp r = 6) (ha : reqNat r 3 = a ∨ 3 ≤ reqNat r 3) :
    exec c s = .next (placeResponse false r (streamCmd (streamSteps a) r (s.popped rest))) := by
  simp only [List.mem_cons, Prod.mk.injEq, List.not_mem_nil, or_false] at hc
  obtain ⟨rfl, rfl⟩ | ⟨rfl, rfl⟩ | ⟨rfl, rfl⟩ := hc
  · exact congrArg Host.Outcome.next (takeRow_offers h false (isStreamCmd_of hop ha) (streamCmd answerOpen))
  · exact congrArg Host.Outcome.next (takeRow_offers h false (isStreamCmd_of hop ha) (streamCmd answerClose))
  · exact congrArg Host.Outcome.next (takeRow_offers h false (isStreamCmd_of hop ha) (streamCmd answerFlush))

theorem streamCmd_at {r : Request} {i : StreamIx} (hi : reqNat r 2 = i.val) (ha : reqNat r 3 ≤ 2) (steps : StreamIx → State → Answer)
    (s : State) : streamCmd steps r s = steps i s := by
  have hlt : reqNat r 2 < 16 := hi ▸ i.isLt
  have hix : (⟨reqNat r 2, hlt⟩ : StreamIx) = i := Fin.ext hi
  rw [streamCmd, dif_pos hlt, if_neg (Nat.not_lt.2 ha), hix]

/-- A refusal on the state without the request. -/
theorem placeResponse_refuse_popped (r : Request) (x : Status) (s : State) (rest : List Request) (hx : x ≠ .ok) :
    placeResponse false r (refuse x (s.popped rest)) = s.answered rest (reply r x.code) := placeResponse_refuse r x _ hx

/-! ### CLOSE (R106) -/

theorem answerClose_closed {i : StreamIx} {s : State} (h : (s.stream i).state = .closed) : answerClose i s = refuse .state s := by
  rw [answerClose, h]

theorem answerClose_draining {i : StreamIx} {s : State} (h : (s.stream i).state = .draining) : answerClose i s = okay s := by
  rw [answerClose, h]

theorem answerClose_opened {i : StreamIx} {s : State} (h : (s.stream i).state = .opened) : answerClose i s = okay (closeSteps i s) := by
  rw [answerClose, h]

/-- CLOSE of a stream that is not empty. -/
theorem closeSteps_of_not_empty {i : StreamIx} {s : State} (h : ¬ ((s.stream i).queue = [] ∧ (s.stream i).inProgress = false)) :
    closeSteps i s = s.setStream i { s.stream i with state := .draining } := by
  refine closeIfDrained_of_not i _ ?_
  rw [State.setStream_stream_self]
  exact fun hdrained => h hdrained.2

/-- CLOSE of an empty stream: it is CLOSED at once. -/
theorem closeSteps_does_of_empty {i : StreamIx} {s : State} (hqueue : (s.stream i).queue = []) (hprogress : (s.stream i).inProgress = false) :
    Does [.cbmStreamClosed] s (s.setStream i { s.stream i with state := .closed }) (closeSteps i s) := by
  have hself := State.setStream_stream_self s i { s.stream i with state := .draining }
  rw [closeSteps, closeIfDrained_of i _ (by rw [hself]) (by rw [hself]; exact hqueue) (by rw [hself]; exact hprogress), hself,
    State.setStream_setStream]
  exact ((Does.refl s).done fun x => x.setStream i { x.stream i with state := .closed }).then (g := id) (setFactor_does _ _)

/-- Settles O42: the checks of the three rows, OPEN by the stream's state, CLOSE by its state and by what is left of it. -/
theorem streamsOpenAndClose : Obligations.StreamsOpenAndClose := by
  intro s r rest hoffer hop
  refine ⟨fun a c hc => ⟨fun hix ha => ?_, fun hix ha => ?_⟩, fun i hi => ⟨fun ha => ?_, fun ha => ?_⟩⟩
  · rw [exec_streamCmd hc hoffer hop ha, streamCmd, dif_neg (Nat.not_lt.2 hix), placeResponse_refuse_popped r .badIndex s rest nofun]
    rfl
  · rw [exec_streamCmd hc hoffer hop (.inr ha), streamCmd, dif_pos hix, if_pos (Nat.lt_of_succ_le ha),
      placeResponse_refuse_popped r .badValue s rest nofun]
    rfl
  · rw [exec_streamCmd (a := 0) (by simp) hoffer hop (.inl ha), streamCmd_at hi (by omega)]
    refine ⟨fun hopen => ?_, fun hclosed => ?_⟩
    · have hrefused : streamSteps 0 i (s.popped rest) = refuse .state (s.popped rest) := if_neg hopen
      rw [hrefused, placeResponse_refuse_popped r .state s rest nofun]
      rfl
    · have hopens : streamSteps 0 i (s.popped rest) = okay (openSteps i (s.popped rest)) := if_pos hclosed
      rw [hopens, placeResponse_okay]
      rfl
  · rw [exec_streamCmd (a := 1) (by simp) hoffer hop (.inl ha), streamCmd_at hi (by omega),
      show streamSteps 1 i (s.popped rest) = answerClose i (s.popped rest) from rfl]
    refine ⟨fun hclosed => ?_, fun hdraining => ?_, fun hopened hleft => ?_, fun hopened hempty => ?_⟩
    · rw [answerClose_closed (s := s.popped rest) hclosed, placeResponse_refuse_popped r .state s rest nofun]
      rfl
    · rw [answerClose_draining (s := s.popped rest) hdraining, placeResponse_okay]
      rfl
    · rw [answerClose_opened (s := s.popped rest) hopened, closeSteps_of_not_empty (s := s.popped rest) hleft, placeResponse_okay]
      rfl
    · obtain ⟨hqueue, hprogress⟩ := hempty
      obtain ⟨hraised, hrest⟩ := closeSteps_does_of_empty (s := s.popped rest) hqueue hprogress
      rw [answerClose_opened (s := s.popped rest) hopened, placeResponse_okay]
      exact ⟨closeSteps i (s.popped rest), rfl, hraised, hrest⟩

end Sys2Proof.Machine
end

section
/-! PROOFS. The cells that the part sends (O26). -/

namespace Sys2Proof.Machine

/-! ### The parts of a cell (R113, R114) -/

theorem padPayload_eq {payload : List Byte} (h : payload.length ≤ 56) :
    padPayload payload = payload ++ List.replicate (56 - payload.length) 0 := by
  rw [padPayload, List.take_append, List.take_of_length_le h, List.take_replicate, Nat.min_eq_left (Nat.sub_le ..)]
  rfl

/-- The two bytes of a 16-bit number. -/
theorem be_two (x : BitVec 16) : be 2 x.toNat = [x.extractLsb' 8 8, x.extractLsb' 0 8] := by
  simp [be, BitVec.extractLsb']

theorem toNat_of_bytes (x : BitVec 16) : x.toNat = 256 * (x.extractLsb' 8 8).toNat + (x.extractLsb' 0 8).toNat := by
  have hx := x.isLt
  simp only [BitVec.extractLsb'_toNat, Nat.shiftRight_eq_div_pow]
  omega

/-- The six bytes before the CRC. -/
def cellHeader (kind stream : Byte) (seq : BitVec 16) (len : Nat) (frameNo : Byte) : List Byte :=
  [kind, stream, seq.extractLsb' 8 8, seq.extractLsb' 0 8, BitVec.ofNat 8 len, frameNo]

theorem formCell_eq (kind stream : Byte) (seq : BitVec 16) (len : Nat) (frameNo : Byte) (payload : List Byte) :
    formCell kind stream seq len frameNo payload =
      let header := cellHeader kind stream seq len frameNo
      let crc := crc16 (header ++ padPayload payload)
      header ++ [crc.extractLsb' 8 8, crc.extractLsb' 0 8] ++ padPayload payload := by
  simp only [formCell, be_two, cellHeader, List.cons_append, List.nil_append]

/-- Settles O26: header, CRC and payload stand one after another. -/
theorem cellsAsSent : Obligations.CellsAsSent := by
  intro kind stream seq len frameNo payload hlen cell
  have hcell : cell = _ := formCell_eq kind stream seq len frameNo payload
  have htake : cell.take 6 = cellHeader kind stream seq len frameNo := by rw [hcell]; rfl
  have hdrop : cell.drop 8 = padPayload payload := by rw [hcell]; rfl
  refine ⟨by rw [hcell]; simp [cellHeader], ?_, htake, by rw [hdrop, padPayload_eq hlen]⟩
  rw [crcRight, htake, hdrop, List.take_of_length_le (padPayload_length payload).le, hcell]
  exact toNat_of_bytes _

end Sys2Proof.Machine
end

section
/-! PROOFS. The return lane: delimiters, bad cells, loss of light, and good cells by receiver state and kind (O31, O32). -/

namespace Sys2Proof.Machine

/-! ### Received cells (R113-R115, R125) -/

theorem crcPasses_iff (cell : List Byte) : crcPasses cell = true ↔ crcRight cell := by
  have hcarried : ofBe [byteAt cell 6, byteAt cell 7] = 256 * (byteAt cell 6).toNat + (byteAt cell 7).toNat := by
    simp [ofBe, Nat.mul_comm]
  rw [crcPasses, beq_iff_eq, hcarried]
  rfl

theorem kindReturns_iff (k : Byte) : kindReturns k = true ↔ k = 0 ∨ k = 9 ∨ k = 10 ∨ k = 11 := by
  simp [kindReturns, or_assoc]

theorem isBadCell_iff (cell : List Byte) : isBadCell cell = true ↔ BadCell cell := by
  simp only [isBadCell, isCell, cellBad, BadCell, Bool.and_eq_true, beq_iff_eq, Bool.or_eq_true, Bool.not_eq_true', ← Bool.not_eq_true,
    crcPasses_iff, kindReturns_iff, decide_eq_true_eq, not_or, cellKind, or_assoc]

theorem isGoodCell_of {k : Byte} {cell : List Byte} (hk : k = 0 ∨ k = 9 ∨ k = 10 ∨ k = 11) (h : GoodCell k cell) :
    isGoodCell cell k = true := by
  obtain ⟨hlen, hcrc, hkind, hpayload⟩ := h
  have hgood : cellBad cell = false := by
    simp only [cellBad, cellKind, hkind, (crcPasses_iff cell).2 hcrc, (kindReturns_iff k).2 hk, decide_eq_false (Nat.not_lt.2 hpayload)]
    rfl
  simp [isGoodCell, isCell, hlen, hgood, cellKind, hkind]

/-! ### What the counters of the link raise (R134) -/

theorem wrapFactor_does (old : BitVec 32) (f : Factor) (s : State) : Does (wrapsAt old f) s s (wrapFactor old f s) := by
  refine ⟨wrapFactor_raised old f s, ?_⟩
  unfold wrapFactor
  split
  · exact setFactor_withReports f s
  · rfl

theorem countFlk_does (old : BitVec 32) (upd : Flk → BitVec 32 → Flk) (s : State) :
    Does (wrapsAt old .flkWrap) s { s with flk := upd s.flk (old + 1) } (countFlk old upd s) :=
  ((Does.refl s).done fun x => { x with flk := upd s.flk (old + 1) }).then (g := id) (wrapFactor_does ..)

/-- A bad cell counted, with its factor (R125, R134). -/
theorem badCell_counted (s : State) :
    Does (.flkBadCell :: wrapsAt s.flk.badCells .flkWrap) s { s with flk := { s.flk with badCells := s.flk.badCells + 1 } }
      (setFactor .flkBadCell (countFlk s.flk.badCells (fun x n => { x with badCells := n }) s)) :=
  ((countFlk_does s.flk.badCells (fun x n => { x with badCells := n }) s).then (g := id) (setFactor_does ..)).perm fun f => by
    simp [or_comm]

/-! ### SYNC left (R128, R164) -/

/-- A pending soft reset made due (R164; the bit resetDue is log 7's). -/
theorem reset_made_due (u : State) :
    (if u.mge.resetPending then { u with mge := { u.mge with resetDue := true } } else u) =
      { u with mge := { u.mge with resetDue := u.mge.resetDue || u.mge.resetPending } } := by
  have hset {b : Bool} (hb : (u.mge.resetDue || u.mge.resetPending) = b) : { u with mge := { u.mge with resetDue := b } } =
      { u with mge := { u.mge with resetDue := u.mge.resetDue || u.mge.resetPending } } := by rw [hb]
  by_cases hpending : u.mge.resetPending = true
  · exact (if_pos hpending).trans (hset (by rw [hpending, Bool.or_true]))
  · exact (if_neg hpending).trans (hset (b := u.mge.resetDue) (by rw [Bool.eq_false_iff.2 hpending, Bool.or_false]))

/-- SYNC left after a step that has raised `fs` and made FLK `x`. -/
theorem leaveSync_after {fs : List Factor} {s t : State} {x : Flk} (h : Does fs s { s with flk := x } t) :
    ∃ u, leaveSync t = { u with mge := { u.mge with resetDue := s.mge.resetDue || s.mge.resetPending } } ∧
      Raised (fs ++ [.flkDown]) s u ∧ u.withReportsOf s = { s with flk := x.down } := by
  have hdown := (h.done fun y => { y with flk := y.flk.down }).then (g := id) (setFactor_does .flkDown _)
  refine ⟨_, ?_, hdown.raised, hdown.rest⟩
  rw [leaveSync_eq, ← hdown.raised.resetDue, ← hdown.raised.resetPending]
  exact reset_made_due _

/-! ### Bad cells (R125-R127) -/

theorem exec_badCell {cell : List Byte} (h : BadCell cell) (s : State) : exec (.badCell cell) s = .next (takeBadCell s) :=
  congrArg Host.Outcome.next (if_pos ((isBadCell_iff cell).2 h))

theorem takeBadCell_verify_does {s : State} (h : s.flk.rx = .verify) :
    Does (.flkBadCell :: wrapsAt s.flk.badCells .flkWrap) s
      { s with flk := { s.flk with rx := .search, goodRun := 0, badCells := s.flk.badCells + 1 } } (takeBadCell s) := by
  rw [takeBadCell, h]
  exact (badCell_counted s).done fun x => { x with flk := { x.flk with rx := .search, goodRun := 0 } }

theorem takeBadCell_sync {s : State} (h : s.flk.rx = .sync) :
    takeBadCell s =
      let t := setFactor .flkBadCell (countFlk s.flk.badCells (fun x n => { x with badCells := n }) s)
      if 4 ≤ s.flk.badRun + 1 then leaveSync t else { t with flk := { t.flk with badRun := t.flk.badRun + 1 } } := by
  rw [takeBadCell, h]
  simp only [setFactor_flk, countFlk_flk]
  rfl

theorem takeBadCell_sync_does {s : State} (h : s.flk.rx = .sync) (hrun : s.flk.badRun + 1 < 4) :
    Does (.flkBadCell :: wrapsAt s.flk.badCells .flkWrap) s
      { s with flk := { s.flk with badRun := s.flk.badRun + 1, badCells := s.flk.badCells + 1 } } (takeBadCell s) := by
  rw [takeBadCell_sync h]
  dsimp only
  rw [if_neg (Nat.not_le.2 hrun)]
  exact (badCell_counted s).done fun x => { x with flk := { x.flk with badRun := x.flk.badRun + 1 } }

theorem takeBadCell_fourth {s : State} (h : s.flk.rx = .sync) (hrun : 4 ≤ s.flk.badRun + 1) :
    takeBadCell s = leaveSync (setFactor .flkBadCell (countFlk s.flk.badCells (fun x n => { x with badCells := n }) s)) := by
  rw [takeBadCell_sync h]
  exact if_pos hrun

/-- Settles O31: the receiver at each event by its state; the loss of light and the fourth bad cell leave SYNC in one way. -/
theorem receiverChanges : Obligations.ReceiverChanges := by
  intro s leaves
  refine ⟨fun light => ?_, fun hsearch => ?_, fun hverify => ?_, fun hsync => ?_, ?_⟩
  · have hfound : (light && s.flk.rx == .search) = true ↔ light = true ∧ s.flk.rx = .search := by
      rw [Bool.and_eq_true, beq_iff_eq]
    exact congrArg Host.Outcome.next (if_congr hfound rfl rfl)
  · rw [exec, execLossOfLight, hsearch]
  · rw [exec, execLossOfLight, hverify]
  · simp only [leaves]
    rw [exec, execLossOfLight, hsync]
    obtain ⟨u, hleave, hraised, hrest⟩ := leaveSync_after (x := s.flk) (Does.refl s)
    exact ⟨u, congrArg Host.Outcome.next hleave, hraised, hrest⟩
  · intro cell hbad fs
    refine ⟨fun hsearch => ?_, fun hverify => ?_, fun hsync hrun => ?_, fun hsync hrun => ?_⟩
    · rw [exec_badCell hbad, takeBadCell, hsearch]
    · have hdoes := takeBadCell_verify_does hverify
      exact ⟨_, exec_badCell hbad s, hdoes.raised, hdoes.rest⟩
    · have hdoes := takeBadCell_sync_does hsync hrun
      exact ⟨_, exec_badCell hbad s, hdoes.raised, hdoes.rest⟩
    · simp only [leaves]
      rw [exec_badCell hbad, takeBadCell_fourth hsync hrun]
      obtain ⟨u, hleave, hraised, hrest⟩ := leaveSync_after (badCell_counted s)
      exact ⟨u, congrArg Host.Outcome.next hleave, hraised, hrest⟩

/-! ### Good cells (R124, R126, R127) -/

/-- What a good cell of kind `k` does in SYNC (R117, R127, R129, R148). -/
def cellAct (k : Byte) (cell : List Byte) : State → State :=
  if k = 9 then takeRequest (cellPayload cell) else if k = 10 then takeHold else if k = 11 then takeResume else id

theorem exec_goodCell {k : Byte} {cell : List Byte} {c : Instr} (h : GoodCell k cell)
    (hc : (k, c) ∈ [((0 : Byte), Instr.idleCell cell), (9, .mgmtReq cell), (10, .hold cell), (11, .resume cell)]) (s : State) :
    exec c s = .next (takeGoodCell (cellAct k cell) s) := by
  simp only [List.mem_cons, Prod.mk.injEq, List.not_mem_nil, or_false] at hc
  have hgood : isGoodCell cell k = true := isGoodCell_of (by tauto) h
  obtain ⟨rfl, rfl⟩ | ⟨rfl, rfl⟩ | ⟨rfl, rfl⟩ | ⟨rfl, rfl⟩ := hc
  all_goals exact congrArg Host.Outcome.next (if_pos hgood)

theorem takeGoodCell_search {s : State} (h : s.flk.rx = .search) (act : State → State) : takeGoodCell act s = s := by
  rw [takeGoodCell, h]

theorem takeGoodCell_verify {s : State} (h : s.flk.rx = .verify) (act : State → State) :
    takeGoodCell act s =
      if 16 ≤ s.flk.goodRun + 1 then enterSync s else { s with flk := { s.flk with goodRun := s.flk.goodRun + 1 } } := by
  rw [takeGoodCell, h]
  rfl

/-- The run of bad cells ended (R127). -/
def State.goodCell (s : State) : State := { s with flk := { s.flk with badRun := 0 } }

theorem takeGoodCell_sync {s : State} (h : s.flk.rx = .sync) (act : State → State) : takeGoodCell act s = act s.goodCell := by
  rw [takeGoodCell, h]
  rfl

theorem enterSync_does (s : State) :
    Does (.flkUp :: wrapsAt s.flk.resyncs .flkWrap) s
      { s with flk := { s.flk with rx := .sync, goodRun := 0, badRun := 0, resyncs := s.flk.resyncs + 1 } } (enterSync s) := by
  have hup := ((Does.refl s).done fun x => { x with flk := { x.flk with rx := .sync, goodRun := 0, badRun := 0 } }).then (g := id)
    (setFactor_does .flkUp _)
  have hcount : Does _ s _ (enterSync s) := hup.then (g := fun x => { x with flk := { x.flk with resyncs := x.flk.resyncs + 1 } })
    (countFlk_does _ (fun x n => { x with resyncs := n }) _)
  exact hcount.perm fun f => by rw [setFactor_flk]; rfl

/-- The count of dropped requests is in nothing that a step raises. -/
theorem Raised.withDropped {fs : List Factor} {s t : State} (h : Raised fs s t) (n : BitVec 32) :
    Raised fs { s with mge := { s.mge with dropped := n } } { t with mge := { t.mge with dropped := n } } :=
  ⟨h.factors, h.enables, h.notice, h.reported, h.cell, h.requests, h.resetPending, h.resetDue, rfl⟩

theorem takeRequest_of_room {s : State} (h : s.mge.requests.length < 8) (payload : List Byte) :
    takeRequest payload s = { s with mge := { s.mge with requests := s.mge.requests ++ [payload] } } := if_pos h

/-- A request dropped at a full queue: the count beside what is raised (R148, R165). -/
theorem takeRequest_of_full {s : State} (h : 8 ≤ s.mge.requests.length) (payload : List Byte) :
    ∃ u, takeRequest payload s = { u with mge := { u.mge with dropped := s.mge.dropped + 1 } } ∧
      Does (.ctlReqDropped :: wrapsAt s.mge.dropped .ctlWrap) s s u := by
  have hdrop : takeRequest payload s = setFactor .ctlReqDropped (countDropped s) := if_neg (Nat.not_lt.2 h)
  have hdoes : Does (.ctlReqDropped :: wrapsAt s.mge.dropped .ctlWrap) { s with mge := { s.mge with dropped := s.mge.dropped + 1 } }
      { s with mge := { s.mge with dropped := s.mge.dropped + 1 } } (takeRequest payload s) := by
    rw [hdrop]
    exact ((wrapFactor_does s.mge.dropped .ctlWrap _).then (g := id) (setFactor_does .ctlReqDropped _)).perm fun f => by simp [or_comm]
  have hcount := hdoes.raised.dropped
  generalize takeRequest payload s = t at hdoes hcount ⊢
  refine ⟨{ t with mge := { t.mge with dropped := s.mge.dropped } }, ?_, hdoes.raised.withDropped s.mge.dropped, ?_⟩
  · change t = { t with mge := { t.mge with dropped := s.mge.dropped + 1 } }
    rw [← show t.mge.dropped = s.mge.dropped + 1 from hcount]
  · exact congrArg (fun x : State => { x with mge := { x.mge with dropped := s.mge.dropped } }) hdoes.rest

/-- A HOLD taken loads the timer from HoldLimit (R129, R130). -/
theorem takeHold_does (s : State) :
    Does (wrapsAt s.flk.holds .flkWrap) s
      { s with flk :=
        { s.flk with held := true, timer := s.flk.holdLimit.toNat * 1024, expiryDue := false, holds := s.flk.holds + 1 } } (takeHold s) :=
  ((Does.refl s).done fun x => { x with flk :=
    { x.flk with held := true, timer := x.flk.holdLimit.toNat * 1024, expiryDue := false } }).then
      (g := fun x => { x with flk := { x.flk with holds := x.flk.holds + 1 } }) (countFlk_does _ (fun x n => { x with holds := n }) _)

theorem takeResume_eq (s : State) :
    takeResume s = { s with flk :=
      { s.flk with held := false, timer := if s.flk.held then 0 else s.flk.timer, expiryDue := s.flk.expiryDue && !s.flk.held } } := by
  have hset {b : Bool} (hb : s.flk.held = b) : { s with flk := { s.flk with held := b } } = s := by rw [← hb]
  unfold takeResume
  cases hheld : s.flk.held with
  | true => simp
  | false => simpa using (hset hheld).symm

/-- Settles O32: the receiver's state decides first, and in SYNC the cell's kind. -/
theorem goodCellsTaken : Obligations.GoodCellsTaken := by
  intro s k cell c hgood hc
  rw [exec_goodCell hgood hc]
  refine ⟨fun hsearch => ?_, fun hverify hrun => ?_, fun hverify hrun => ?_, fun hsync => ?_⟩
  · rw [takeGoodCell_search hsearch]
  · rw [takeGoodCell_verify hverify, if_neg (Nat.not_le.2 hrun)]
  · rw [takeGoodCell_verify hverify, if_pos hrun]
    have hdoes := enterSync_does s
    exact ⟨_, rfl, hdoes.raised, hdoes.rest⟩
  · rw [takeGoodCell_sync hsync]
    have hclear := (Does.refl s).done State.goodCell
    refine ⟨?_, ?_, ?_, ?_, ?_⟩
    · rintro rfl
      rfl
    · rintro rfl hroom
      exact congrArg Host.Outcome.next (takeRequest_of_room (s := s.goodCell) hroom (cellPayload cell))
    · rintro rfl hfull
      obtain ⟨u, hdropped, hdoes⟩ := takeRequest_of_full (s := s.goodCell) hfull (cellPayload cell)
      have hdrops := hclear.then (g := id) hdoes
      exact ⟨u, congrArg Host.Outcome.next hdropped, hdrops.raised, hdrops.rest⟩
    · rintro rfl
      have hholds := hclear.then (takeHold_does _) (g := fun x => { x with flk :=
        { x.flk with held := true, timer := x.flk.holdLimit.toNat * 1024, expiryDue := false, holds := x.flk.holds + 1 } })
      exact ⟨_, rfl, hholds.raised, hholds.rest⟩
    · rintro rfl
      exact congrArg Host.Outcome.next (takeResume_eq s.goodCell)

end Sys2Proof.Machine
end

section
/-! PROOFS. EVU: the summary, the event cell that a group's entry into the active set makes, and WRITE to EVENT (O40). -/

namespace Sys2Proof.Machine

/-! ### The summary (R117, R185) -/

/-- Bits summed by their weights. -/
theorem sum_weights_eq_ofBits {n : Nat} (f : Fin n → Bool) :
    ((List.finRange n).map fun i => if f i then 2 ^ i.val else 0).sum = Nat.ofBits f := by
  induction n with
  | zero => rfl
  | succ n ih =>
    have hdouble : ((List.finRange n).map fun i => if f i.succ then 2 ^ (i.val + 1) else 0).sum =
        2 * ((List.finRange n).map fun i => if (f ∘ Fin.succ) i then 2 ^ i.val else 0).sum := by
      rw [← List.sum_map_mul_left]
      refine congrArg List.sum (List.map_congr_left fun i _ => ?_)
      simp only [Function.comp_apply, Nat.pow_succ]
      split <;> omega
    rw [Nat.ofBits_succ, ← ih, ← hdouble, List.finRange_succ, List.map_cons, List.sum_cons, List.map_map, Nat.add_comm]
    cases h : f 0 <;> simp [Function.comp_def]

theorem Evu.summary_eq_ofBits (e : Evu) : e.summary = Nat.ofBits e.summaryBit := by
  rw [← sum_weights_eq_ofBits, List.sum_eq_foldl, List.foldl_map]
  rfl

/-! ### A group's entry into the active set (R186, R187) -/

theorem Evu.isActive_eq_true (e : Evu) (g : GroupIx) : e.isActive g = true ↔ e.factors[g] &&& e.enables[g] ≠ 0 ∧ e.notice[g] = true := by
  rw [Evu.isActive, Evu.summaryBit, Bool.and_eq_true, bne_iff_ne]

/-- Group `g` has entered the active set since `before`, a group is active and not reported, and no event cell is pending. -/
def Evu.Creates (before e : Evu) (g : GroupIx) : Prop :=
  e.isActive g = true ∧ before.isActive g = false ∧ (∃ k : GroupIx, e.isActive k = true ∧ e.reported[k] = false) ∧ e.eventPending = false

/-- What EVU does when group `g` may have entered the active set since `before`. -/
def judgeEntry (before : Evu) (g : GroupIx) (t : State) : State :=
  if t.evu.isActive g && !before.isActive g then judgeEvent t else t

theorem setFactor_eq_judgeEntry (f : Factor) (s : State) :
    setFactor f s = judgeEntry s.evu f.group { s with evu := s.evu.mark f } := rfl

theorem Evu.hasNews_iff (e : Evu) : e.hasNews = true ↔ ∃ k : GroupIx, e.isActive k = true ∧ e.reported[k] = false := by
  simp [Evu.hasNews]

theorem judgeEntry_of_creates {before : Evu} {g : GroupIx} {t : State} (h : before.Creates t.evu g) :
    judgeEntry before g t = createEvent t := by
  obtain ⟨hnow, hbefore, hnews, hpending⟩ := h
  rw [judgeEntry, hnow, hbefore, judgeEvent, (Evu.hasNews_iff _).2 hnews, hpending]
  rfl

theorem judgeEntry_of_not_creates {before : Evu} {g : GroupIx} {t : State} (h : ¬ before.Creates t.evu g) : judgeEntry before g t = t := by
  rw [judgeEntry]
  split
  · rename_i hentry
    rw [Bool.and_eq_true, Bool.not_eq_true'] at hentry
    refine if_neg fun hjudged => h ?_
    rw [Bool.and_eq_true, Bool.not_eq_true', Evu.hasNews_iff] at hjudged
    exact ⟨hentry.1, hentry.2, hjudged⟩
  · rfl

/-- The event cell made on a state that differs from `s` in EVU (R121, R187). -/
theorem createEvent_eq (s : State) (e : Evu) :
    createEvent { s with evu := e } = { s with evu := { e with eventPending := true } }.setOutput
      (s.mge.output ++ [OutCell.event (be 2 e.summary ++ e.factors.toList ++ be 6 s.bpt.lineTime.toNat)]) := rfl

/-! ### WRITE to EVENT (R157, R189) -/

theorem exec_writeEvent {s : State} {r : Request} {rest : List Request} (h : s.offers r rest) (hop : reqOp r = 2)
    (ht : reqTable r = 11) : exec .writeEvent s = .next (placeResponse false r (answerWriteEvent r (s.popped rest))) :=
  congrArg Host.Outcome.next (takeRow_offers h false (writesTable_of hop ht) answerWriteEvent)

/-- The factors that a group has (R121). -/
theorem factorMask_eq (g : GroupIx) :
    factorMask g = [0x0F, 0x7F, 0xFF, 0xFF, 0xFF, 0xFF, 0xFF, 0xFF, 0x3F, 0x1F, 0x3F].getD g.val 0 := by
  revert g
  decide

/-- EVU after a WRITE of group `g`'s enables: the group stays reported only if it stays active (R186). -/
def Evu.written (e : Evu) (g : GroupIx) (enable : BitVec 8) (notice : Bool) : Evu :=
  { e with
    enables := e.enables.set g enable, notice := e.notice.set g notice
    reported := e.reported.set g (e.reported[g] && ((e.factors[g] &&& enable != 0) && notice)) }

theorem Evu.written_isActive (e : Evu) (g : GroupIx) (enable : BitVec 8) (notice : Bool) :
    (e.written g enable notice).isActive g = ((e.factors[g] &&& enable != 0) && notice) := by
  simp [Evu.isActive, Evu.summaryBit, Evu.written]

theorem Evu.trimReported_written (e : Evu) (g : GroupIx) (enable : BitVec 8) (notice : Bool) :
    Evu.trimReported { e with enables := e.enables.set g enable, notice := e.notice.set g notice } g = e.written g enable notice := by
  simp [Evu.trimReported, Evu.isActive, Evu.summaryBit, Evu.written]

/-- The enables stored, and EVU's work at the change (R189). -/
theorem evuChanged_written (e : Evu) (g : GroupIx) (enable : BitVec 8) (notice : Bool) (s : State) :
    evuChanged e g { s with evu := { e with enables := e.enables.set g enable, notice := e.notice.set g notice } } =
      judgeEntry e g { s with evu := e.written g enable notice } := by
  rw [← Evu.trimReported_written]
  rfl

theorem answerWriteEvent_at {r : Request} {g : GroupIx} (h : reqIndex r = g.val) (s : State) :
    answerWriteEvent r s =
      if !maskBelow 2 r || !fieldAtMost (reqFields [1, 1] r) 1 1 ||
          newField [1, 1] r 0 0#8 (BitVec.ofNat 8) &&& ~~~factorMask g != 0 then refuse .badValue s
      else okay (judgeEntry s.evu g
        { s with
          evu := s.evu.written g (newField [1, 1] r 0 s.evu.enables[g] (BitVec.ofNat 8))
            (newField [1, 1] r 1 s.evu.notice[g] (fun v => v == 1)) }) := by
  have hlt : reqIndex r < 11 := h ▸ g.isLt
  obtain rfl : g = ⟨reqIndex r, hlt⟩ := Fin.ext h.symm
  rw [← evuChanged_written, answerWriteEvent, dif_pos hlt]
  simp only [stored_reqFields [1, 1] r 0 (by decide), stored_reqFields [1, 1] r 1 (by decide)]

/-- The judgement after a request has left its queue, and the response after it. -/
theorem placed_judgeEntry_of_creates {before e : Evu} {g : GroupIx} (h : before.Creates e g) (s : State) (rest : List Request)
    (payload : List Byte) :
    (judgeEntry before g { s.popped rest with evu := e }).placed payload =
      ({ s with evu := { e with eventPending := true } }.setOutput
        (s.mge.output ++ [OutCell.event (be 2 e.summary ++ e.factors.toList ++ be 6 s.bpt.lineTime.toNat)])).answered rest payload := by
  rw [judgeEntry_of_creates (t := { s.popped rest with evu := e }) h]
  rfl

theorem placed_judgeEntry_of_not_creates {before e : Evu} {g : GroupIx} (h : ¬ before.Creates e g) (s : State) (rest : List Request)
    (payload : List Byte) :
    (judgeEntry before g { s.popped rest with evu := e }).placed payload = { s with evu := e }.answered rest payload := by
  rw [judgeEntry_of_not_creates (t := { s.popped rest with evu := e }) h]
  rfl

/-- Settles O40: the summary as a number's bits, and one judgement of the entry for a set factor and for a WRITE. -/
theorem eventTableWritten : Obligations.EventTableWritten := by
  refine ⟨fun e => ?_, ?_, ?_⟩
  · rw [Evu.summary_eq_ofBits]
    exact ⟨Nat.ofBits_lt_two_pow _, fun g => Nat.testBit_ofBits_lt _ _ g.isLt⟩
  · intro s f e active creates
    have hcreates : s.evu.Creates e f.group ↔ creates := by
      simp only [Evu.Creates, creates, active, Evu.isActive_eq_true, Bool.eq_false_iff, ne_eq]
      rfl
    rw [setFactor_eq_judgeEntry]
    exact ⟨fun h => (judgeEntry_of_creates (t := { s with evu := e }) (hcreates.2 h)).trans (createEvent_eq s e),
      fun h => judgeEntry_of_not_creates (t := { s with evu := e }) (mt hcreates.1 h)⟩
  · intro s r rest hoffer hop ht w
    refine ⟨fun hix => ?_, fun g hg => ?_⟩
    · rw [exec_writeEvent hoffer hop ht, answerWriteEvent, dif_neg (Nat.not_lt.2 hix), placeResponse_refuse r .badIndex _ nofun]
      rfl
    · intro defined good enable notice active was e creates
      have hgood : (!maskBelow 2 r || !fieldAtMost (reqFields w r) 1 1 ||
          newField w r 0 0#8 (BitVec.ofNat 8) &&& ~~~factorMask g != 0) = true ↔ ¬ good := by
        rw [Bool.or_eq_true, Bool.or_eq_true, not_maskBelow, not_fieldAtMost w r 1 1 (by decide), bne_iff_ne, factorMask_eq, or_assoc,
          not_and_or, not_and_or]
        rfl
      have hcreates : s.evu.Creates (s.evu.written g enable notice) g ↔ creates := by
        rw [Evu.Creates, Evu.written_isActive]
        exact ⟨fun ⟨hnow, hbefore, hnews, hpending⟩ => ⟨hpending, hnow, hbefore, hnews⟩,
          fun ⟨hpending, hnow, hbefore, hnews⟩ => ⟨hnow, hbefore, hnews, hpending⟩⟩
      rw [exec_writeEvent hoffer hop ht, answerWriteEvent_at hg]
      refine ⟨fun hbad => ?_, fun hok hnew => ?_, fun hok hold => ?_⟩
      · rw [if_pos (hgood.2 hbad), placeResponse_refuse r .badValue _ nofun]
        rfl
      · rw [if_neg (mt hgood.1 (not_not.2 hok)), placeResponse_okay]
        exact congrArg Host.Outcome.next (placed_judgeEntry_of_creates (hcreates.2 hnew) s rest _)
      · rw [if_neg (mt hgood.1 (not_not.2 hok)), placeResponse_okay]
        exact congrArg Host.Outcome.next (placed_judgeEntry_of_not_creates (mt hcreates.1 hold) s rest _)

end Sys2Proof.Machine
end

section
/-! PROOFS. The relay engine takes a request, and reports its result (O48). -/

namespace Sys2Proof.Machine

/-! ### A transaction begun on a port (R168, R170) -/

theorem beginOn_eq (p : PortIx) (x : Txn) (s : State) :
    beginOn p x s = { x.enter (if x.req.deferred && !s.quiet p then .deferring else .lineCheck) with
      port := p, second := false, rxBytes := []
      deadline := s.bpt.lineTime + BitVec.ofNat 48 (x.timing.deferLimit.toNat * 100000) } := by
  rw [beginOn]
  split <;> rfl

/-! ### The walk of a broadcast (R181) -/

/-- The outcomes of `n` ports that the walk passes over. -/
def Txn.pass (n : Nat) (x : Txn) : Txn := { x with outcomes := x.outcomes ++ List.replicate n .notAttempted }

theorem Txn.pass_zero (x : Txn) : x.pass 0 = x := by simp [Txn.pass]

theorem Txn.pass_succ (n : Nat) (x : Txn) : (x.pass 1).pass n = x.pass (n + 1) := by
  simp [Txn.pass, List.replicate_succ]

/-- The walk passes over disabled ports. -/
theorem walkOn_pass {s : State} {before : List PortIx} (h : ∀ q ∈ before, (s.port q).enabled = false) (after : List PortIx) {x : Txn}
    (hx : x.abortRest = false) : walkOn s (before ++ after) x = walkOn s after (x.pass before.length) := by
  induction before generalizing x with
  | nil => rw [List.nil_append, List.length_nil, Txn.pass_zero]
  | cons q rest ih =>
    obtain ⟨hq, hrest⟩ := List.forall_mem_cons.1 h
    have hstep : walkOn s (q :: (rest ++ after)) x = walkOn s (rest ++ after) (x.pass 1) := by
      rw [walkOn, if_neg (by rw [hx]; nofun), if_neg (by rw [hq]; nofun)]
      rfl
    rw [List.cons_append, hstep, ih hrest (x := x.pass 1) hx, Txn.pass_succ, List.length_cons]

/-- The walk stops at an enabled port. -/
theorem walkOn_enabled {s : State} {p : PortIx} (h : (s.port p).enabled = true) (after : List PortIx) {x : Txn} (hx : x.abortRest = false) :
    walkOn s (p :: after) x = beginOn p x s := by
  rw [walkOn, hx, h]
  rfl

theorem walkOn_keeps (s : State) (ports : List PortIx) (x : Txn) :
    (walkOn s ports x).req = x.req ∧ (walkOn s ports x).timing = x.timing ∧ (walkOn s ports x).abortRest = x.abortRest := by
  induction ports generalizing x with
  | nil => exact ⟨rfl, rfl, rfl⟩
  | cons p rest ih =>
    rw [walkOn]
    split
    · exact ih _
    · split
      · rw [beginOn_eq]
        exact ⟨rfl, rfl, rfl⟩
      · exact ih _

/-- The ports below `p`, ascending. -/
def portsBefore (p : PortIx) : List PortIx := (List.finRange 6).filter (fun q => q < p)

theorem portsBefore_length (p : PortIx) : (portsBefore p).length = p.val := by
  revert p
  decide

theorem finRange_around (p : PortIx) : List.finRange 6 = portsBefore p ++ p :: portsAfter p := by
  revert p
  decide

/-! ### The take (R168, R181) -/

theorem exec_relayEngineTake {s : State} {r : RelayReq} {rest : List RelayReq} (hidle : s.ccr.engine = none) (hqueue : s.ccr.queue = r :: rest) :
    exec .relayEngineTake s = .next { s with ccr := { s.ccr with queue := rest, engine := some (takeRelay r s) } } := by
  rw [exec, execRelayEngineTake, hidle, hqueue]

theorem takeRelay_aborted {r : RelayReq} (h : r.aborted = true) (s : State) :
    takeRelay r s = { newTxn r s.ccr.timing with outcomes := if r.port = .all then List.replicate 6 .aborted else [] } := if_pos h

theorem takeRelay_one {r : RelayReq} {p : PortIx} (h : r.aborted = false) (hport : r.port = .one p) (s : State) :
    takeRelay r s = beginOn p (newTxn r s.ccr.timing) s := by
  rw [takeRelay, h, hport]
  rfl

theorem takeRelay_all {r : RelayReq} (h : r.aborted = false) (hport : r.port = .all) (s : State) :
    takeRelay r s = walkOn s (List.finRange 6) (newTxn r s.ccr.timing) := by
  rw [takeRelay, h, hport]
  rfl

theorem takeRelay_keeps (r : RelayReq) (s : State) :
    (takeRelay r s).req = r ∧ (takeRelay r s).timing = s.ccr.timing ∧ (takeRelay r s).abortRest = false := by
  cases haborted : r.aborted with
  | true =>
    rw [takeRelay_aborted haborted]
    exact ⟨rfl, rfl, rfl⟩
  | false =>
    cases hport : r.port with
    | one p =>
      rw [takeRelay_one haborted hport, beginOn_eq]
      exact ⟨rfl, rfl, rfl⟩
    | all =>
      rw [takeRelay_all haborted hport]
      exact walkOn_keeps ..

/-- A broadcast taken stops at its first enabled port. -/
theorem takeRelay_first_enabled {r : RelayReq} {p : PortIx} {s : State} (h : r.aborted = false) (hport : r.port = .all)
    (henabled : (s.port p).enabled = true) (hbefore : ∀ q, q < p → (s.port q).enabled = false) :
    takeRelay r s = beginOn p ((newTxn r s.ccr.timing).pass p.val) s := by
  have hpassed : ∀ q ∈ portsBefore p, (s.port q).enabled = false := fun q hq => hbefore q (of_decide_eq_true (List.mem_filter.1 hq).2)
  rw [takeRelay_all h hport, finRange_around p, walkOn_pass hpassed _ rfl, walkOn_enabled henabled _ rfl, portsBefore_length]

/-- A broadcast taken while every port is disabled. -/
theorem takeRelay_all_disabled {r : RelayReq} {s : State} (h : r.aborted = false) (hport : r.port = .all)
    (hdisabled : ∀ q, (s.port q).enabled = false) : takeRelay r s = ((newTxn r s.ccr.timing).pass 6).enter .report := by
  rw [takeRelay_all h hport, ← List.append_nil (List.finRange 6), walkOn_pass (fun q _ => hdisabled q) [] rfl]
  rfl

/-! ### The result (R123, R151, R180) -/

theorem Txn.resultData_all {x : Txn} (h : x.req.port = .all) : x.resultData = x.outcomes.map RelayResult.code := by
  rw [Txn.resultData, h]

theorem Txn.resultData_done {x : Txn} {p : PortIx} (h : x.req.port = .one p) (hdone : x.result = .done) :
    x.resultData = [0, 0, BitVec.ofNat 8 x.rxBytes.length] ++ x.rxBytes := by
  rw [Txn.resultData, h, hdone]
  rfl

theorem Txn.resultData_failed {x : Txn} {p : PortIx} (h : x.req.port = .one p) (hfailed : x.result ≠ .done) :
    x.resultData = [x.result.code, x.result.detail, 0] := by
  rw [Txn.resultData, h]
  dsimp only
  rw [if_neg hfailed]
  rfl

theorem exec_relayResult {s : State} {x : Txn} (hengine : s.ccr.engine = some x) (hreport : x.phase = .report) (hroom : s.responses < 15) :
    exec .relayResult s =
      .next ((s.setOutput (s.mge.output ++ [.response false ([x.req.tag, 0, 14] ++ x.resultData)])).setEngine none) := by
  rw [exec, execRelayResult, hengine]
  exact congrArg Host.Outcome.next (if_pos ⟨hreport, hroom⟩)

/-- Settles O48: the take by abort mark and port, the report by the kind of request and the result. -/
theorem relayTakenAndReported : Obligations.RelayTakenAndReported := by
  refine ⟨?_, ?_⟩
  · intro s r rest hidle hqueue start
    obtain ⟨hreq, htiming, habort⟩ := takeRelay_keeps r s
    refine ⟨takeRelay r s, exec_relayEngineTake hidle hqueue, hreq, htiming, habort, fun haborted => ?_, fun p htaken hport => ?_,
      fun p htaken hport henabled hbefore => ?_, fun htaken hport hdisabled => ?_⟩
    · rw [takeRelay_aborted haborted]
      refine ⟨rfl, ?_⟩
      cases hport : r.port with
      | one p => exact Txn.resultData_failed hport nofun
      | all => exact Txn.resultData_all hport
    · rw [takeRelay_one htaken hport, beginOn_eq]
      exact ⟨rfl, rfl, rfl, rfl⟩
    · rw [takeRelay_first_enabled htaken hport henabled hbefore, beginOn_eq]
      exact ⟨rfl, rfl, rfl, rfl, rfl⟩
    · rw [takeRelay_all_disabled htaken hport hdisabled]
      exact ⟨rfl, Txn.resultData_all hport⟩
  · intro s x hengine hreport hroom
    refine ⟨x.resultData, exec_relayResult hengine hreport hroom, Txn.resultData_all, fun p hport => ⟨Txn.resultData_done hport, ?_⟩⟩
    have hfailed {y : RelayResult × List Byte} (hne : y.1 ≠ .done) (hdata : [y.1.code, y.1.detail, 0] = y.2) (hresult : x.result = y.1) :
        x.resultData = y.2 := by
      rw [Txn.resultData_failed hport (by rw [hresult]; exact hne), hresult, hdata]
    refine List.forall_mem_append.2 ⟨fun y hy => ?_, fun y hy => ?_⟩
    · have hcodes : y.1 ≠ .done ∧ [y.1.code, y.1.detail, 0] = y.2 := by
        revert y
        decide
      exact hfailed hcodes.1 hcodes.2
    · obtain ⟨n, -, rfl⟩ := List.mem_map.1 hy
      exact hfailed nofun rfl

end Sys2Proof.Machine
end

section
/-! PROOFS. What a step may do to the two queues of MGE while a request is answered: no request comes or goes, and at most one event cell joins
the output queue (O33). -/

namespace Sys2Proof.Machine

/-! ### Steps that emit at most one event cell (R150, R187) -/

/-- The step from `s` to `t` leaves the request queue, and at most one event cell joins the output queue, where none was pending. -/
structure Emits (s t : State) : Prop where
  requests : t.mge.requests = s.mge.requests
  cell : (t.mge.output = s.mge.output ∧ t.evu.eventPending = s.evu.eventPending) ∨
    (s.evu.eventPending = false ∧ t.evu.eventPending = true ∧ ∃ payload, t.mge.output = s.mge.output ++ [.event payload])

theorem Emits.refl (s : State) : Emits s s := ⟨rfl, .inl ⟨rfl, rfl⟩⟩

/-- A pending event cell keeps the second step from emitting another. -/
theorem Emits.trans {s t u : State} (h : Emits s t) (k : Emits t u) : Emits s u := by
  refine ⟨k.requests.trans h.requests, ?_⟩
  obtain ⟨hout, hpend⟩ | ⟨hfree, hpend, payload, hout⟩ := h.cell
  · rw [← hout, ← hpend]
    exact k.cell
  · obtain ⟨hout', hpend'⟩ | ⟨hfree', -⟩ := k.cell
    · exact .inr ⟨hfree, hpend'.trans hpend, payload, hout'.trans hout⟩
    · exact absurd (hpend.symm.trans hfree') nofun

theorem Emits.ite {s t u : State} {c : Prop} [Decidable c] (ht : c → Emits s t) (hu : ¬ c → Emits s u) :
    Emits s (if c then t else u) := by
  split
  · exact ht ‹_›
  · exact hu ‹_›

theorem foldl_emits {α : Type} (f : State → α → State) (h : ∀ s a, Emits s (f s a)) (l : List α) (s : State) : Emits s (l.foldl f s) := by
  induction l generalizing s with
  | nil => exact Emits.refl s
  | cons a rest ih => exact (h s a).trans (ih _)

theorem Emits.of_raised {fs : List Factor} {s t : State} (h : Raised fs s t) : Emits s t := ⟨h.requests, h.cell⟩

/-- A step that leaves EVU and MGE. -/
theorem Emits.of_quiet {s t : State} (hevu : t.evu = s.evu) (hmge : t.mge = s.mge) : Emits s t :=
  ⟨by rw [hmge], .inl ⟨by rw [hmge], by rw [hevu]⟩⟩

/-- A second step that leaves EVU and MGE. -/
theorem Emits.quiet {s t u : State} (h : Emits s t) (hevu : u.evu = t.evu) (hmge : u.mge = t.mge) : Emits s u :=
  h.trans (.of_quiet hevu hmge)

theorem setFactor_emits (f : Factor) (s : State) : Emits s (setFactor f s) := .of_raised (setFactor_raised f s)

/-! ### EVU at a WRITE or a CLEAR_EVENTS (R187, R189) -/

theorem judgeEvent_emits (s : State) : Emits s (judgeEvent s) := by
  refine Emits.ite (fun hjudged => ?_) (fun _ => Emits.refl s)
  rw [Bool.and_eq_true, Bool.not_eq_true'] at hjudged
  exact ⟨rfl, .inr ⟨hjudged.2, rfl, _, rfl⟩⟩

theorem evuChanged_emits (before : Evu) (g : GroupIx) (s : State) : Emits s (evuChanged before g s) := by
  have htrim : Emits s { s with evu := s.evu.trimReported g } := ⟨rfl, .inl ⟨rfl, rfl⟩⟩
  exact Emits.ite (fun _ => htrim.trans (judgeEvent_emits _)) (fun _ => htrim)

/-! ### CBM, XCR and CPR (R57, R60, R74, R99, R106, R107) -/

theorem handRecord_emits (i : StreamIx) (kind : CellKind) (payload : List Byte) (f : BitVec 8) (closing : Bool) (s : State) :
    Emits s (handRecord i kind payload f closing s) := .of_raised (handRecord_raised ..)

theorem closeIfDrained_emits (i : StreamIx) (s : State) : Emits s (closeIfDrained i s) := by
  have hclosed : Emits s (s.setStream i { s.stream i with state := .closed }) := .of_quiet rfl rfl
  exact Emits.ite (fun _ => hclosed.trans (setFactor_emits ..)) (fun _ => Emits.refl s)

theorem closeExposure_emits (p : PortIx) (cause : Cause) (l : LineTime) (e : Exposure) (s : State) :
    Emits s (closeExposure p cause l e s) := .of_raised (issueMissing_raised e.stream (exposureRecord p e cause l) s)

theorem removeAll_emits (p : PortIx) (cause : Cause) (list : List Exposure) (s : State) : Emits s (removeAll p cause list s) := by
  induction list generalizing s with
  | nil => exact .of_quiet rfl rfl
  | cons e rest ih =>
    have hunlisted : Emits s (s.setExposures p rest) := .of_quiet rfl rfl
    exact (hunlisted.trans (closeExposure_emits ..)).trans (ih _)

theorem finishFrame_emits (p : PortIx) (f : FrameCtx) (s : State) : Emits s (finishFrame p f s) := by
  have hcells : Emits s (endFrameCells p f s) := .of_quiet (endFrameCells_evu ..) (endFrameCells_mge ..)
  have hrecord := hcells.trans (handRecord_emits f.stream .capture
    (frameRecord p f (endFrameCells p f s).lineTime).payload (frameRecord p f (endFrameCells p f s).lineTime).frameNo true _)
  exact (hrecord.quiet (State.setFrame_evu p none _) (State.setFrame_mge p none _)).trans (closeIfDrained_emits ..)

theorem abortFrame_emits (p : PortIx) (s : State) : Emits s (abortFrame p s) := by
  unfold abortFrame
  split
  · exact Emits.refl s
  · exact finishFrame_emits ..

theorem enableSteps_emits (p : PortIx) (s : State) : Emits s (enableSteps p s) :=
  Emits.ite (fun _ => Emits.refl s) (fun _ => .of_quiet rfl rfl)

theorem disableSteps_emits (p : PortIx) (s : State) : Emits s (disableSteps p s) := by
  refine Emits.ite (fun _ => ?_) (fun _ => Emits.refl s)
  have habort : Emits s (if (s.port p).state = .inFrame then abortFrame p s else s) :=
    Emits.ite (fun _ => abortFrame_emits p s) (fun _ => Emits.refl s)
  refine Emits.trans ?_ (removeAll_emits ..)
  exact habort.quiet rfl rfl

theorem flushFrame_emits (i : StreamIx) (s : State) : Emits s (flushFrame i s).2.2 := by
  unfold flushFrame
  split
  · split <;> exact .of_quiet rfl rfl
  · exact Emits.refl s

theorem flushCells_emits (i : StreamIx) (held : List Nat) (s : State) : Emits s (flushCells i held s) := by
  unfold flushCells
  refine Emits.trans ?_ (foldl_emits _ (fun u _ => .of_raised (countStream_raised i Stream.recordsLost _ u)) _ _)
  exact .of_quiet rfl rfl

theorem flushSteps_emits (i : StreamIx) (s : State) : Emits s (flushSteps i s) := by
  have hcells := ((flushFrame_emits i s).trans (flushCells_emits i (flushFrame i s).1 _)).quiet
    (State.setReserved_evu _ ((flushCells i (flushFrame i s).1 (flushFrame i s).2.2).cbm.reserved - (flushFrame i s).2.1))
    (State.setReserved_mge ..)
  unfold flushSteps
  dsimp only
  refine Emits.trans ?_ (closeIfDrained_emits ..)
  refine Emits.trans ?_ (setFactor_emits ..)
  refine Emits.quiet ?_ (State.setStream_evu ..) (State.setStream_mge ..)
  exact Emits.ite (fun _ => hcells.trans (handRecord_emits ..)) (fun _ => hcells)

/-! ### TRQ and LVC (R33-R36, R41, R193) -/

theorem streamCheck_emits (e : TrigEntry) (s : State) : Emits s (streamCheck e s) :=
  Emits.ite (fun _ => Emits.refl s) (fun _ => setFactor_emits ..)

theorem failTrigger_emits (e : TrigEntry) (i : StreamIx) (cause : Cause) (s : State) : Emits s (failTrigger e i cause s) :=
  let ⟨_, hraised⟩ := failTrigger_raised e i cause s
  .of_raised hraised

theorem dropReused_emits (p : PortIx) (c : BitVec 8) (s : State) : Emits s (dropReused p c s) := by
  have hfiltered : Emits s (s.setExposures p ((s.exposures p).filter (fun x => x.count != c))) := .of_quiet rfl rfl
  exact hfiltered.trans (foldl_emits _ (fun _ _ => (closeExposure_emits ..).trans (setFactor_emits ..)) _ _)

theorem fireTrigger_emits (e : TrigEntry) (i : StreamIx) (s : State) : Emits s (fireTrigger e i s) :=
  have hstarted : Emits s (startFire e s) := .of_raised (startFire_raised e s)
  (hstarted.trans (dropReused_emits ..)).quiet rfl rfl

theorem firingProcedure_emits (e : TrigEntry) (s : State) : Emits s (firingProcedure e s) := by
  have hfail (cause : Cause) (f : Factor) :=
    (failTrigger_emits e (checkedStream e s) cause (streamCheck e s)).trans (setFactor_emits f _)
  exact (streamCheck_emits e s).trans (Emits.ite (fun _ => hfail ..) fun _ => Emits.ite (fun _ => hfail ..) fun _ =>
    Emits.ite (fun _ => hfail ..) fun _ => fireTrigger_emits ..)

theorem fireDue_emits (queue : List TrigEntry) (s : State) : Emits s (fireDue queue s) := by
  induction queue generalizing s with
  | nil => exact .of_quiet rfl rfl
  | cons e rest ih =>
    have hpopped : Emits s (s.setTrigQueue rest) := .of_quiet rfl rfl
    exact Emits.ite (fun _ => (hpopped.trans (firingProcedure_emits ..)).trans (ih _)) (fun _ => .of_quiet rfl rfl)

theorem deliverF_emits (old : FinePos) (s : State) : Emits s (deliverF old s) :=
  Emits.ite (fun _ => Emits.refl s) (fun _ => fireDue_emits ..)

theorem presetBelt_emits (value : BitVec 32) (s : State) : Emits s (presetBelt value s) := by
  have hpreset : Emits s { s with bpt := { enterListen s.bpt with p := value, fraction := 0 } } := .of_quiet rfl rfl
  refine Emits.trans ?_ (deliverF_emits ..)
  exact (hpreset.trans (setFactor_emits .bptPreset _)).quiet rfl rfl

theorem dropTriggers_emits (queue : List TrigEntry) (s : State) : Emits s (dropTriggers queue s) := by
  induction queue generalizing s with
  | nil => exact .of_quiet rfl rfl
  | cons e rest ih =>
    have hpopped : Emits s (s.setTrigQueue rest) := .of_quiet rfl rfl
    exact ((hpopped.trans (streamCheck_emits e _)).trans (failTrigger_emits ..)).trans (ih _)

theorem beginTransition_emits (target : Level) (s : State) : Emits s (beginTransition target s) := by
  unfold beginTransition
  split
  · exact .of_quiet rfl rfl
  · exact Emits.ite (fun _ => .of_raised (arrive_spec .run s).1) (fun _ => .of_quiet rfl rfl)
  · have hemptying : Emits s { s with lvc := { s.lvc with level := .emptying, target := some target } } := .of_quiet rfl rfl
    exact (hemptying.trans (dropTriggers_emits ..)).quiet rfl rfl
  all_goals exact Emits.refl s

end Sys2Proof.Machine
end

section
/-! PROOFS. The answers that the owners of requests give, and the one response of each take (O33). -/

namespace Sys2Proof.Machine

/-! ### Answers (R149, R152) -/

/-- An owner's answer on `s` is a refusal that changes nothing, or it is OK or QUEUED after work that emits at most one event cell. -/
def Answer.Fair (s : State) (a : Answer) : Prop :=
  (∃ x, x ≠ .ok ∧ x ≠ .queued ∧ a = refuse x s) ∨ ((a.status = .ok ∨ a.status = .queued) ∧ Emits s a.after)

theorem Answer.Fair.refuse {x : Status} {s : State} (hok : x ≠ .ok := by nofun) (hqueued : x ≠ .queued := by nofun) :
    Answer.Fair s (refuse x s) := .inl ⟨x, hok, hqueued, rfl⟩

theorem Answer.Fair.okay {s t : State} (h : Emits s t) : Answer.Fair s (okay t) := .inr ⟨.inl rfl, h⟩

theorem Answer.Fair.okayData {s t : State} (data : List Byte) (h : Emits s t) : Answer.Fair s (okayData data t) := .inr ⟨.inl rfl, h⟩

theorem Answer.Fair.ite {s : State} {a b : Answer} {c : Prop} [Decidable c] (ha : c → Answer.Fair s a) (hb : ¬ c → Answer.Fair s b) :
    Answer.Fair s (if c then a else b) := by
  split
  · exact ha ‹_›
  · exact hb ‹_›

/-- A check whose failure is refused. -/
theorem Answer.Fair.unless {x : Status} {s : State} {a : Answer} {c : Prop} [Decidable c] (ha : Answer.Fair s a)
    (hok : x ≠ .ok := by nofun) (hqueued : x ≠ .queued := by nofun) : Answer.Fair s (if c then Machine.refuse x s else a) :=
  .ite (fun _ => .refuse hok hqueued) (fun _ => ha)

/-- An index that is refused where it is out of range. -/
theorem Answer.Fair.inRange {x : Status} {s : State} {c : Prop} [Decidable c] {a : c → Answer} (ha : ∀ h, Answer.Fair s (a h))
    (hok : x ≠ .ok := by nofun) (hqueued : x ≠ .queued := by nofun) :
    Answer.Fair s (if h : c then a h else Machine.refuse x s) := by
  split
  · exact ha _
  · exact .refuse hok hqueued

/-! ### READ and WRITE (R153-R157) -/

theorem answerRead_fair (r : Request) (s : State) : (answerRead r s).Fair s := by
  unfold answerRead
  split
  · exact .refuse
  · exact .ite (fun _ => .okayData _ (Emits.refl s)) (fun _ => .refuse)

theorem answerWriteBelt_fair (r : Request) (s : State) : (answerWriteBelt r s).Fair s :=
  .unless (.unless (.unless (.okay (.of_quiet rfl rfl))))

theorem answerWriteTrigger_fair (r : Request) (s : State) : (answerWriteTrigger r s).Fair s :=
  .unless (.unless (.unless (.okay (.of_quiet rfl rfl))))

theorem answerWriteSensor_fair (r : Request) (s : State) : (answerWriteSensor r s).Fair s :=
  .inRange fun _ => .unless (.okay (.of_quiet rfl rfl))

theorem answerWritePort_fair (r : Request) (s : State) : (answerWritePort r s).Fair s :=
  .inRange fun _ => .unless (.unless (.okay (.ite (fun _ => .of_quiet rfl rfl) (fun _ => .of_quiet rfl rfl))))

theorem answerWriteRelay_fair (r : Request) (s : State) : (answerWriteRelay r s).Fair s :=
  .unless (.unless (.unless (.okay (.of_quiet rfl rfl))))

/-- A change of EVU that neither makes nor forgets an event cell. -/
theorem setEvu_emits (s : State) (e : Evu) (h : e.eventPending = s.evu.eventPending) : Emits s { s with evu := e } :=
  ⟨rfl, .inl ⟨rfl, h⟩⟩

theorem answerWriteEvent_fair (r : Request) (s : State) : (answerWriteEvent r s).Fair s := by
  refine .inRange fun _ => .unless (.okay (Emits.trans ?_ (evuChanged_emits ..)))
  exact setEvu_emits s _ rfl

theorem answerWritePlan_fair (r : Request) (s : State) : (answerWritePlan r s).Fair s :=
  .inRange fun _ => .unless (.okay (.of_quiet rfl rfl))

theorem answerWriteStream_fair (r : Request) (s : State) : (answerWriteStream r s).Fair s :=
  .inRange fun _ => .unless (.unless (.okay (.of_quiet rfl rfl)))

theorem answerWriteShadow_fair (r : Request) (s : State) : (answerWriteShadow r s).Fair s := by
  refine .unless (.unless (.okay ?_))
  unfold stored
  split
  · exact Emits.refl s
  · exact .of_quiet rfl rfl

theorem answerWriteLevel_fair (r : Request) (s : State) : (answerWriteLevel r s).Fair s :=
  .unless (.unless (.okay (.of_quiet rfl rfl)))

theorem answerWriteLink_fair (r : Request) (s : State) : (answerWriteLink r s).Fair s :=
  .unless (.unless (.okay (.of_quiet rfl rfl)))

theorem answerWritePlain_fair (r : Request) (s : State) : (answerWritePlain r s).Fair s := by
  unfold answerWritePlain
  split
  · exact answerWritePlan_fair r s
  · exact answerWriteStream_fair r s
  · exact answerWriteShadow_fair r s
  · exact .refuse
  · exact answerWriteLevel_fair r s
  · exact answerWriteLink_fair r s
  · exact .refuse

/-! ### The other requests (R17, R142, R144, R158-R163, R193) -/

theorem setShadow_emits (n : Nat) (x : Slot) (s : State) : Emits s (setShadow n x s) := .of_quiet rfl rfl

theorem answerWriteCal_fair (r : Request) (s : State) : (answerWriteCal r s).Fair s := by
  refine .unless (.unless (.okay ?_))
  exact foldl_emits _ (fun _ _ => setShadow_emits ..) _ s

theorem clearCounters_emits (group stream : Nat) (s : State) : Emits s (clearCounters group stream s) :=
  .ite (fun _ => .of_quiet rfl rfl) fun _ => .ite (fun _ => .of_quiet rfl rfl) fun _ => .ite (fun _ => .of_quiet rfl rfl) fun _ =>
    .ite (fun _ => .of_quiet rfl rfl) fun _ => .ite (fun _ => .of_quiet rfl rfl) fun _ => ⟨rfl, .inl ⟨rfl, rfl⟩⟩

theorem answerReadCounters_fair (r : Request) (s : State) : (answerReadCounters r s).Fair s :=
  .unless (.unless (.okayData _ (.ite (fun _ => clearCounters_emits ..) (fun _ => Emits.refl s))))

theorem answerClearEvents_fair (r : Request) (s : State) : (answerClearEvents r s).Fair s := by
  refine .inRange fun _ => .unless (.okay (Emits.trans ?_ (evuChanged_emits ..)))
  exact setEvu_emits s _ rfl

theorem streamCmd_fair {steps : StreamIx → State → Answer} (h : ∀ i s, (steps i s).Fair s) (r : Request) (s : State) :
    (streamCmd steps r s).Fair s :=
  .inRange fun _ => .unless (h _ s)

theorem answerOpen_fair (i : StreamIx) (s : State) : (answerOpen i s).Fair s :=
  .ite (fun _ => .okay (.of_quiet rfl rfl)) (fun _ => .refuse)

theorem closeSteps_emits (i : StreamIx) (s : State) : Emits s (closeSteps i s) := by
  have hdraining : Emits s (s.setStream i { s.stream i with state := .draining }) := .of_quiet rfl rfl
  exact hdraining.trans (closeIfDrained_emits ..)

theorem answerClose_fair (i : StreamIx) (s : State) : (answerClose i s).Fair s := by
  unfold answerClose
  split
  · exact .okay (closeSteps_emits i s)
  · exact .okay (Emits.refl s)
  · exact .refuse

theorem answerFlush_fair (i : StreamIx) (s : State) : (answerFlush i s).Fair s := .unless (.okay (flushSteps_emits i s))

theorem portCmd_fair {steps : PortIx → State → State} (h : ∀ p s, Emits s (steps p s)) (r : Request) (s : State) :
    (portCmd steps r s).Fair s :=
  .inRange fun _ => .unless (.okay (h _ s))

theorem answerCalSwap_fair (r : Request) (s : State) : (answerCalSwap r s).Fair s :=
  .unless (.unless (.okay (.of_quiet rfl rfl)))

theorem answerSetLevel_fair (r : Request) (s : State) : (answerSetLevel r s).Fair s := by
  refine .unless ?_
  split
  · exact .refuse
  · exact .okay (.ite (fun _ => setFactor_emits ..) (fun _ => beginTransition_emits ..))

theorem answerBeltPreset_fair (r : Request) (s : State) : (answerBeltPreset r s).Fair s :=
  .ite (fun _ => .okay (presetBelt_emits ..)) (fun _ => .refuse)

theorem answerRelay_fair (r : Request) (s : State) : (answerRelay r s).Fair s :=
  .unless (.unless (.unless (.unless (.inr ⟨.inr rfl, .of_quiet rfl rfl⟩))))

theorem answerSoftReset_fair (r : Request) (s : State) : (answerSoftReset r s).Fair s := .okay ⟨rfl, .inl ⟨rfl, rfl⟩⟩

/-! ### The take (R149, R150) -/

/-- What a row's take leaves in the place of `s`: nothing changed, or the head request answered once. -/
def TakenOnce (s t : State) : Prop :=
  t = s ∨ ∃ r rest, s.offers r rest ∧ t.mge.requests = rest ∧
    ∃ (status : Byte) (data : List Byte) (isReset : Bool) (events : List OutCell),
      events.length ≤ 1 ∧ (∀ x ∈ events, x.isResponse = false) ∧
      t.mge.output = s.mge.output ++ events ++ [.response isReset (reply r status data)] ∧
      (status ≠ 0 → data = []) ∧ (status ≠ 0 → status ≠ 1 → t = s.answered rest (reply r status))

/-- The event cells of a step that emits at most one. -/
theorem Emits.events {s t : State} (h : Emits s t) :
    ∃ events : List OutCell, events.length ≤ 1 ∧ (∀ x ∈ events, x.isResponse = false) ∧ t.mge.output = s.mge.output ++ events := by
  obtain ⟨hout, -⟩ | ⟨-, -, payload, hout⟩ := h.cell
  · exact ⟨[], Nat.zero_le 1, nofun, by rw [hout, List.append_nil]⟩
  · exact ⟨[.event payload], Nat.le_refl 1, by simp [OutCell.isResponse], hout⟩

theorem Status.code_ne_zero {x : Status} (h : x.code ≠ 0) : x ≠ .ok := by
  rintro rfl
  exact h rfl

/-- A fair answer of the head request's owner. -/
theorem placeResponse_takenOnce {s : State} {r : Request} {rest : List Request} (hoffer : s.offers r rest) {a : Answer}
    (h : a.Fair (s.popped rest)) (isReset : Bool) (hreset : isReset = true → a.status = .ok) :
    TakenOnce s (placeResponse isReset r a) := by
  refine .inr ⟨r, rest, hoffer, ?_⟩
  have hemits : Emits (s.popped rest) a.after := by
    obtain ⟨x, -, -, rfl⟩ | ⟨-, hemits⟩ := h
    · exact Emits.refl _
    · exact hemits
  obtain ⟨events, hone, hevents, hout⟩ := hemits.events
  refine ⟨hemits.requests, a.status.code, if a.status = .ok then a.data else [], isReset, events, hone, hevents, ?_, ?_, ?_⟩
  · exact congrArg (· ++ [OutCell.response isReset (responsePayload r a)]) hout
  · exact fun hcode => if_neg (Status.code_ne_zero hcode)
  · intro hnotOk hnotQueued
    obtain ⟨x, hok, -, rfl⟩ | ⟨hstatus, -⟩ := h
    · obtain rfl : isReset = false := Bool.eq_false_iff.2 fun hresets => hok (hreset hresets)
      exact placeResponse_refuse_popped r x s rest hok
    · obtain hok | hqueued := hstatus
      · exact absurd hok (Status.code_ne_zero hnotOk)
      · exact absurd (congrArg Status.code hqueued) hnotQueued

theorem takeRow_takenOnce (isReset : Bool) (accepts : Request → Bool) {owner : Request → State → Answer}
    (h : ∀ r s, (owner r s).Fair s) (s : State) (hreset : isReset = true → ∀ r s, (owner r s).status = .ok := by nofun) :
    TakenOnce s (takeRow isReset accepts owner s) := by
  unfold takeRow
  split
  · exact .inl rfl
  · rename_i r rest hrequests
    split
    · rename_i htake
      simp only [State.mayTake, Config.responseMax, Bool.and_eq_true, Bool.not_eq_true'] at htake
      obtain ⟨-, hpending, hroom⟩ := htake
      exact placeResponse_takenOnce ⟨hrequests, hpending, of_decide_eq_true hroom⟩ (h r _) isReset fun hresets => hreset hresets r _
    · exact .inl rfl

/-- Settles O33: each row is a take whose owner's answer is fair. -/
theorem takesAnswerOnce : Obligations.TakesAnswerOnce := by
  intro c s htake
  suffices h : ∃ t, exec c s = .next t ∧ TakenOnce s t from h
  have row (accepts : Request → Bool) {owner : Request → State → Answer} (howner : ∀ r s, (owner r s).Fair s)
      (hexec : exec c s = .next (takeRow false accepts owner s)) : ∃ t, exec c s = .next t ∧ TakenOnce s t :=
    ⟨_, hexec, takeRow_takenOnce false accepts howner s⟩
  cases c with
  | badOp => exact row isBadOp (fun _ _ => .refuse) rfl
  | read => exact row _ answerRead_fair rfl
  | write => exact row _ answerWritePlain_fair rfl
  | writeBelt => exact row _ answerWriteBelt_fair rfl
  | writeTrigger => exact row _ answerWriteTrigger_fair rfl
  | writeSensor => exact row _ answerWriteSensor_fair rfl
  | writePort => exact row _ answerWritePort_fair rfl
  | writeRelay => exact row _ answerWriteRelay_fair rfl
  | writeEvent => exact row _ answerWriteEvent_fair rfl
  | writeCal => exact row _ answerWriteCal_fair rfl
  | readCounters => exact row _ answerReadCounters_fair rfl
  | clearEvents => exact row _ answerClearEvents_fair rfl
  | openStream => exact row _ (streamCmd_fair answerOpen_fair) rfl
  | closeStream => exact row _ (streamCmd_fair answerClose_fair) rfl
  | flushStream => exact row _ (streamCmd_fair answerFlush_fair) rfl
  | enablePort => exact row _ (portCmd_fair enableSteps_emits) rfl
  | disablePort => exact row _ (portCmd_fair disableSteps_emits) rfl
  | calSwap => exact row _ answerCalSwap_fair rfl
  | setLevel => exact row _ answerSetLevel_fair rfl
  | beltPreset => exact row _ answerBeltPreset_fair rfl
  | relay => exact row _ answerRelay_fair rfl
  | status => exact row _ (fun _ t => .okayData (statusData t) (Emits.refl t)) rfl
  | softReset => exact ⟨_, rfl, takeRow_takenOnce true _ answerSoftReset_fair s fun _ _ _ => rfl⟩
  | _ => exact absurd htake nofun

end Sys2Proof.Machine
end

section
/-! PROOFS. The Slot Calendar's frame: the work of every other block leaves SCD as it is (O57). -/

namespace Sys2Proof.Machine

/-! ### Steps made of steps -/

theorem ite_scd {s t u : State} {c : Prop} [Decidable c] (ht : c → t.scd = s.scd) (hu : ¬ c → u.scd = s.scd) :
    (if c then t else u).scd = s.scd := by
  split
  · exact ht ‹_›
  · exact hu ‹_›

theorem foldl_scd {α : Type} {f : State → α → State} (h : ∀ s a, (f s a).scd = s.scd) (l : List α) (s : State) :
    (l.foldl f s).scd = s.scd := by
  induction l generalizing s with
  | nil => rfl
  | cons a rest ih => exact (ih _).trans (h s a)

theorem Does.scd {fs : List Factor} {s u t : State} (h : Does fs s u t) (hu : u.scd = s.scd) : t.scd = s.scd :=
  (congrArg State.scd h.rest).trans hu

theorem BeltStep.scd {fs : List Factor} {b : Bpt} {s t : State} (h : BeltStep fs b s t) : t.scd = s.scd :=
  (congrArg State.scd h.rest :)

theorem State.scd_of_beside {s t : State} (h : t.beside = s.beside) : t.scd = s.scd := congrArg (fun x => x.2.2.2.1) h

theorem State.scd_of_still {s t : State} (h : t.still = s.still) : t.scd = s.scd := congrArg (fun x => x.2.2.2.1) h

/-! ### XCR (R65-R75) -/

@[simp] theorem removeAll_scd (p : PortIx) (cause : Cause) (list : List Exposure) (s : State) : (removeAll p cause list s).scd = s.scd :=
  State.scd_of_beside (removeAll_beside ..)

theorem matchFrame_scd (p : PortIx) (c : BitVec 8) (s : State) : (matchFrame p c s).2.scd = s.scd := by
  unfold matchFrame
  split
  · split
    · rfl
    · exact foldl_scd (by simp) _ _
  · split <;> rfl

@[simp] theorem appendExposure_scd (p : PortIx) (x : Exposure) (s : State) : (appendExposure p x s).scd = s.scd :=
  foldl_scd (s := s.setExposures p _) (by simp) _

/-! ### TRQ (R22-R43) -/

theorem firingProcedure_scd (e : TrigEntry) (s : State) : (firingProcedure e s).scd = s.scd := by
  unfold firingProcedure
  dsimp only
  split
  · simp
  · split
    · simp
    · split <;> simp [fireTrigger]

theorem fireDue_scd (queue : List TrigEntry) (s : State) : (fireDue queue s).scd = s.scd := by
  induction queue generalizing s with
  | nil => rfl
  | cons e rest ih => exact ite_scd (fun _ => (ih _).trans (firingProcedure_scd ..)) (fun _ => rfl)

theorem deliverF_scd (old : FinePos) (s : State) : (deliverF old s).scd = s.scd := ite_scd (fun _ => rfl) (fun _ => fireDue_scd ..)

theorem insertTrigger_scd (e : TrigEntry) (s : State) : (insertTrigger e s).scd = s.scd :=
  ite_scd (fun _ => rfl) (fun _ => State.scd_of_still (refuseTrigger_still e .queueFull .trqQueueFull s))

theorem registerPart_scd (n : SensorIx) (s : State) : (registerPart n s).scd = s.scd := by
  unfold registerPart
  refine (foldl_scd (fun u i => ite_scd (fun _ => insertTrigger_scd ..) (fun _ => rfl)) _ _).trans ?_
  simp

theorem sampleSensor_scd (n : SensorIx) (sample : Bool) (s : State) : (sampleSensor n sample s).scd = s.scd := by
  have hgate (u : State) : (registrationGate n sample u).scd = u.scd :=
    ite_scd (fun _ => ite_scd (fun _ => by simp) fun _ => ite_scd (fun _ => by simp) (fun _ => registerPart_scd n u)) (fun _ => rfl)
  exact ite_scd (fun _ => hgate _) (fun _ => rfl)

theorem triggerTick_scd (lines : BitVec 4) (s : State) : (tickStages (sampleAll lines s)).scd = s.scd :=
  (State.scd_of_still (tickStages_still _)).trans (foldl_scd (fun _ _ => sampleSensor_scd ..) _ s)

/-! ### BPT (R1-R18) -/

theorem beltWork_scd (step dir : Bool) (s : State) : (beltWork step dir s).scd = s.scd := by
  have hticked : (s.ticked step dir).scd = s.scd := ite_scd (fun _ => (countInterval_beltStep _).scd) (fun _ => rfl)
  rw [beltWork_eq]
  exact ite_scd
    (fun _ => ite_scd (fun _ => (forwardEdge_beltStep _).scd.trans hticked) (fun _ => (reverseEdge_beltStep _).scd.trans hticked))
    (fun _ => ite_scd (fun _ => hticked) (fun _ => hticked))

theorem presetBelt_scd (value : BitVec 32) (s : State) : (presetBelt value s).scd = s.scd :=
  (deliverF_scd ..).trans (setFactor_scd ..)

/-! ### CPR and CBM (R45-R58, R85-R107) -/

theorem parityError_scd (p : PortIx) (s : State) : (parityError p s).scd = s.scd := (parityError_does p s).scd rfl

theorem framingError_scd (p : PortIx) (s : State) : (framingError p s).scd = s.scd := (framingError_does p s).scd rfl

theorem refuseFrame_scd (p : PortIx) (i : StreamIx) (v : Verdict) (e : Option Exposure) (value : BitVec 16) (s : State) :
    (refuseFrame p i v e value s).scd = s.scd := by simp [refuseFrame]

theorem offerFrame_scd (p : PortIx) (i : StreamIx) (e : Option Exposure) (value : BitVec 16) (s : State) :
    (offerFrame p i e value s).scd = s.scd := by
  unfold offerFrame
  split
  · exact refuseFrame_scd ..
  · split
    · simp
    · exact refuseFrame_scd ..

theorem beginFrame_scd (p : PortIx) (value : BitVec 16) (s : State) : (beginFrame p value s).scd = s.scd := by
  have hmatch := matchFrame_scd p (value.setWidth 8) (countPort p Port.frames (fun x n => { x with frames := n }) s)
  rw [countPort_scd] at hmatch
  unfold beginFrame
  dsimp only
  split
  · rename_i hfound
    rw [hfound] at hmatch
    exact (offerFrame_scd ..).trans hmatch
  · rename_i hfound
    rw [hfound] at hmatch
    refine ite_scd (fun _ => (offerFrame_scd ..).trans ?_) (fun _ => ?_) <;> simpa using hmatch

theorem placeInNewCell_scd (p : PortIx) (value : BitVec 16) (f : FrameCtx) (s : State) : (placeInNewCell p value f s).scd = s.scd := by
  have htruncate : (truncateWord p f s).scd = s.scd := setFactor_scd ..
  unfold placeInNewCell
  refine ite_scd (fun _ => htruncate) fun _ => ?_
  split
  · exact htruncate
  · simp [placeInCell]

theorem takeData_scd (p : PortIx) (good : Bool) (value : BitVec 16) (f : FrameCtx) (s : State) : (takeData p good value f s).scd = s.scd := by
  have hplace (g : FrameCtx) (u : State) : (placeWord p value g u).scd = u.scd := by
    unfold placeWord
    split
    · exact placeInNewCell_scd ..
    · exact ite_scd (fun _ => rfl) (fun _ => (placeInNewCell_scd ..).trans (commitCell_scd ..))
  exact hplace _ _

theorem closeFrame_scd (p : PortIx) (value : BitVec 16) (f : FrameCtx) (s : State) : (closeFrame p value f s).scd = s.scd := by
  rw [closeFrame_eq, State.setPortState_scd, finishFrame_scd]
  exact (countChecksum_does p _ (s.setFrame p _)).scd rfl

theorem flushSteps_scd (i : StreamIx) (s : State) : (flushSteps i s).scd = s.scd := by
  have hframe : (flushFrame i s).2.2.scd = s.scd := by
    unfold flushFrame
    split
    · split <;> rfl
    · rfl
  have hcells (held : List Nat) (t : State) : (flushCells i held t).scd = t.scd := foldl_scd (s := State.setStream _ i _) (by simp) _
  have hissue (t : State) (c : Prop) [Decidable c] (r : CaptureRecord) : (if c then issueCapture i r true t else t).scd = t.scd :=
    ite_scd (fun _ => issueCapture_scd ..) (fun _ => rfl)
  unfold flushSteps
  dsimp only
  rw [closeIfDrained_scd, setFactor_scd, State.setStream_scd, hissue, State.setReserved_scd, hcells, hframe]

/-! ### FLK (R116, R124-R130) -/

theorem takeDueExpiry_scd (s : State) : (takeDueExpiry s).scd = s.scd := ite_scd (fun _ => setFactor_scd ..) (fun _ => rfl)

theorem transmissionEnd_scd {s t : State} (h : execTransmissionEnd s = .next t) : t.scd = s.scd := by
  have htick (u : State) : (tickHold u).scd = u.scd := ite_scd (fun _ => rfl) fun _ => ite_scd (fun _ => rfl) (fun _ => rfl)
  unfold execTransmissionEnd at h
  split at h
  · cases h
    rfl
  · cases h
    rw [htick, reportSent_eq]
    exact takeDueExpiry_scd s

theorem leaveSync_scd (s : State) : (leaveSync s).scd = s.scd := by
  rw [leaveSync_eq]
  exact ite_scd (fun _ => setFactor_scd ..) (fun _ => setFactor_scd ..)

/-- A received good cell judged, if it is one. -/
theorem goodCell_scd {c : Prop} [Decidable c] {act : State → State} (hact : ∀ u, (act u).scd = u.scd) (s : State) :
    (if c then takeGoodCell act s else s).scd = s.scd := by
  refine ite_scd (fun _ => ?_) (fun _ => rfl)
  unfold takeGoodCell
  split
  · rfl
  · exact ite_scd (fun _ => by simp [enterSync]) (fun _ => rfl)
  · exact hact _

theorem takeBadCell_scd (s : State) : (takeBadCell s).scd = s.scd := by
  unfold takeBadCell
  split
  · rfl
  · simp
  · exact ite_scd (fun _ => (leaveSync_scd _).trans (by simp)) (fun _ => by simp)

theorem takeHold_scd (s : State) : (takeHold s).scd = s.scd := countFlk_scd ..

theorem takeResume_scd (s : State) : (takeResume s).scd = s.scd := ite_scd (fun _ => rfl) (fun _ => rfl)

theorem takeRequest_scd (payload : List Byte) (s : State) : (takeRequest payload s).scd = s.scd :=
  ite_scd (fun _ => rfl) (fun _ => by simp [countDropped])

/-! ### CCR (R168-R182) -/

theorem holdTick_scd (x : Txn) (ph : StallPhase) (w : Wires) (s : State) : (holdTick x ph w s).scd = s.scd :=
  ite_scd (fun _ => rfl) (fun _ => rfl)

theorem bitTick_scd (clk dat : Bool) (x : Txn) (ph : StallPhase) (s : State) : (bitTick clk dat x ph s).scd = s.scd :=
  ite_scd (fun _ => rfl) fun _ => ite_scd (fun _ => holdTick_scd ..) fun _ => ite_scd (fun _ => rfl) (fun _ => rfl)

theorem txnTick_scd (clk dat : Bool) (x : Txn) (s : State) : (txnTick clk dat x s).scd = s.scd := by
  unfold txnTick
  cases x.phase with
  | deferring => exact ite_scd (fun _ => rfl) fun _ => ite_scd (fun _ => rfl) (fun _ => rfl)
  | lineCheck => exact ite_scd (fun _ => ite_scd (fun _ => rfl) (fun _ => rfl)) (fun _ => rfl)
  | start => exact ite_scd (fun _ => holdTick_scd ..) fun _ => ite_scd (fun _ => rfl) (fun _ => rfl)
  | address | write | read => exact bitTick_scd ..
  | restart =>
    exact ite_scd (fun _ => rfl) fun _ => ite_scd (fun _ => holdTick_scd ..) fun _ =>
      ite_scd (fun _ => ite_scd (fun _ => rfl) fun _ => ite_scd (fun _ => rfl) (fun _ => rfl)) (fun _ => rfl)
  | stop =>
    exact ite_scd (fun _ => rfl) fun _ => ite_scd (fun _ => holdTick_scd ..) fun _ => ite_scd (fun _ => rfl) (fun _ => rfl)
  | report => rfl

/-! ### LVC (R192-R196) -/

theorem endEmptying_scd (s : State) : (endEmptying s).scd = s.scd := by
  obtain ⟨-, -, -, -, -, -, hscd⟩ := endEmptying_rest s
  exact hscd

theorem beginTransition_scd (x : Level) (s : State) : (beginTransition x s).scd = s.scd := by
  unfold beginTransition
  split
  case h_2 => exact ite_scd (fun _ => setFactor_scd ..) (fun _ => rfl)
  case h_3 =>
    change (dropTriggers s.trq.queue _).scd = s.scd
    rw [State.scd_of_still (dropTriggers_still ..).1]
  all_goals rfl

theorem settlePorts_scd (ports : List PortIx) (s : State) : (ports.foldl (fun u p => settlePort p u) s).scd = s.scd :=
  foldl_scd (fun u p => show (settlePort p u).scd = u.scd from ite_scd (fun _ => rfl) (fun _ => rfl)) ports s

theorem forcePorts_scd (order : List PortIx) (s : State) : (forPorts order forcePort s).scd = s.scd :=
  State.scd_of_beside (forcePorts_spec s order).1

theorem shutPorts_scd (order : List PortIx) (s : State) : (endShutting (camerasOff order s)).scd = s.scd := by
  obtain ⟨-, -, -, -, -, hscd⟩ := endShutting_rest (camerasOff order s)
  exact hscd.trans (congrArg (fun x => x.1.2.2.2.1) (camerasOff_spec order s).1)

end Sys2Proof.Machine
end

section
/-! PROOFS. The answers of the owners of requests leave SCD as it is, but for those of WRITE to CAL_SHADOW, WRITE_CAL and CAL_SWAP (O57). -/

namespace Sys2Proof.Machine

/-- A check refused, or the rest of the checks. -/
theorem check_scd {s : State} {a : Answer} {c : Prop} [Decidable c] {x : Status} (ha : ¬ c → a.after.scd = s.scd) :
    (if c then refuse x s else a).after.scd = s.scd := by
  split
  · rfl
  · exact ha ‹_›

/-! ### Tables (R153-R157) -/

theorem answerRead_scd (r : Request) (s : State) : (answerRead r s).after.scd = s.scd := by
  unfold answerRead
  split
  · rfl
  · split <;> rfl

theorem answerWriteBelt_scd (r : Request) (s : State) : (answerWriteBelt r s).after.scd = s.scd :=
  check_scd fun _ => check_scd fun _ => check_scd fun _ => rfl

theorem answerWriteTrigger_scd (r : Request) (s : State) : (answerWriteTrigger r s).after.scd = s.scd :=
  check_scd fun _ => check_scd fun _ => check_scd fun _ => rfl

theorem answerWriteSensor_scd (r : Request) (s : State) : (answerWriteSensor r s).after.scd = s.scd := by
  unfold answerWriteSensor
  split
  · exact check_scd fun _ => rfl
  · rfl

theorem answerWritePort_scd (r : Request) (s : State) : (answerWritePort r s).after.scd = s.scd := by
  unfold answerWritePort
  split
  · exact check_scd fun _ => check_scd fun _ => ite_scd (fun _ => rfl) (fun _ => rfl)
  · rfl

theorem answerWriteRelay_scd (r : Request) (s : State) : (answerWriteRelay r s).after.scd = s.scd :=
  check_scd fun _ => check_scd fun _ => check_scd fun _ => rfl

/-- EVU's work at a change of its registers (R189). -/
theorem evuChanged_scd (before : Evu) (g : GroupIx) (s : State) : (evuChanged before g s).scd = s.scd :=
  ite_scd (fun _ => ite_scd (fun _ => rfl) (fun _ => rfl)) (fun _ => rfl)

theorem answerWriteEvent_scd (r : Request) (s : State) : (answerWriteEvent r s).after.scd = s.scd := by
  unfold answerWriteEvent
  split
  · exact check_scd fun _ => evuChanged_scd ..
  · rfl

theorem answerClearEvents_scd (r : Request) (s : State) : (answerClearEvents r s).after.scd = s.scd := by
  unfold answerClearEvents
  split
  · exact check_scd fun _ => evuChanged_scd ..
  · rfl

/-- The tables of no row of their own, but CAL_SHADOW (R154). -/
theorem answerWritePlain_scd {r : Request} (h : reqTable r ≠ 4) (s : State) : (answerWritePlain r s).after.scd = s.scd := by
  unfold answerWritePlain
  split
  case h_1 =>
    unfold answerWritePlan
    split
    · exact check_scd fun _ => rfl
    · rfl
  case h_2 =>
    unfold answerWriteStream
    split
    · exact check_scd fun _ => check_scd fun _ => rfl
    · rfl
  case h_3 => exact absurd ‹_› h
  case h_5 => exact check_scd fun _ => check_scd fun _ => rfl
  case h_6 => exact check_scd fun _ => check_scd fun _ => rfl
  all_goals rfl

/-! ### Counters, streams, ports and the level (R105-R107, R158-R161, R193) -/

theorem answerReadCounters_scd (r : Request) (s : State) : (answerReadCounters r s).after.scd = s.scd := by
  have hclear (group stream : Nat) : (clearCounters group stream s).scd = s.scd :=
    ite_scd (fun _ => rfl) fun _ => ite_scd (fun _ => rfl) fun _ => ite_scd (fun _ => rfl) fun _ =>
      ite_scd (fun _ => rfl) fun _ => ite_scd (fun _ => rfl) (fun _ => rfl)
  exact check_scd fun _ => check_scd fun _ => ite_scd (fun _ => hclear ..) (fun _ => rfl)

theorem streamCmd_scd {cbm : StreamIx → State → Answer} (h : ∀ i s, (cbm i s).after.scd = s.scd) (r : Request) (s : State) :
    (streamCmd cbm r s).after.scd = s.scd := by
  unfold streamCmd
  split
  · exact check_scd fun _ => h _ s
  · rfl

theorem portCmd_scd {cpr : PortIx → State → State} (h : ∀ p s, (cpr p s).scd = s.scd) (r : Request) (s : State) :
    (portCmd cpr r s).after.scd = s.scd := by
  unfold portCmd
  split
  · exact check_scd fun _ => h _ s
  · rfl

theorem answerOpen_scd (i : StreamIx) (s : State) : (answerOpen i s).after.scd = s.scd := by
  unfold answerOpen
  split <;> rfl

theorem answerClose_scd (i : StreamIx) (s : State) : (answerClose i s).after.scd = s.scd := by
  unfold answerClose
  split
  · exact closeIfDrained_scd ..
  · rfl
  · rfl

theorem answerFlush_scd (i : StreamIx) (s : State) : (answerFlush i s).after.scd = s.scd := check_scd fun _ => flushSteps_scd i s

theorem enableSteps_scd (p : PortIx) (s : State) : (enableSteps p s).scd = s.scd := ite_scd (fun _ => rfl) (fun _ => rfl)

theorem disableSteps_scd (p : PortIx) (s : State) : (disableSteps p s).scd = s.scd := by
  have habort : (if (s.port p).state = .inFrame then abortFrame p s else s).scd = s.scd :=
    ite_scd (fun _ => abortFrame_scd p s) (fun _ => rfl)
  exact ite_scd (fun _ => (removeAll_scd ..).trans habort) (fun _ => rfl)

theorem answerSetLevel_scd (r : Request) (s : State) : (answerSetLevel r s).after.scd = s.scd := by
  refine check_scd fun _ => ?_
  split
  · rfl
  · exact ite_scd (fun _ => setFactor_scd ..) (fun _ => beginTransition_scd ..)

theorem answerBeltPreset_scd (r : Request) (s : State) : (answerBeltPreset r s).after.scd = s.scd := by
  unfold answerBeltPreset
  split
  · exact presetBelt_scd ..
  · rfl

theorem answerRelay_scd (r : Request) (s : State) : (answerRelay r s).after.scd = s.scd :=
  check_scd fun _ => check_scd fun _ => check_scd fun _ => check_scd fun _ => rfl

end Sys2Proof.Machine
end

section
/-! PROOFS. SCD at the start of a slot: the pointers, and the swap at the calendar wrap (O29). -/

namespace Sys2Proof.Machine

/-! ### The pointers (R138, R141) -/

/-- The spare pointer after a choice (R138): a stream found in a spare slot moves it. -/
def Choice.sparePtr (ptr : StreamIx) : Choice → StreamIx
  | .stream i true => i
  | .stream _ false | .idle | .mgmt => ptr

theorem sendMgmt_scd (s : State) : (sendMgmt s).scd = s.scd := by
  unfold sendMgmt
  split <;> rfl

/-- A stream without a cell sends IDLE. -/
theorem sendStream_of_empty {i : StreamIx} {s : State} (h : (s.stream i).queue = []) : sendStream i s = sendIdle s := by
  have hnone : selectCell i s = none := by simp [selectCell, h]
  rw [sendStream, hnone]

theorem sendStream_scd (i : StreamIx) (s : State) : (sendStream i s).scd = s.scd := by
  cases hqueue : (s.stream i).queue with
  | nil =>
    rw [sendStream_of_empty hqueue]
    rfl
  | cons c rest => exact (sendStream_does hqueue).scd rfl

/-- What is sent moves the spare pointer alone. -/
theorem sendChoice_scd (x : Choice) (s : State) : (sendChoice x s).scd = { s.scd with sparePtr := x.sparePtr s.scd.sparePtr } := by
  unfold sendChoice
  split
  · rfl
  · exact sendMgmt_scd s
  · exact sendStream_scd ..
  · exact sendStream_scd ..

/-- The slot pointer stands at the end of the calendar, and a swap waits for it (R141). -/
abbrev Scd.Wraps (c : Scd) : Prop := c.slotPtr = 255 ∧ c.swapPending = true

/-- The calendars exchanged, and the swap done (R141). -/
def Scd.exchanged (c : Scd) : Scd := { c with active := c.shadow, shadow := c.active, swapPending := false }

/-- SCD one slot on (R141). -/
def Scd.advanced (c : Scd) : Scd := { if c.Wraps then c.exchanged else c with slotPtr := c.slotPtr + 1 }

theorem advanceSlot_scd (s : State) : (advanceSlot s).scd = s.scd.advanced := by
  unfold advanceSlot Scd.advanced
  dsimp only
  split
  · rw [exchangeCalendars, setFactor_scd]
    rfl
  · rfl

/-- SCD after the start of a slot. -/
theorem takeSlot_scd (s : State) :
    (takeSlot s).scd = { s.scd with sparePtr := (chooseCell s).sparePtr s.scd.sparePtr }.advanced := by
  rw [takeSlot, advanceSlot_scd, sendChoice_scd]

end Sys2Proof.Machine
end

section
/-! PROOFS. The advance of the slot pointer, and the calendar swap (O29). -/

namespace Sys2Proof.Machine

/-! ### What the start of a slot sends and raises (R102, R116, R139) -/

theorem exec_cellSlot_takeSlot {s : State} (h : s.flk.tx = none) : exec .cellSlot s = .next (takeSlot s) := exec_cellSlot h

theorem takeSlot_cbm (s : State) : (takeSlot s).cbm = (sendChoice (chooseCell s) s).cbm := advanceSlot_cbm _

theorem takeSlot_flk (s : State) : (takeSlot s).flk = (sendChoice (chooseCell s) s).flk := advanceSlot_flk _

theorem sendStream_tx {i : StreamIx} {s : State} {c : QCell} {rest : List QCell} (h : (s.stream i).queue = c :: rest) :
    (sendStream i s).flk.tx = some (c.sent i (s.stream i).seq s.cbm.mem) :=
  congrArg (fun t : State => t.flk.tx) (sendStream_does h).rest

/-- Every slot carries a cell (R139). -/
theorem sendChoice_tx (x : Choice) (s : State) : ∃ c, (sendChoice x s).flk.tx = some c := by
  have hstream (i : StreamIx) (u : State) : ∃ c, (sendStream i u).flk.tx = some c := by
    cases hqueue : (u.stream i).queue with
    | nil => exact ⟨_, by rw [sendStream_of_empty hqueue]; rfl⟩
    | cons c rest => exact ⟨_, sendStream_tx hqueue⟩
  unfold sendChoice
  split
  · exact ⟨_, rfl⟩
  · obtain ⟨c, htx, -⟩ := sendMgmt_sends s
    exact ⟨c, htx⟩
  · exact hstream ..
  · exact hstream ..

/-- A slot's cell sets no factor but those of CBM. -/
theorem sendChoice_has (x : Choice) (s : State) {f : Factor} (hwrap : f ≠ .cbmWrap) (hclosed : f ≠ .cbmStreamClosed) :
    (sendChoice x s).evu.has f = s.evu.has f := by
  have hstream (i : StreamIx) (u : State) : (sendStream i u).evu.has f = u.evu.has f := by
    cases hqueue : (u.stream i).queue with
    | nil =>
      rw [sendStream_of_empty hqueue]
      rfl
    | cons c rest =>
      rw [(sendStream_does hqueue).raised.factors f, decide_eq_false, Bool.or_false]
      rw [List.mem_append, not_or]
      constructor
      · rw [wrapsAt]
        split <;> simp [hwrap]
      · split <;> simp [hclosed]
  unfold sendChoice
  split
  · rfl
  · unfold sendMgmt
    split <;> rfl
  · exact hstream _ s
  · exact hstream ..

/-! ### The advance (R141) -/

theorem Scd.advanced_slotPtr (c : Scd) : c.advanced.slotPtr.val = (c.slotPtr.val + 1) % 256 := Fin.val_add ..

theorem Scd.advanced_sparePtr (c : Scd) : c.advanced.sparePtr = c.sparePtr := by
  unfold Scd.advanced
  split <;> rfl

theorem Scd.wraps_iff (c : Scd) : c.Wraps ↔ c.slotPtr.val = 255 ∧ c.swapPending = true := by
  rw [Scd.Wraps, Fin.ext_iff]
  rfl

/-- A swap at the calendar wrap. -/
theorem takeSlot_swaps {s : State} (h : s.scd.Wraps) :
    (takeSlot s).scd.active = s.scd.shadow ∧ (takeSlot s).scd.shadow = s.scd.active ∧ (takeSlot s).scd.swapPending = false ∧
      (takeSlot s).evu.has .ctlCalSwapped = true := by
  have hadvance : takeSlot s = exchangeCalendars (sendChoice (chooseCell s) s).nextSlot := by
    refine if_pos ?_
    rw [sendChoice_scd]
    exact h
  have hset : (takeSlot s).evu.has .ctlCalSwapped = true := by
    rw [hadvance]
    exact (setFactor_raised ..).has_of_mem (List.mem_singleton_self _)
  rw [takeSlot_scd, Scd.advanced, if_pos h]
  exact ⟨rfl, rfl, rfl, hset⟩

/-- Any other advance leaves the calendars. -/
theorem takeSlot_keeps {s : State} (h : ¬ s.scd.Wraps) :
    (takeSlot s).scd.active = s.scd.active ∧ (takeSlot s).scd.shadow = s.scd.shadow ∧ (takeSlot s).scd.swapPending = s.scd.swapPending ∧
      (takeSlot s).evu.has .ctlCalSwapped = s.evu.has .ctlCalSwapped := by
  have hadvance : takeSlot s = (sendChoice (chooseCell s) s).nextSlot := by
    refine advanceSlot_of_no_swap ?_
    rw [sendChoice_scd]
    exact h
  have hset : (takeSlot s).evu.has .ctlCalSwapped = s.evu.has .ctlCalSwapped := by
    rw [hadvance]
    exact sendChoice_has _ s nofun nofun
  rw [takeSlot_scd, Scd.advanced, if_neg h]
  exact ⟨rfl, rfl, rfl, hset⟩

theorem takeSlot_slotPtr (s : State) : (takeSlot s).scd.slotPtr.val = (s.scd.slotPtr.val + 1) % 256 := by
  rw [takeSlot_scd, Scd.advanced_slotPtr]

theorem exec_calendarSwap {s : State} (htx : s.flk.tx = none) (h : s.scd.Wraps) : exec .calendarSwap s = .next (takeSlot s) := by
  obtain ⟨hptr, hpending⟩ := h
  simp [exec, execCalendarSwap, htx, hptr, hpending]

/-- Settles O29: the advance with and without a swap at the wrap, which CALENDAR_SWAP shares with CELL_SLOT. -/
theorem slotPointerAndSwap : Obligations.SlotPointerAndSwap := by
  refine ⟨fun s htx => ⟨_, exec_cellSlot_takeSlot htx, takeSlot_slotPtr s, ?_⟩, fun s htx hptr hpending => ?_⟩
  · split
    · exact takeSlot_swaps ((Scd.wraps_iff _).2 ‹_›)
    · exact takeSlot_keeps (mt (Scd.wraps_iff _).1 ‹_›)
  · have hwraps : s.scd.Wraps := (Scd.wraps_iff _).2 ⟨hptr, hpending⟩
    refine ⟨_, exec_calendarSwap htx hwraps, exec_cellSlot_takeSlot htx, ?_, ?_, takeSlot_swaps hwraps⟩
    · obtain ⟨c, hsent⟩ := sendChoice_tx (chooseCell s) s
      rw [takeSlot_flk, hsent]
      nofun
    · rw [takeSlot_slotPtr, hptr]

end Sys2Proof.Machine
end

section
/-! PROOFS. Spare slots: the rotation of the spare-eligible streams (O28). -/

namespace Sys2Proof.Machine

/-! ### The rotation (R138) -/

theorem rotation_getElem (ptr : StreamIx) {n : Nat} (h : n < (rotation ptr).length) :
    (rotation ptr)[n] = ptr + 1 + ⟨n, by simpa [rotation] using h⟩ := by simp [rotation]

/-- The place of a stream in the rotation is its distance from the stream after the pointer. -/
theorem rotation_find_first {ptr i : StreamIx} {p : StreamIx → Bool} (hi : p i = true)
    (hfirst : ∀ j, p j = true → (i - (ptr + 1)).val ≤ (j - (ptr + 1)).val) : (rotation ptr).find? p = some i := by
  rw [List.find?_eq_some_iff_getElem]
  refine ⟨hi, (i - (ptr + 1)).val, by simp [rotation], ?_, fun j hj => ?_⟩
  · rw [rotation_getElem]
    exact add_sub_cancel ..
  · rw [Bool.not_eq_true', ← Bool.not_eq_true]
    intro hready
    have hle := hfirst _ hready
    rw [rotation_getElem, add_sub_cancel_left] at hle
    exact absurd hj (Nat.not_lt.2 hle)

/-- A ready spare-eligible stream, as the statement has it. -/
theorem spareReady_iff (s : State) (i : StreamIx) :
    s.spareReady i = true ↔ (s.stream i).spare = true ∧ (s.stream i).state ≠ .closed ∧ (s.stream i).queue ≠ [] := by
  simp [State.spareReady, State.hasCell]

/-! ### The choice in a spare slot (R137, R138) -/

/-- The slot under the slot pointer is spare: unassigned, or its owner has nothing to send. -/
def State.InSpareSlot (s : State) : Prop :=
  s.scd.active[s.scd.slotPtr] = .none ∨ (s.scd.active[s.scd.slotPtr] = .mgmt ∧ s.mge.output = []) ∨
    ∃ i, s.scd.active[s.scd.slotPtr] = .stream i ∧ ((s.stream i).state = .closed ∨ (s.stream i).queue = [] ∨ s.flk.held = true)

theorem chooseCell_spare {s : State} (hsync : s.flk.rx = .sync) (h : s.InSpareSlot) : chooseCell s = chooseSpare s := by
  rw [chooseCell, if_neg (not_not.2 hsync)]
  obtain hslot | ⟨hslot, hout⟩ | ⟨i, hslot, hidle⟩ := h
  · rw [hslot]
  · rw [hslot]
    exact if_neg (not_not.2 hout)
  · rw [hslot]
    refine if_neg ?_
    obtain hclosed | hempty | hheld := hidle
    · simp [State.hasCell, hclosed]
    · simp [State.hasCell, hempty]
    · simp [hheld]

theorem chooseSpare_mgmt {s : State} (h : s.mge.output ≠ []) : chooseSpare s = .mgmt := if_pos h

theorem chooseSpare_stream {s : State} {i : StreamIx} (hout : s.mge.output = []) (hheld : s.flk.held = false) (hi : s.spareReady i = true)
    (hfirst : ∀ j, s.spareReady j = true → (i - (s.scd.sparePtr + 1)).val ≤ (j - (s.scd.sparePtr + 1)).val) :
    chooseSpare s = .stream i true := by
  rw [chooseSpare, if_neg (not_not.2 hout), if_neg (by rw [hheld]; nofun), rotation_find_first hi hfirst]

theorem chooseSpare_idle {s : State} (hout : s.mge.output = []) (h : s.flk.held = true ∨ ∀ i, s.spareReady i ≠ true) :
    chooseSpare s = .idle := by
  rw [chooseSpare, if_neg (not_not.2 hout)]
  split
  · rfl
  · have hnone : (rotation s.scd.sparePtr).find? s.spareReady = none := List.find?_eq_none.2 fun i _ => h.resolve_left ‹_› i
    rw [hnone]

/-! ### What the choice leaves of the streams and the spare pointer -/

/-- The spare pointer at stream `i`. -/
def State.withSparePtr (s : State) (i : StreamIx) : State := { s with scd := { s.scd with sparePtr := i } }

theorem sendChoice_spare (i : StreamIx) (s : State) : sendChoice (.stream i true) s = sendStream i (s.withSparePtr i) := rfl

theorem sendStream_stream_ne {i j : StreamIx} (h : j ≠ i) (s : State) : (sendStream i s).stream j = s.stream j := by
  cases hqueue : (s.stream i).queue with
  | nil =>
    rw [sendStream_of_empty hqueue]
    rfl
  | cons c rest =>
    rw [← withReportsOf_stream _ s, (sendStream_does hqueue).rest]
    exact State.setStream_stream_ne _ _ _ _ h

/-- A stream without a cell stays as it is. -/
theorem sendChoice_stream_of_empty {i : StreamIx} {s : State} (h : (s.stream i).queue = []) (x : Choice) :
    (sendChoice x s).stream i = s.stream i := by
  have hstream (j : StreamIx) (u : State) (hu : u.stream i = s.stream i) : (sendStream j u).stream i = s.stream i := by
    by_cases hj : i = j
    · subst hj
      rw [sendStream_of_empty (by rw [hu, h])]
      exact hu
    · exact (sendStream_stream_ne hj u).trans hu
  unfold sendChoice
  split
  · rfl
  · unfold sendMgmt
    split <;> rfl
  · exact hstream _ s rfl
  · exact hstream _ _ rfl

/-- The head of the queue leaves it. -/
theorem sendStream_queue {i : StreamIx} {s : State} {c : QCell} {rest : List QCell} (h : (s.stream i).queue = c :: rest) :
    ((sendStream i s).stream i).queue = rest := by
  have hstream : (sendStream i s).stream i = (s.stream i).sent c rest := by
    rw [← withReportsOf_stream _ s, (sendStream_does h).rest]
    exact State.setStream_stream_self ..
  rw [hstream, Stream.sent_eq]

theorem takeSlot_stream (s : State) (i : StreamIx) : (takeSlot s).stream i = (sendChoice (chooseCell s) s).stream i := by
  rw [State.stream, State.stream, takeSlot_cbm]

theorem takeSlot_sparePtr (s : State) : (takeSlot s).scd.sparePtr = (chooseCell s).sparePtr s.scd.sparePtr := by
  rw [takeSlot_scd, Scd.advanced_sparePtr]

/-- Settles O28: the slot of an owner, a stream without a cell, and the three outcomes of a spare slot. -/
theorem spareSlotRotates : Obligations.SpareSlotRotates := by
  refine ⟨fun s i htx hsync hslot hstate hqueue hheld => ⟨_, exec_cellSlot_takeSlot htx, ?_⟩,
    fun s i htx hqueue => ⟨_, exec_cellSlot_takeSlot htx, ?_⟩, fun s htx hsync hspare => ?_⟩
  · rw [takeSlot_sparePtr, chooseCell_owner hsync hslot hstate hqueue hheld]
    rfl
  · rw [takeSlot_stream, sendChoice_stream_of_empty hqueue]
  · intro ready
    have hchoice := chooseCell_spare hsync hspare
    refine ⟨_, exec_cellSlot_takeSlot htx, fun c rest hout => ?_, fun i hout hheld hi hfirst => ?_, fun hout hnone => ?_⟩
    · rw [takeSlot_flk, takeSlot_sparePtr, takeSlot_cbm, hchoice, chooseSpare_mgmt (by rw [hout]; nofun), sendChoice, sendMgmt_cons hout]
      exact ⟨rfl, rfl, rfl⟩
    · have hstream : chooseSpare s = .stream i true :=
        chooseSpare_stream hout hheld ((spareReady_iff s i).2 hi) fun j hj => hfirst j ((spareReady_iff s j).1 hj)
      obtain ⟨-, -, hcells⟩ := hi
      obtain ⟨c, rest, hqueue⟩ := List.exists_cons_of_ne_nil hcells
      have hmoved : ((s.withSparePtr i).stream i).queue = c :: rest := hqueue
      refine ⟨?_, c, rest, hqueue, ?_, ?_, fun j hj => ?_⟩
      · rw [takeSlot_sparePtr, hchoice, hstream]
        rfl
      · rw [takeSlot_stream, hchoice, hstream, sendChoice_spare, sendStream_queue hmoved]
      · rw [takeSlot_flk, hchoice, hstream, sendChoice_spare, sendStream_tx hmoved]
        rfl
      · rw [takeSlot_stream, hchoice, hstream, sendChoice_spare, sendStream_stream_ne hj]
        rfl
    · rw [takeSlot_flk, takeSlot_sparePtr, takeSlot_cbm, hchoice,
        chooseSpare_idle hout (hnone.imp_right fun h i hi => h i ((spareReady_iff s i).1 hi))]
      exact ⟨rfl, rfl, rfl⟩

end Sys2Proof.Machine
end

section
/-! PROOFS. WRITE_CAL and CAL_SWAP: the run of shadow slots, and the two answers (O41). -/

namespace Sys2Proof.Machine

/-! ### A run of slots (R142) -/

/-- Slots written upward from slot `n`, past slot 255 on at slot 0 (R142). -/
def writeRun (n : Nat) : List Slot → Vector Slot 256 → Vector Slot 256
  | [], v => v
  | x :: rest, v => writeRun (n + 1) rest (v.set (n % 256) x (Nat.mod_lt _ (by decide)))

theorem writeRun_outside {n : Nat} {xs : List Slot} {v : Vector Slot 256} {i : Fin 256} (h : ∀ k < xs.length, i.val ≠ (n + k) % 256) :
    (writeRun n xs v)[i] = v[i] := by
  induction xs generalizing n v with
  | nil => rfl
  | cons x rest ih =>
    have hfirst : n % 256 ≠ i.val := (h 0 (Nat.zero_lt_succ _)).symm
    have hrest : ∀ k < rest.length, i.val ≠ (n + 1 + k) % 256 := fun k hk => by
      rw [Nat.add_right_comm]
      exact h (k + 1) (Nat.succ_lt_succ hk)
    rw [writeRun, ih hrest]
    exact Vector.getElem_set_ne _ _ hfirst

/-- In a run no longer than the calendar, each value stands at its slot. -/
theorem writeRun_inside {n : Nat} {xs : List Slot} {v : Vector Slot 256} (hlen : xs.length ≤ 256) {i : Fin 256} {k : Nat} (hk : k < xs.length)
    (hi : i.val = (n + k) % 256) : (writeRun n xs v)[i] = xs[k] := by
  induction xs generalizing n v k with
  | nil => exact absurd hk (Nat.not_lt_zero k)
  | cons x rest ih =>
    rw [List.length_cons] at hlen hk
    rw [writeRun]
    cases k with
    | zero =>
      have hlater : ∀ j < rest.length, i.val ≠ (n + 1 + j) % 256 := fun j hj => by omega
      rw [writeRun_outside hlater]
      simp [hi]
    | succ k => exact ih (by omega) (by omega) (by omega)

/-- What WRITE_CAL's values make of SCD. -/
theorem foldl_setShadow (n : Nat) (values : List Byte) (k : Nat) (s : State) :
    (values.zipIdx k).foldl (fun t (b, j) => setShadow (n + j) (Slot.ofCode b.toNat) t) s =
      { s with scd := { s.scd with shadow := writeRun (n + k) (values.map fun b => Slot.ofCode b.toNat) s.scd.shadow } } := by
  induction values generalizing k s with
  | nil => rfl
  | cons b rest ih =>
    rw [List.zipIdx_cons, List.foldl_cons, ih]
    rfl

/-! ### The request's values (R122) -/

/-- The values of a WRITE_CAL: as many bytes from offset 6 as it counts. -/
def calValues (r : Request) : List Byte := (reqValues r).take (reqNat r 4)

theorem answerWriteCal_eq (r : Request) (s : State) :
    answerWriteCal r s =
      if s.scd.swapPending then refuse .busy s
      else if reqNat r 4 = 0 ∨ 48 < reqNat r 4 ∨ (calValues r).any (fun b => decide (17 < b.toNat)) = true then refuse .badValue s
      else okay { s with scd :=
        { s.scd with shadow := writeRun (reqNat r 3) ((calValues r).map fun b => Slot.ofCode b.toNat) s.scd.shadow } } := by
  rw [answerWriteCal]
  dsimp only
  rw [foldl_setShadow]
  rfl

theorem length_calValues {r : Request} (hlen : r.length = 56) (hcount : reqNat r 4 ≤ 48) : (calValues r).length = reqNat r 4 := by
  rw [calValues, reqValues, List.length_take, List.length_drop, hlen]
  omega

theorem calValues_getElem {r : Request} {k : Nat} (hk : k < (calValues r).length) : (calValues r)[k] = byteAt r (6 + k) := by
  have hin : 6 + k < r.length := by
    simp only [calValues, reqValues, List.length_take, List.length_drop] at hk
    omega
  simp [calValues, reqValues, byteAt, hin]

/-- The checks of a WRITE_CAL (R142). -/
theorem calValues_bad_iff {r : Request} (hlen : r.length = 56) :
    (reqNat r 4 = 0 ∨ 48 < reqNat r 4 ∨ (calValues r).any (fun b => decide (17 < b.toNat)) = true) ↔
      ¬ (1 ≤ reqNat r 4 ∧ reqNat r 4 ≤ 48 ∧ ∀ k < reqNat r 4, (byteAt r (6 + k)).toNat ≤ 17) := by
  by_cases hcount : reqNat r 4 ≤ 48
  · have hlength := length_calValues hlen hcount
    have hvalues : (calValues r).any (fun b => decide (17 < b.toNat)) = true ↔ ∃ k, k < reqNat r 4 ∧ 17 < (byteAt r (6 + k)).toNat := by
      rw [List.any_eq_true]
      constructor
      · rintro ⟨b, hb, hbig⟩
        obtain ⟨k, hk, rfl⟩ := List.mem_iff_getElem.1 hb
        rw [calValues_getElem] at hbig
        exact ⟨k, hlength ▸ hk, of_decide_eq_true hbig⟩
      · rintro ⟨k, hk, hbig⟩
        rw [← hlength] at hk
        exact ⟨_, List.getElem_mem hk, by rw [calValues_getElem]; exact decide_eq_true hbig⟩
    rw [hvalues]
    push Not
    constructor
    · rintro (hzero | hmany | ⟨k, hk, hbig⟩) hone -
      · omega
      · omega
      · exact ⟨k, hk, hbig⟩
    · intro h
      by_cases hzero : reqNat r 4 = 0
      · exact .inl hzero
      · exact .inr (.inr (h (by omega) hcount))
  · have hmany : 48 < reqNat r 4 := Nat.not_le.1 hcount
    exact ⟨fun _ ⟨_, h, _⟩ => hcount h, fun _ => .inr (.inl hmany)⟩

theorem exec_writeCal {s : State} {r : Request} {rest : List Request} (h : s.offers r rest) (hop : reqOp r = 3) :
    exec .writeCal s = .next (placeResponse false r (answerWriteCal r (s.popped rest))) :=
  congrArg Host.Outcome.next (takeRow_op h false hop answerWriteCal)

theorem exec_calSwap {s : State} {r : Request} {rest : List Request} (h : s.offers r rest) (hop : reqOp r = 8) :
    exec .calSwap s = .next (placeResponse false r (answerCalSwap r (s.popped rest))) :=
  congrArg Host.Outcome.next (takeRow_op h false hop answerCalSwap)

/-- A calendar holds a slot in its list of slots just when it holds it at an index. -/
theorem mem_calendar_iff {x : Slot} {v : Vector Slot 256} : x ∈ v.toList ↔ ∃ n : Fin 256, v[n] = x := by
  rw [Vector.mem_toList_iff, Vector.mem_iff_getElem]
  exact ⟨fun ⟨n, hn, hx⟩ => ⟨⟨n, hn⟩, hx⟩, fun ⟨n, hx⟩ => ⟨n.val, n.isLt, hx⟩⟩

/-- Settles O41: the run of WRITE_CAL value by value, and the one check of CAL_SWAP. -/
theorem calendarRequests : Obligations.CalendarRequests := by
  intro s r rest hoffer hlen count
  refine ⟨?_, fun hop => ?_⟩
  · intro hop good
    have hgood : (reqNat r 4 = 0 ∨ 48 < reqNat r 4 ∨ (calValues r).any (fun b => decide (17 < b.toNat)) = true) ↔ ¬ good :=
      calValues_bad_iff hlen
    have hbusy : (s.popped rest).scd.swapPending = s.scd.swapPending := rfl
    rw [exec_writeCal hoffer hop, answerWriteCal_eq, hbusy]
    refine ⟨fun hpending => ?_, fun hidle hbad => ?_, fun hidle hok => ?_⟩
    · rw [if_pos hpending, placeResponse_refuse r .busy _ nofun]
      rfl
    · rw [if_neg (by rw [hidle]; nofun), if_pos (hgood.2 hbad), placeResponse_refuse r .badValue _ nofun]
      rfl
    · rw [if_neg (by rw [hidle]; nofun), if_neg (mt hgood.1 (not_not.2 hok)), placeResponse_okay]
      obtain ⟨-, hmany, -⟩ := hok
      have hlength : ((calValues r).map fun b => Slot.ofCode b.toNat).length = count := by
        rw [List.length_map, length_calValues hlen hmany]
      refine ⟨_, rfl, fun k hk n hn => ?_, fun n hn => ?_⟩
      · rw [writeRun_inside (by omega) (hlength.symm ▸ hk) hn, List.getElem_map, calValues_getElem]
        rfl
      · exact writeRun_outside (by rwa [hlength])
  · have hmgmt : Slot.mgmt ∈ s.scd.shadow.toList ↔ ∃ n : Fin 256, s.scd.shadow[n] = .mgmt := mem_calendar_iff
    have hanswer : answerCalSwap r (s.popped rest) =
      if s.scd.swapPending then refuse .busy (s.popped rest)
      else if ¬ Slot.mgmt ∈ s.scd.shadow.toList then refuse .badValue (s.popped rest)
      else okay ({ s with scd := { s.scd with swapPending := true } }.popped rest) := rfl
    rw [exec_calSwap hoffer hop, hanswer]
    refine ⟨fun hpending => ?_, fun hidle hnone => ?_, fun hidle hsome => ?_⟩
    · rw [if_pos hpending, placeResponse_refuse r .busy _ nofun]
      rfl
    · rw [if_neg (by rw [hidle]; nofun), if_pos (mt hmgmt.1 (not_exists.2 hnone)), placeResponse_refuse r .badValue _ nofun]
      rfl
    · rw [if_neg (by rw [hidle]; nofun), if_neg (not_not.2 (hmgmt.2 hsome)), placeResponse_okay]
      rfl

end Sys2Proof.Machine
end

section
/-! PROOFS. The MGMT slot of the active calendar, kept by every command and by every step (O57). -/

namespace Sys2Proof.Machine

/-! ### The law as a law of SCD (R144) -/

theorem CalendarLaw.of_scd {s t : State} (hs : CalendarLaw s) (h : t.scd = s.scd) : CalendarLaw t := by
  unfold CalendarLaw
  rw [h]
  exact hs

/-- A shadow calendar that waits for no swap is free. -/
theorem CalendarLaw.of_active {s t : State} (hs : CalendarLaw s) (hactive : t.scd.active = s.scd.active)
    (hpending : t.scd.swapPending = false) : CalendarLaw t := by
  refine ⟨?_, fun h => absurd h (by rw [hpending]; nofun)⟩
  rw [hactive]
  exact hs.1

/-- The start of a slot: a swap brings in the shadow calendar, which holds a MGMT slot. -/
theorem takeSlot_calendarLaw {s : State} (hs : CalendarLaw s) : CalendarLaw (takeSlot s) := by
  by_cases hwraps : s.scd.Wraps
  · obtain ⟨hactive, -, hpending, -⟩ := takeSlot_swaps hwraps
    refine ⟨?_, fun h => absurd h (by rw [hpending]; nofun)⟩
    rw [hactive]
    exact hs.2 hwraps.2
  · obtain ⟨hactive, hshadow, hpending, -⟩ := takeSlot_keeps hwraps
    unfold CalendarLaw
    rw [hactive, hshadow, hpending]
    exact hs

/-! ### The requests that change a calendar (R142-R144) -/

theorem answerWriteShadow_calendarLaw (r : Request) {s : State} (hs : CalendarLaw s) : CalendarLaw (answerWriteShadow r s).after := by
  unfold answerWriteShadow
  dsimp only
  split
  · exact hs
  · rename_i hidle
    split
    · exact hs
    · change CalendarLaw (stored _ 0 s _)
      unfold stored
      split
      · exact hs
      · exact hs.of_active rfl (Bool.not_eq_true _ ▸ hidle)

theorem answerWritePlain_calendarLaw (r : Request) {s : State} (hs : CalendarLaw s) : CalendarLaw (answerWritePlain r s).after := by
  by_cases htable : reqTable r = 4
  · have hshadow : answerWritePlain r s = answerWriteShadow r s := by
      rw [answerWritePlain, htable]
      rfl
    rw [hshadow]
    exact answerWriteShadow_calendarLaw r hs
  · exact hs.of_scd (answerWritePlain_scd htable s)

theorem answerWriteCal_calendarLaw (r : Request) {s : State} (hs : CalendarLaw s) : CalendarLaw (answerWriteCal r s).after := by
  rw [answerWriteCal_eq]
  split
  · exact hs
  · rename_i hidle
    split
    · exact hs
    · exact hs.of_active rfl (Bool.not_eq_true _ ▸ hidle)

/-- CAL_SWAP asks the shadow calendar for the MGMT slot that the law will need. -/
theorem answerCalSwap_calendarLaw (r : Request) {s : State} (hs : CalendarLaw s) : CalendarLaw (answerCalSwap r s).after := by
  unfold answerCalSwap
  split
  · exact hs
  · split
    · exact hs
    · rename_i hmgmt
      exact ⟨hs.1, fun _ => mem_calendar_iff.1 (not_not.1 hmgmt)⟩

/-! ### Every command -/

/-- A management row (R149). -/
theorem takeRow_calendarLaw (isReset : Bool) (accepts : Request → Bool) {owner : Request → State → Answer}
    (h : ∀ r s, CalendarLaw s → CalendarLaw (owner r s).after) {s : State} (hs : CalendarLaw s) :
    CalendarLaw (takeRow isReset accepts owner s) := by
  unfold takeRow
  split
  · exact hs
  · split
    · rename_i r rest _ _
      have hpopped : CalendarLaw (s.popped rest) := hs.of_scd rfl
      exact (h r _ hpopped).of_scd rfl
    · exact hs

/-- A row whose owner leaves SCD as it is. -/
theorem takeRow_scd (isReset : Bool) (accepts : Request → Bool) {owner : Request → State → Answer}
    (h : ∀ r s, (owner r s).after.scd = s.scd) (s : State) : (takeRow isReset accepts owner s).scd = s.scd := by
  unfold takeRow
  split
  · rfl
  · exact ite_scd (fun _ => h _ _) (fun _ => rfl)

/-- The commands that may change SCD: the resets, the start of a slot, and the requests that write a calendar or ask for the swap. -/
def ofCalendar : Instr → Bool
  | .powerOn | .cellSlot | .calendarSwap | .write | .writeCal | .calSwap | .softResetCarriedOut => true
  | _ => false

/-- Every other command leaves SCD as it is. -/
theorem exec_scd (i : Instr) (hi : ofCalendar i = false) {s t : State} (h : exec i s = .next t) : t.scd = s.scd := by
  have hnext {u v : State} (hn : (Host.Outcome.next u : Host.Outcome State Fault Refusal) = .next v) (hu : u.scd = s.scd) :
      v.scd = s.scd := by
    cases hn
    exact hu
  cases i with
  | powerOn | cellSlot | calendarSwap | write | writeCal | calSwap | softResetCarriedOut => nomatch hi
  | beltTick step dir => exact hnext h ((deliverF_scd ..).trans (beltWork_scd step dir s))
  | stall => exact hnext h (ite_scd (fun _ => (countInterval_beltStep s).scd) (fun _ => rfl))
  | triggerTick lines => exact hnext h (triggerTick_scd lines s)
  | pulseEnd p => exact hnext h (ite_scd (fun _ => rfl) (fun _ => rfl))
  | rearmGapEnd p => exact hnext h (ite_scd (fun _ => rfl) (fun _ => rfl))
  | idleWord p parity value => exact hnext h (ite_scd (fun _ => rfl) fun _ => ite_scd (fun _ => rfl) (fun _ => parityError_scd p s))
  | frameStart p parity value =>
    refine hnext h (ite_scd (fun _ => rfl) fun _ => ite_scd (fun _ => parityError_scd p s) fun _ => ?_)
    split
    · exact (beginFrame_scd ..).trans ((abortFrame_scd ..).trans (framingError_scd p s))
    · exact (beginFrame_scd ..).trans (framingError_scd p s)
    · exact beginFrame_scd ..
    · exact beginFrame_scd ..
  | lineStart p parity value =>
    refine hnext h (ite_scd (fun _ => rfl) fun _ => ite_scd (fun _ => parityError_scd p s) fun _ => ?_)
    split
    · exact framingError_scd p s
    all_goals rfl
  | data p parity value =>
    have hparity : (if parityGood parity 3 value then s else parityError p s).scd = s.scd :=
      ite_scd (fun _ => rfl) (fun _ => parityError_scd p s)
    refine hnext h (ite_scd (fun _ => rfl) fun _ => ?_)
    dsimp only
    split
    · exact (framingError_scd ..).trans hparity
    · split
      · exact (takeData_scd ..).trans hparity
      · exact hparity
    all_goals exact hparity
  | frameEnd p parity value =>
    refine hnext h (ite_scd (fun _ => rfl) fun _ => ite_scd (fun _ => parityError_scd p s) fun _ => ?_)
    split
    · exact framingError_scd p s
    · split
      · exact closeFrame_scd ..
      · rfl
    all_goals rfl
  | undefinedKindWord p kind parity value =>
    exact hnext h (ite_scd (fun _ => rfl) fun _ => ite_scd (fun _ => framingError_scd p s) (fun _ => parityError_scd p s))
  | exposureExpiry p =>
    change execExposureExpiry p s = .next t at h
    unfold execExposureExpiry at h
    split at h
    · exact hnext h rfl
    · exact hnext h (by simp)
  | transmissionEnd => exact transmissionEnd_scd h
  | holdExpiry => exact hnext h (takeDueExpiry_scd s)
  | delimiterFound light => exact hnext h (ite_scd (fun _ => rfl) (fun _ => rfl))
  | lossOfLight =>
    refine hnext h ?_
    split
    · exact leaveSync_scd s
    · rfl
    · rfl
  | badCell cell => exact hnext h (ite_scd (fun _ => takeBadCell_scd s) (fun _ => rfl))
  | idleCell cell => exact hnext h (goodCell_scd (fun _ => rfl) s)
  | hold cell => exact hnext h (goodCell_scd takeHold_scd s)
  | resume cell => exact hnext h (goodCell_scd takeResume_scd s)
  | mgmtReq cell => exact hnext h (goodCell_scd (takeRequest_scd _) s)
  | badOp => exact hnext h (takeRow_scd _ _ (fun _ _ => rfl) s)
  | read => exact hnext h (takeRow_scd _ _ answerRead_scd s)
  | writeBelt => exact hnext h (takeRow_scd _ _ answerWriteBelt_scd s)
  | writeTrigger => exact hnext h (takeRow_scd _ _ answerWriteTrigger_scd s)
  | writeSensor => exact hnext h (takeRow_scd _ _ answerWriteSensor_scd s)
  | writePort => exact hnext h (takeRow_scd _ _ answerWritePort_scd s)
  | writeRelay => exact hnext h (takeRow_scd _ _ answerWriteRelay_scd s)
  | writeEvent => exact hnext h (takeRow_scd _ _ answerWriteEvent_scd s)
  | readCounters => exact hnext h (takeRow_scd _ _ answerReadCounters_scd s)
  | clearEvents => exact hnext h (takeRow_scd _ _ answerClearEvents_scd s)
  | openStream => exact hnext h (takeRow_scd _ _ (streamCmd_scd answerOpen_scd) s)
  | closeStream => exact hnext h (takeRow_scd _ _ (streamCmd_scd answerClose_scd) s)
  | flushStream => exact hnext h (takeRow_scd _ _ (streamCmd_scd answerFlush_scd) s)
  | enablePort => exact hnext h (takeRow_scd _ _ (portCmd_scd enableSteps_scd) s)
  | disablePort => exact hnext h (takeRow_scd _ _ (portCmd_scd disableSteps_scd) s)
  | setLevel => exact hnext h (takeRow_scd _ _ answerSetLevel_scd s)
  | beltPreset => exact hnext h (takeRow_scd _ _ answerBeltPreset_scd s)
  | relay => exact hnext h (takeRow_scd _ _ answerRelay_scd s)
  | status => exact hnext h (takeRow_scd _ _ (fun _ _ => rfl) s)
  | softReset => exact hnext h (takeRow_scd _ _ (fun _ _ => rfl) s)
  | relayEngineTake =>
    change execRelayEngineTake s = .next t at h
    unfold execRelayEngineTake at h
    split at h
    · exact hnext h rfl
    · exact hnext h rfl
  | relayTick clk dat =>
    change execRelayTick clk dat s = .next t at h
    unfold execRelayTick at h
    split at h
    · exact hnext h rfl
    · exact hnext h (txnTick_scd ..)
  | deferTimeout =>
    change execDeferTimeout s = .next t at h
    unfold execDeferTimeout at h
    split at h
    · exact hnext h rfl
    · exact hnext h (ite_scd (fun _ => rfl) (fun _ => rfl))
  | stallTimeout =>
    change execStallTimeout s = .next t at h
    unfold execStallTimeout at h
    split at h
    · exact hnext h rfl
    · split at h
      · exact hnext h rfl
      · exact hnext h (ite_scd (fun _ => rfl) (fun _ => rfl))
  | relayResult =>
    change execRelayResult s = .next t at h
    unfold execRelayResult at h
    split at h
    · exact hnext h rfl
    · exact hnext h (ite_scd (fun _ => rfl) (fun _ => rfl))
  | settleExpiry => exact hnext h (ite_scd (fun _ => (setFactor_scd ..).trans (settlePorts_scd _ { s with lvc := _ })) (fun _ => rfl))
  | drainComplete => exact hnext h (ite_scd (fun _ => endEmptying_scd s) (fun _ => rfl))
  | drainExpiry order =>
    exact hnext h (ite_scd (fun _ => (endEmptying_scd _).trans ((setFactor_scd ..).trans (forcePorts_scd order s))) (fun _ => rfl))
  | shuttingEnd order => exact hnext h (ite_scd (fun _ => shutPorts_scd order s) (fun _ => rfl))
  | referenceClockPeriod => exact hnext h rfl

/-- Each command keeps the law: those that change SCD one by one. -/
theorem exec_calendarLaw (i : Instr) {s t : State} (hs : CalendarLaw s) (h : exec i s = .next t) : CalendarLaw t := by
  have hnext {u : State} (hn : (Host.Outcome.next u : Host.Outcome State Fault Refusal) = .next t) (hu : CalendarLaw u) :
      CalendarLaw t := by
    cases hn
    exact hu
  have hslot (c : Prop) [Decidable c] : CalendarLaw (if c then takeSlot s else s) := by
    split
    · exact takeSlot_calendarLaw hs
    · exact hs
  cases i with
  | powerOn => exact hnext h (calendarLaw_reset.of_scd rfl)
  | cellSlot => exact hnext h (hslot _)
  | calendarSwap => exact hnext h (hslot _)
  | write => exact hnext h (takeRow_calendarLaw _ _ (fun r _ => answerWritePlain_calendarLaw r) hs)
  | writeCal => exact hnext h (takeRow_calendarLaw _ _ (fun r _ => answerWriteCal_calendarLaw r) hs)
  | calSwap => exact hnext h (takeRow_calendarLaw _ _ (fun r _ => answerCalSwap_calendarLaw r) hs)
  | softResetCarriedOut =>
    refine hnext h ?_
    split
    · have hscd : (softResetAll s).scd = softScd s.scd := by
        rw [softResetAll_eq, setFactor_scd]
        rfl
      exact hs.of_active (by rw [hscd]; rfl) (by rw [hscd]; rfl)
    · exact hs
  | _ => exact hs.of_scd (exec_scd _ rfl h)

/-- Settles O57: the shadow calendar is checked when the swap is asked for, and written by no request until the swap is done. -/
theorem calendarKept : Obligations.CalendarKept := by
  intro s t hlaw hstep
  unfold step at hstep
  split at hstep
  · cases hstep
    exact hlaw
  · rename_i c rest _
    exact exec_calendarLaw c (s := { s with pending := rest }) (hlaw.of_scd rfl) hstep

end Sys2Proof.Machine
end

section
/-! PROOFS. READ_COUNTERS and CLEAR_EVENTS (O35, O36). -/

namespace Sys2Proof.Machine

/-! ### Responses with data (R123, R152) -/

theorem placeResponse_okayData (r : Request) (data : List Byte) (s : State) :
    placeResponse false r (okayData data s) = s.placed (reply r 0 data) := by
  simp [placeResponse, responsePayload, okayData, State.placed, reply, reqTag, Status.code]

/-! ### A group's counters (R159, R190) -/

theorem exec_readCounters {s : State} {r : Request} {rest : List Request} (h : s.offers r rest) (hop : reqOp r = 4) :
    exec .readCounters s = .next (placeResponse false r (answerReadCounters r (s.popped rest))) :=
  congrArg Host.Outcome.next (takeRow_op h false hop answerReadCounters)

theorem groupCounters_popped (group stream : Nat) (s : State) (rest : List Request) :
    groupCounters group stream (s.popped rest) = groupCounters group stream s := rfl

theorem clearCounters_popped (group stream : Nat) (s : State) (rest : List Request) :
    clearCounters group stream (s.popped rest) = (clearCounters group stream s).popped rest := by
  simp only [clearCounters, apply_ite (State.popped · rest)]
  rfl

/-- Groups 2 to 7 are the ports (R190). -/
theorem portOf_group (p : PortIx) : portOf (2 + p.val - 2) = p :=
  Fin.ext (by rw [Nat.add_sub_cancel_left]; exact Nat.mod_eq_of_lt p.isLt)

theorem streamOf_val (i : StreamIx) : streamOf i.val = i := Fin.ext (Nat.mod_eq_of_lt i.isLt)

theorem groupCounters_port (p : PortIx) (stream : Nat) (s : State) :
    groupCounters (2 + p.val) stream s =
      [(s.port p).frames, (s.port p).parityErrors, (s.port p).framingErrors, (s.port p).checksumErrors, (s.port p).orphans,
        (s.port p).missing] := by
  rw [groupCounters, if_neg (by omega), if_neg (by omega), if_pos (by omega), portOf_group]

theorem clearCounters_port (p : PortIx) (stream : Nat) (s : State) :
    clearCounters (2 + p.val) stream s =
      s.setPort p { s.port p with
        frames := 0, parityErrors := 0, framingErrors := 0, checksumErrors := 0, orphans := 0, missing := 0 } := by
  rw [clearCounters, if_neg (by omega), if_neg (by omega), if_pos (by omega), portOf_group]

theorem groupCounters_stream (i : StreamIx) (s : State) :
    groupCounters 8 i.val s =
      [(s.stream i).cellsSent, (s.stream i).framesAdmitted, (s.stream i).framesRejected, (s.stream i).recordsLost] := by
  rw [← congrArg s.stream (streamOf_val i)]
  rfl

theorem clearCounters_stream (i : StreamIx) (s : State) :
    clearCounters 8 i.val s =
      s.setStream i { s.stream i with cellsSent := 0, framesAdmitted := 0, framesRejected := 0, recordsLost := 0 } := by
  conv_rhs => rw [← streamOf_val i]
  rfl

/-- A READ_COUNTERS that passes its checks: the counters as they stand, cleared where the flag is 1 (R159). -/
theorem exec_readCounters_okay {s : State} {r : Request} {rest : List Request} (h : s.offers r rest) (hop : reqOp r = 4)
    (hgroup : reqNat r 2 ≤ 10) (hstream : reqNat r 2 = 8 → reqNat r 3 ≤ 15) (hflag : reqNat r 4 ≤ 1) :
    exec .readCounters s = .next ((if reqNat r 4 = 1 then clearCounters (reqNat r 2) (reqNat r 3) s else s).answered rest
      (reply r 0 ((groupCounters (reqNat r 2) (reqNat r 3) s).flatMap fun x => be 4 x.toNat))) := by
  have hindex : ¬ (10 < reqNat r 2 ∨ reqNat r 2 = 8 ∧ 15 < reqNat r 3) := by omega
  rw [exec_readCounters h hop, answerReadCounters]
  rw [if_neg hindex, if_neg (Nat.not_lt.2 hflag), placeResponse_okayData, groupCounters_popped, clearCounters_popped,
    ← apply_ite (State.popped · rest)]
  rfl

/-- Settles O35: the two checks in order, and one answer for every group. -/
theorem countersRead : Obligations.CountersRead := by
  intro s r rest hoffer hop group flag gives
  refine ⟨fun hbad => ?_, fun hgroup hstream hbad => ?_, fun hflag => ?_⟩
  · rw [exec_readCounters hoffer hop, answerReadCounters]
    rw [if_pos hbad, placeResponse_refuse_popped r .badIndex s rest nofun]
    rfl
  · have hindex : ¬ (10 < reqNat r 2 ∨ reqNat r 2 = 8 ∧ 15 < reqNat r 3) := not_or.2 ⟨Nat.not_lt.2 hgroup, hstream⟩
    rw [exec_readCounters hoffer hop, answerReadCounters]
    rw [if_neg hindex, if_pos hbad, placeResponse_refuse_popped r .badValue s rest nofun]
    rfl
  · have given {n : Nat} {values : List (BitVec 32)} {cleared : State} (hn : group = n) (hle : n ≤ 10) (hstream : n = 8 → reqNat r 3 ≤ 15)
        (hvalues : groupCounters n (reqNat r 3) s = values) (hcleared : clearCounters n (reqNat r 3) s = cleared) :
        gives values cleared := by
      subst hn hvalues hcleared
      exact exec_readCounters_okay hoffer hop hle hstream hflag
    refine ⟨fun h => ?_, fun h => ?_, fun p h => ?_, fun i h hi => ?_, fun h => ?_, fun h => ?_⟩
    · exact given h (by decide) nofun rfl rfl
    · exact given h (by decide) nofun rfl rfl
    · exact given h (by omega) (by omega) (groupCounters_port p _ s) (clearCounters_port p _ s)
    · exact given h (by decide) (fun _ => by omega) (hi ▸ groupCounters_stream i s) (hi ▸ clearCounters_stream i s)
    · exact given h (by decide) nofun rfl rfl
    · exact given h (by decide) nofun rfl rfl

/-! ### Factors cleared (R160, R186, R189) -/

theorem exec_clearEvents {s : State} {r : Request} {rest : List Request} (h : s.offers r rest) (hop : reqOp r = 5) :
    exec .clearEvents s = .next (placeResponse false r (answerClearEvents r (s.popped rest))) :=
  congrArg Host.Outcome.next (takeRow_op h false hop answerClearEvents)

/-- EVU after factors of group `g` are cleared: the group stays reported only if it stays active (R186). -/
def Evu.cleared (e : Evu) (g : GroupIx) (mask : Byte) : Evu :=
  { e with
    factors := e.factors.set g (e.factors[g] &&& ~~~mask)
    reported := e.reported.set g (e.reported[g] && (e.factors[g] &&& ~~~mask &&& e.enables[g] != 0) && e.notice[g]) }

theorem Evu.cleared_isActive (e : Evu) (g : GroupIx) (mask : Byte) :
    (e.cleared g mask).isActive g = ((e.factors[g] &&& ~~~mask &&& e.enables[g] != 0) && e.notice[g]) := by
  simp [Evu.isActive, Evu.summaryBit, Evu.cleared]

theorem Evu.trimReported_cleared (e : Evu) (g : GroupIx) (mask : Byte) :
    Evu.trimReported { e with factors := e.factors.set g (e.factors[g] &&& ~~~mask) } g = e.cleared g mask := by
  simp [Evu.trimReported, Evu.isActive, Evu.summaryBit, Evu.cleared, Bool.and_assoc]

/-- Clearing factors brings no group into the active set. -/
theorem Evu.cleared_not_creates (e : Evu) (g : GroupIx) (mask : Byte) : ¬ e.Creates (e.cleared g mask) g := by
  rintro ⟨hnow, hbefore, -, -⟩
  rw [Evu.cleared_isActive, Bool.and_eq_true, bne_iff_ne] at hnow
  obtain ⟨hleft, hnotice⟩ := hnow
  have hset : e.factors[g] &&& e.enables[g] ≠ 0 := fun hzero => hleft (by
    calc e.factors[g] &&& ~~~mask &&& e.enables[g]
        = e.factors[g] &&& e.enables[g] &&& ~~~mask := by ac_rfl
      _ = 0 := by rw [hzero]; exact BitVec.zero_and)
  have hwas : e.isActive g = true := (Evu.isActive_eq_true e g).2 ⟨hset, hnotice⟩
  rw [hbefore] at hwas
  exact Bool.false_ne_true hwas

theorem evuChanged_cleared (e : Evu) (g : GroupIx) (mask : Byte) (s : State) :
    evuChanged e g { s with evu := { e with factors := e.factors.set g (e.factors[g] &&& ~~~mask) } } =
      { s with evu := e.cleared g mask } := by
  rw [← judgeEntry_of_not_creates (t := { s with evu := e.cleared g mask }) (e.cleared_not_creates g mask), ← Evu.trimReported_cleared]
  rfl

theorem answerClearEvents_at {r : Request} {g : GroupIx} (h : reqNat r 2 = g.val) (s : State) :
    answerClearEvents r s =
      if byteAt r 4 &&& ~~~factorMask g != 0 then refuse .badValue s
      else okay { s with evu := s.evu.cleared g (byteAt r 4) } := by
  have hlt : reqNat r 2 < 11 := h ▸ g.isLt
  obtain rfl : g = ⟨reqNat r 2, hlt⟩ := Fin.ext h.symm
  rw [← evuChanged_cleared, answerClearEvents, dif_pos hlt]

/-- Settles O36: the two checks, and a change of factors that EVU never answers with an event cell. -/
theorem eventsCleared : Obligations.EventsCleared := by
  intro s r rest hoffer hop mask
  refine ⟨fun hgroup => ?_, fun g hg => ?_⟩
  · rw [exec_clearEvents hoffer hop, answerClearEvents, dif_neg (Nat.not_lt.2 hgroup),
      placeResponse_refuse_popped r .badIndex s rest nofun]
    rfl
  · intro defined after
    have hmask : (mask &&& ~~~factorMask g != 0) = true ↔ mask &&& ~~~defined ≠ 0 := by rw [bne_iff_ne, factorMask_eq]
    rw [exec_clearEvents hoffer hop, answerClearEvents_at hg]
    refine ⟨fun hbad => ?_, fun hgood => ?_⟩
    · rw [if_pos (hmask.2 hbad), placeResponse_refuse_popped r .badValue s rest nofun]
      rfl
    · rw [if_neg (mt hmask.1 (not_not.2 hgood)), placeResponse_okay]
      rfl

end Sys2Proof.Machine
end

section
/-! PROOFS. An unknown operation, READ and STATUS: each answers and changes nothing else (O34). -/

namespace Sys2Proof.Machine

/-! ### Takes that only answer (R149, R152) -/

theorem exec_badOp {s : State} {r : Request} {rest : List Request} (h : s.offers r rest) (hop : reqOp r = 0 ∨ 13 < reqOp r) :
    exec .badOp s = .next (s.answered rest (reply r 3)) := by
  have hbad : isBadOp r = true := by simpa [isBadOp] using hop
  calc exec .badOp s
      = .next (placeResponse false r (refuse .badOp (s.popped rest))) :=
        congrArg Host.Outcome.next (takeRow_offers h false hbad fun _ t => refuse .badOp t)
    _ = .next (s.answered rest (reply r 3)) := congrArg Host.Outcome.next (placeResponse_refuse_popped r .badOp s rest nofun)

theorem exec_read {s : State} {r : Request} {rest : List Request} (h : s.offers r rest) (hop : reqOp r = 1) :
    exec .read s = .next (placeResponse false r (answerRead r (s.popped rest))) :=
  congrArg Host.Outcome.next (takeRow_op h false hop answerRead)

theorem exec_status {s : State} {r : Request} {rest : List Request} (h : s.offers r rest) (hop : reqOp r = 12) :
    exec .status s = .next (s.answered rest (reply r 0 (statusData (s.popped rest)))) := by
  calc exec .status s
      = .next (placeResponse false r (okayData (statusData (s.popped rest)) (s.popped rest))) :=
        congrArg Host.Outcome.next (takeRow_op h false hop fun _ t => okayData (statusData t) t)
    _ = .next (s.answered rest (reply r 0 (statusData (s.popped rest)))) := congrArg Host.Outcome.next (placeResponse_okayData r _ _)

/-! ### The checks of a READ (R153) -/

theorem tableEntries_eq_none {table : Nat} (h : 12 ≤ table) : tableEntries table = none := by
  unfold tableEntries
  split
  case h_13 => rfl
  all_goals omega

theorem tableEntries_of_lt {table : Nat} (h : table < 12) :
    tableEntries table = some ([4, 16, 6, 16, 256, 256, 1, 1, 1, 1, 1, 11].getD table 0) := by
  revert h table
  decide

theorem tableData_popped (table index : Nat) (s : State) (rest : List Request) :
    tableData table index (s.popped rest) = tableData table index s := rfl

/-- A READ that its table refuses. -/
theorem exec_read_refuse {s : State} {r : Request} {rest : List Request} (h : s.offers r rest) (hop : reqOp r = 1) (x : Status) (hx : x ≠ .ok)
    (hanswer : answerRead r (s.popped rest) = refuse x (s.popped rest)) : exec .read s = .next (s.answered rest (reply r x.code)) := by
  rw [exec_read h hop, hanswer, placeResponse_refuse_popped r x s rest hx]

/-- A READ of an entry that a table has. -/
theorem exec_read_entry {s : State} {r : Request} {rest : List Request} (h : s.offers r rest) (hop : reqOp r = 1) {table index n : Nat}
    (htable : reqTable r = table) (hindex : reqIndex r = index) (hentries : tableEntries table = some n) (hlt : index < n) :
    exec .read s = .next (s.answered rest (reply r 0 (tableData table index s))) := by
  subst htable hindex
  have hanswer : answerRead r (s.popped rest) = okayData (tableData (reqTable r) (reqIndex r) s) (s.popped rest) := by
    simp only [answerRead, hentries, if_pos hlt, tableData_popped]
  rw [exec_read h hop, hanswer, placeResponse_okayData]
  rfl

/-! ### The fields of the entries (R23, R29, R61, R110, R143) -/

/-- A flag and a value of 40 bits that is present only where the flag is set. -/
theorem presentBytes_eq (f : Option FinePos) :
    flagByte f.isSome :: be 5 (f.getD (BitVec.allOnes 40)).toNat =
      match f with
      | some f => (1 : Byte) :: be 5 f.toNat
      | none => [0, 0xFF, 0xFF, 0xFF, 0xFF, 0xFF] := by
  cases f <;> rfl

theorem flagByte_falling (x : Transition) : flagByte (x == .falling) = if x = .rising then 0 else 1 := by cases x <;> rfl

theorem flagByte_activeLow (x : TrigPolarity) : flagByte (x == .activeLow) = if x = .activeHigh then 0 else 1 := by cases x <;> rfl

theorem flagByte_forwardLow (x : DirPolarity) : flagByte (x == .forwardLow) = if x = .forwardHigh then 0 else 1 := by cases x <;> rfl

theorem readSensor_eq (x : Sensor) :
    readSensor x =
      [flagByte x.enabled, BitVec.ofNat 8 x.depth, if x.transition = .rising then 0 else 1] ++ be 3 x.lockout.toNat ++
        [flagByte x.filter.level] ++
        match x.lastReg with
        | some f => (1 : Byte) :: be 5 f.toNat
        | none => [0, 0xFF, 0xFF, 0xFF, 0xFF, 0xFF] := by
  rw [readSensor, ← presentBytes_eq, flagByte_falling]
  rfl

theorem readPort_eq (p : PortIx) (s : State) :
    readPort p s =
      [if (s.port p).polarity = .activeHigh then (0 : Byte) else 1] ++ be 2 (s.port p).rearmGap.toNat ++
        be 2 (s.port p).exposureTimeout.toNat ++
        [BitVec.ofNat 8 (s.port p).defaultStream.val, flagByte (s.port p).orphanForward, flagByte (s.port p).seqCheck,
          flagByte (s.port p).enabled, (s.port p).state.code, (s.stage p).count, BitVec.ofNat 8 (s.exposures p).length] := by
  rw [readPort]
  rw [flagByte_activeLow]

theorem readStream_eq (x : Stream) :
    readStream x =
      [BitVec.ofNat 8 x.boundPort.val] ++ be 2 x.reservation.toNat ++ [x.maxHeld, flagByte x.spare, x.state.code] ++
        be 3 x.queue.length ++ [BitVec.ofNat 8 x.framesHeld] ++ be 2 x.seq.toNat ++ [x.frameCounter, flagByte x.inProgress] ++
        if x.openTx then [(1 : Byte), x.openTxNo] else [0, 0xFF] := by
  rw [readStream]
  cases x.openTx <;> rfl

theorem readBelt_eq (s : State) :
    readBelt s =
      [BitVec.ofNat 8 s.bpt.tickCode, BitVec.ofNat 8 s.bpt.stepDepth, BitVec.ofNat 8 s.bpt.dirDepth,
          if s.bpt.polarity = .forwardHigh then 0 else 1] ++
        be 4 s.bpt.p.toNat ++ [s.bpt.fraction, flagByte s.bpt.intervalValid] ++ be 3 s.bpt.lastInterval.toNat ++
        [s.bpt.lastDir.code] ++ be 6 s.bpt.lineTime.toNat := by
  rw [readBelt]
  rw [flagByte_forwardLow]

/-- The head of the Trigger Queue, absent where the queue is empty. -/
theorem readTrigger_eq (s : State) :
    readTrigger s =
      [BitVec.ofNat 8 s.trq.tickCode] ++ be 4 s.trq.partCounter.toNat ++ [BitVec.ofNat 8 s.trq.queue.length] ++
        match s.trq.queue with
        | e :: _ => be 5 e.due.toNat ++ be 4 e.part.toNat ++ be 5 e.regF.toNat
        | [] => List.replicate 14 0xFF := by
  rw [readTrigger]
  cases s.trq.queue <;> rfl

/-- The slot `k` places past slot `n`, counted round the calendar. -/
theorem slotAt_add (cal : Vector Slot 256) (n : Fin 256) (k : Nat) : slotAt cal (n.val + k) = cal[n + Fin.ofNat 256 k] := by
  have hplace : (n + Fin.ofNat 256 k).val = (n.val + k) % 256 := by rw [Fin.val_add, Fin.val_ofNat, Nat.add_mod_mod]
  simp only [slotAt, Fin.getElem_fin, hplace]

theorem readCalendar_eq (cal : Vector Slot 256) (n : Fin 256) :
    readCalendar cal n.val = (List.range 48).map fun k => (cal[n + Fin.ofNat 256 k]).code :=
  List.map_congr_left fun k _ => congrArg Slot.code (slotAt_add cal n k)

theorem statusData_popped (s : State) (rest : List Request) :
    statusData (s.popped rest) =
      [s.lvc.level.code, s.flk.rx.code, flagByte s.flk.held] ++ be 3 s.freeCount ++ be 3 s.cbm.reserved ++ be 2 s.evu.summary ++
        [flagByte s.scd.swapPending, flagByte s.ccr.engine.isSome, BitVec.ofNat 8 s.ccr.queue.length, BitVec.ofNat 8 rest.length,
          BitVec.ofNat 8 s.mge.output.length] ++ be 6 s.bpt.lineTime.toNat := rfl

/-- Settles O34: the refusals by their checks, and each table's entry field by field. -/
theorem requestsThatOnlyRead : Obligations.RequestsThatOnlyRead := by
  intro s r rest hoffer level direction receiver
  refine ⟨exec_badOp hoffer, fun hop => ?_, fun hop => ?_⟩
  · intro entries
    refine ⟨fun ht => ?_, fun ht hi => ?_, ?_⟩
    · exact exec_read_refuse hoffer hop .badTable nofun (by simp only [answerRead, tableEntries_eq_none ht])
    · refine exec_read_refuse hoffer hop .badIndex nofun ?_
      rw [answerRead, tableEntries_of_lt ht]
      exact if_neg (Nat.not_lt.2 hi)
    · intro gives slots
      have given {table index n : Nat} {data : List Byte} (ht : reqTable r = table) (hi : reqIndex r = index)
          (hentries : tableEntries table = some n) (hlt : index < n) (hdata : tableData table index s = data) : gives data :=
        hdata ▸ exec_read_entry hoffer hop ht hi hentries hlt
      refine ⟨fun ht n hi => ?_, fun ht n hi => ?_, fun ht p hi => ?_, fun ht i hi => ?_, fun ht n hi => ?_, fun ht n hi => ?_,
        fun ht hi => ?_, fun ht hi => ?_, fun ht hi => ?_, fun ht hi => ?_, fun ht hi => ?_, fun ht g hi => ?_⟩
      · exact given ht hi rfl n.isLt ((dif_pos n.isLt).trans (readSensor_eq _))
      · exact given ht hi rfl n.isLt (dif_pos n.isLt)
      · exact given ht hi rfl p.isLt ((dif_pos p.isLt).trans (readPort_eq p s))
      · exact given ht hi rfl i.isLt ((dif_pos i.isLt).trans (readStream_eq _))
      · exact given ht hi rfl n.isLt (readCalendar_eq s.scd.shadow n)
      · exact given ht hi rfl n.isLt (readCalendar_eq s.scd.active n)
      · exact given ht hi rfl Nat.one_pos (readBelt_eq s)
      · exact given ht hi rfl Nat.one_pos (readTrigger_eq s)
      · exact given ht hi rfl Nat.one_pos rfl
      · exact given ht hi rfl Nat.one_pos rfl
      · exact given ht hi rfl Nat.one_pos rfl
      · exact given ht hi rfl g.isLt (dif_pos g.isLt)
  · rw [exec_status hoffer hop, statusData_popped]
    rfl

end Sys2Proof.Machine
end

section
/-! PROOFS. Relay ticks: the transaction that goes on, the low and the high period of the clock, a held clock, and runs of ticks (O49, O50,
O51). -/

namespace Sys2Proof.Machine

/-! ### The transaction that goes on (R169) -/

/-- Of two ticks of one port's transaction, the second leaves what it alone would leave. -/
theorem goOn_goOn {x y : Txn} (h : y.port = x.port) (v w : Wires) (s : State) : goOn y w (goOn x v s) = goOn y w s := by
  unfold goOn
  rw [h, State.setEngine_setWires, State.setWires_setWires, State.setEngine_setEngine]

theorem State.setWires_self (s : State) (p : PortIx) : s.setWires p (s.wiresOf p) = s := by
  simp [State.setWires, State.wiresOf]

/-- A state whose engine holds `x`, as a state in which `x` goes on. -/
theorem goOn_self {s : State} {x : Txn} (h : s.ccr.engine = some x) : goOn x (s.wiresOf x.port) s = s := by
  rw [goOn, State.setWires_self, ← h, State.setEngine_self]

theorem exec_relayTick {s : State} {x : Txn} (h : s.ccr.engine = some x) (clk dat : Bool) :
    exec (.relayTick clk dat) s = .next (txnTick clk dat x s) := by
  rw [exec, execRelayTick, h]

/-! ### The phases on the line (R169, R172, R175, R177) -/

/-- The phases that drive the clock low for a period before they release it. -/
def RelayPhase.clocked : RelayPhase → Bool
  | .address | .write | .restart | .read | .stop => true
  | .deferring | .lineCheck | .start | .report => false

/-- Whether a phase on the line drives data low. -/
def Txn.dataLow (x : Txn) : Bool :=
  match x.phase with
  | .start | .stop => true
  | .restart => x.holdStep
  | _ => x.drivesData

/-- The phases that drive the clock are those of bits, RESTART and STOP. -/
theorem RelayPhase.clocked_cases {ph : RelayPhase} (h : ph.clocked = true) :
    ph ∈ [RelayPhase.address, .write, .read] ∨ ph = .restart ∨ ph = .stop := by
  cases ph <;> simp [clocked] at h ⊢

/-- The phases in which the camera may hold the clock are START and those. -/
theorem RelayPhase.stall_cases {ph : RelayPhase} {x : StallPhase} (h : ph.stall = some x) :
    ph = .start ∧ x = .start ∨ ph ∈ [RelayPhase.address, .write, .read] ∨ ph = .restart ∧ x = .restart ∨ ph = .stop ∧ x = .stop := by
  cases ph <;> cases h <;> simp

theorem RelayPhase.onLine_of_clocked {ph : RelayPhase} (h : ph.clocked = true) : ph.onLine = true := by
  cases ph <;> simp [clocked, onLine] at h ⊢

theorem txnTick_start {x : Txn} (h : x.phase = .start) (clk dat : Bool) (s : State) : txnTick clk dat x s = startTick clk x s := by
  rw [txnTick, h]

theorem txnTick_restart {x : Txn} (h : x.phase = .restart) (clk dat : Bool) (s : State) :
    txnTick clk dat x s = restartTick clk dat x s := by rw [txnTick, h]

theorem txnTick_stop {x : Txn} (h : x.phase = .stop) (clk dat : Bool) (s : State) : txnTick clk dat x s = stopTick clk x s := by
  rw [txnTick, h]

theorem Txn.dataLow_start {x : Txn} (h : x.phase = .start) : x.dataLow = true := by rw [dataLow, h]

theorem Txn.dataLow_restart {x : Txn} (h : x.phase = .restart) : x.dataLow = x.holdStep := by rw [dataLow, h]

theorem Txn.dataLow_stop {x : Txn} (h : x.phase = .stop) : x.dataLow = true := by rw [dataLow, h]

/-- A tick of ADDRESS, WRITE or READ is a bit's tick. -/
theorem txnTick_bits {x : Txn} (h : x.phase ∈ [.address, .write, .read]) : ∃ ph : StallPhase,
    x.phase.stall = some ph ∧ x.phase.clocked = true ∧ x.dataLow = x.drivesData ∧
      ∀ clk dat s, txnTick clk dat x s = bitTick clk dat x ph s := by
  simp only [List.mem_cons, List.not_mem_nil, or_false] at h
  obtain hphase | hphase | hphase := h <;> simp [txnTick, Txn.dataLow, hphase, RelayPhase.stall, RelayPhase.clocked]

/-! ### One tick of a period (R169, R172, R178) -/

/-- A tick of the low period. -/
theorem txnTick_low {x : Txn} (h : x.phase.clocked = true) (hfirst : x.phase = .restart → x.holdStep = false)
    (hlow : x.lowTicks ≤ x.timing.lowLen) (clk dat : Bool) (s : State) :
    txnTick clk dat x s = goOn { x with lowTicks := x.lowTicks + 1 } ⟨true, x.dataLow⟩ s := by
  obtain hbits | hphase | hphase := RelayPhase.clocked_cases h
  · obtain ⟨ph, -, -, hdata, htick⟩ := txnTick_bits hbits
    rw [htick, hdata, bitTick, if_pos hlow]
  · rw [txnTick_restart hphase, restartTick, if_pos hlow, Txn.dataLow_restart hphase, hfirst hphase]
  · rw [txnTick_stop hphase, stopTick, if_pos hlow, Txn.dataLow_stop hphase]

/-- A tick at which the released clock is held low. -/
theorem txnTick_held {x : Txn} {ph : StallPhase} (hstall : x.phase.stall = some ph)
    (hreleased : x.phase = .start ∨ x.timing.lowLen < x.lowTicks) (dat : Bool) (s : State) :
    txnTick false dat x s = holdTick x ph ⟨false, x.dataLow⟩ s := by
  have hlow (h : x.phase ≠ .start) : ¬ x.lowTicks ≤ x.timing.lowLen := Nat.not_le.2 (hreleased.resolve_left h)
  obtain ⟨hphase, rfl⟩ | hbits | ⟨hphase, rfl⟩ | ⟨hphase, rfl⟩ := RelayPhase.stall_cases hstall
  · rw [txnTick_start hphase, Txn.dataLow_start hphase]
    rfl
  · obtain ⟨ph', hstall', -, hdata, htick⟩ := txnTick_bits hbits
    cases hstall.symm.trans hstall'
    rw [htick, hdata, bitTick, if_neg (hlow fun h => absurd hbits (by rw [h]; decide))]
    rfl
  · rw [txnTick_restart hphase, Txn.dataLow_restart hphase, restartTick, if_neg (hlow (by rw [hphase]; nofun))]
    rfl
  · rw [txnTick_stop hphase, Txn.dataLow_stop hphase, stopTick, if_neg (hlow (by rw [hphase]; nofun))]
    rfl

/-- A tick of the high period before its last one. -/
theorem txnTick_high {x : Txn} (hreleased : x.phase = .start ∨ x.phase.clocked = true ∧ x.timing.lowLen < x.lowTicks)
    (hhigh : x.highTicks < x.timing.highLen) (dat : Bool) (s : State) :
    txnTick true dat x s = goOn { x with highTicks := x.highTicks + 1, holdCount := 0 } ⟨false, x.dataLow⟩ s := by
  have hmore : ¬ x.timing.highLen + 1 ≤ x.highTicks + 1 := by omega
  obtain hphase | ⟨hclocked, hlow⟩ := hreleased
  · rw [txnTick_start hphase, Txn.dataLow_start hphase]
    exact if_neg hmore
  · have hlow := Nat.not_le.2 hlow
    obtain hbits | hphase | hphase := RelayPhase.clocked_cases hclocked
    · obtain ⟨ph, -, -, hdata, htick⟩ := txnTick_bits hbits
      rw [htick, hdata, bitTick, if_neg hlow]
      exact if_neg hmore
    · rw [txnTick_restart hphase, Txn.dataLow_restart hphase, restartTick, if_neg hlow]
      exact if_neg hmore
    · rw [txnTick_stop hphase, Txn.dataLow_stop hphase, stopTick, if_neg hlow]
      exact if_neg hmore

/-- The last tick of a bit's high period. -/
theorem txnTick_bit_last {x : Txn} (h : x.phase ∈ [.address, .write, .read]) (hlow : x.timing.lowLen < x.lowTicks)
    (hhigh : x.timing.highLen ≤ x.highTicks) (dat : Bool) (s : State) :
    txnTick true dat x s = goOn ({ x with highTicks := x.highTicks + 1, holdCount := 0 }.bitDone (dat && !x.drivesData))
      ⟨false, x.drivesData⟩ s := by
  obtain ⟨ph, -, -, -, htick⟩ := txnTick_bits h
  rw [htick, bitTick, if_neg (Nat.not_le.2 hlow)]
  exact if_pos (Nat.succ_le_succ hhigh)

/-- What the last tick of a high period of RESTART leads to (R175, R179). -/
def Txn.restartDone (x : Txn) (dat : Bool) : Txn :=
  if x.holdStep then { x.enter .address with second := true }
  else if dat then { x with holdStep := true, highTicks := 0, holdCount := 0 }
  else x.stopWith .lineFault

/-- The last tick of a high period of RESTART. -/
theorem txnTick_restart_last {x : Txn} (h : x.phase = .restart) (hlow : x.timing.lowLen < x.lowTicks)
    (hhigh : x.timing.highLen ≤ x.highTicks) (dat : Bool) (s : State) :
    txnTick true dat x s = goOn (x.restartDone dat) ⟨false, x.holdStep⟩ s := by
  rw [txnTick_restart h, restartTick, if_neg (Nat.not_le.2 hlow)]
  refine (if_pos (Nat.succ_le_succ hhigh)).trans ?_
  unfold Txn.restartDone
  cases x.holdStep <;> cases dat <;> rfl

/-- The last tick of STOP's high period: both wires released, and the recorded result given (R177). -/
theorem txnTick_stop_last {x : Txn} (h : x.phase = .stop) (hlow : x.timing.lowLen < x.lowTicks)
    (hhigh : x.timing.highLen ≤ x.highTicks) (dat : Bool) (s : State) :
    txnTick true dat x s = endTxn { x with highTicks := x.highTicks + 1, holdCount := 0 } x.result s := by
  rw [txnTick_stop h, stopTick, if_neg (Nat.not_le.2 hlow)]
  exact if_pos (Nat.succ_le_succ hhigh)

/-- The last tick of START (R172). -/
theorem txnTick_start_last {x : Txn} (h : x.phase = .start) (hhigh : x.timing.highLen ≤ x.highTicks) (dat : Bool) (s : State) :
    txnTick true dat x s = goOn (x.enter .address) ⟨false, true⟩ s := by
  rw [txnTick_start h]
  exact if_pos (Nat.succ_le_succ hhigh)

/-! ### Runs of ticks -/

/-- Ticks one after another, each of which takes the transaction from `x k` to `x (k + 1)`. -/
theorem runs_ticks (c : Instr) (x : Nat → Txn) (w : Wires) (n : Nat) (s : State)
    (hstep : ∀ k < n, ∀ v, exec c (goOn (x k) v s) = .next (goOn (x (k + 1)) w s)) (v : Wires) :
    runs (List.replicate n c) (goOn (x 0) v s) = .next (goOn (x n) (if n = 0 then v else w) s) := by
  induction n generalizing x v with
  | zero => rfl
  | succ n ih =>
    rw [List.replicate_succ, runs, hstep 0 n.succ_pos v]
    have hrest := ih (fun k => x (k + 1)) (fun k hk => hstep (k + 1) (Nat.succ_lt_succ hk)) w
    rwa [ite_self] at hrest

theorem exec_relayTick_goOn {x y : Txn} {clk dat : Bool} {w : Wires} (hport : y.port = x.port)
    (h : ∀ u, txnTick clk dat x u = goOn y w u) (v : Wires) (s : State) :
    exec (.relayTick clk dat) (goOn x v s) = .next (goOn y w s) := by
  rw [exec_relayTick (x := x) rfl, h, goOn_goOn hport]

/-- A transaction after `k` ticks of a low period. -/
def Txn.atLow (k : Nat) (x : Txn) : Txn := { x with lowTicks := k }

/-- A transaction after `k` ticks of a high period. -/
def Txn.atHigh (k : Nat) (x : Txn) : Txn := { x with highTicks := k }

theorem Txn.atLow_self {x : Txn} {k : Nat} (h : x.lowTicks = k) : x.atLow k = x := by
  rw [atLow, ← h]

theorem Txn.atHigh_self {x : Txn} {k : Nat} (h : x.highTicks = k) : x.atHigh k = x := by
  rw [atHigh, ← h]

theorem Txn.atHigh_succ {x : Txn} (h : x.holdCount = 0) (k : Nat) :
    { x.atHigh k with highTicks := (x.atHigh k).highTicks + 1, holdCount := 0 } = x.atHigh (k + 1) := by
  rw [← h]
  rfl

/-- The low period: LowLen + 1 ticks (R169). -/
theorem runs_low {x : Txn} (h : x.phase.clocked = true) (hfirst : x.phase = .restart → x.holdStep = false) (hlow : x.lowTicks = 0)
    (clk dat : Bool) (v : Wires) (s : State) :
    runs (List.replicate (x.timing.lowLen + 1) (.relayTick clk dat)) (goOn x v s) =
      .next (goOn (x.atLow (x.timing.lowLen + 1)) ⟨true, x.dataLow⟩ s) := by
  have hticks := runs_ticks (.relayTick clk dat) x.atLow ⟨true, x.dataLow⟩ (x.timing.lowLen + 1) s
    (fun k hk u => exec_relayTick_goOn (x := x.atLow k) (y := x.atLow (k + 1)) rfl
      (txnTick_low (x := x.atLow k) h hfirst (Nat.le_of_lt_succ hk) clk dat) u s) v
  rwa [Txn.atLow_self hlow, if_neg (Nat.succ_ne_zero _)] at hticks

/-- The high period up to its last tick: HighLen ticks (R169). -/
theorem runs_high {x : Txn} (h : x.phase.clocked = true) (hlow : x.timing.lowLen < x.lowTicks) (hhigh : x.highTicks = 0)
    (hhold : x.holdCount = 0) (dat : Bool) (v : Wires) (s : State) :
    runs (List.replicate x.timing.highLen (.relayTick true dat)) (goOn x v s) =
      .next (goOn (x.atHigh x.timing.highLen) (if x.timing.highLen = 0 then v else ⟨false, x.dataLow⟩) s) := by
  have htick (k : Nat) (hk : k < x.timing.highLen) (u : State) :
      txnTick true dat (x.atHigh k) u = goOn (x.atHigh (k + 1)) ⟨false, x.dataLow⟩ u := by
    rw [txnTick_high (x := x.atHigh k) (.inr ⟨h, hlow⟩) hk, Txn.atHigh_succ hhold]
    rfl
  have hticks := runs_ticks (.relayTick true dat) x.atHigh ⟨false, x.dataLow⟩ x.timing.highLen s
    (fun k hk u => exec_relayTick_goOn (x := x.atHigh k) (y := x.atHigh (k + 1)) rfl (htick k hk) u s) v
  rwa [Txn.atHigh_self hhigh] at hticks

/-- The two periods but for their last tick. -/
theorem runs_periods {x : Txn} (h : x.phase.clocked = true) (hfirst : x.phase = .restart → x.holdStep = false) (hlow : x.lowTicks = 0)
    (hhigh : x.highTicks = 0) (hhold : x.holdCount = 0) (dat : Bool) (v : Wires) (s : State) :
    runs (List.replicate (x.timing.lowLen + 1 + x.timing.highLen) (.relayTick true dat)) (goOn x v s) =
      .next (goOn ((x.atLow (x.timing.lowLen + 1)).atHigh x.timing.highLen) ⟨decide (x.timing.highLen = 0), x.dataLow⟩ s) := by
  have hrun := runs_high (x := x.atLow (x.timing.lowLen + 1)) h (Nat.lt_succ_self _) hhigh hhold dat ⟨true, x.dataLow⟩ s
  have hwires : (if x.timing.highLen = 0 then ⟨true, x.dataLow⟩ else ⟨false, x.dataLow⟩ : Wires) =
      ⟨decide (x.timing.highLen = 0), x.dataLow⟩ := by split <;> simp [*]
  rw [List.replicate_add, runs_append _ _ _ _ (runs_low h hfirst hlow true dat v s), ← hwires]
  exact hrun

/-- Ticks and a last one. -/
theorem runs_last {n : Nat} {c : Instr} {s t : State} (h : runs (List.replicate n c) s = .next t) {u : State} (hlast : exec c t = .next u) :
    runs (List.replicate (n + 1) c) s = .next u := by
  rw [List.replicate_succ', runs_append _ _ _ _ h, runs, hlast]
  rfl

end Sys2Proof.Machine
end

section
/-! PROOFS. The end of a transaction, and the walk of a broadcast that goes on after it (O49, O51). -/

namespace Sys2Proof.Machine

/-- The ports between `p` and `q`, ascending. -/
def portsBetween (p q : PortIx) : List PortIx := (List.finRange 6).filter (fun r => p < r ∧ r < q)

theorem portsBetween_length (p q : PortIx) : (portsBetween p q).length = q.val - p.val - 1 := by
  decide +revert

theorem portsAfter_around {p q : PortIx} (h : p < q) : portsAfter p = portsBetween p q ++ q :: portsAfter q := by
  decide +revert

/-- The transaction that a broadcast's sub-transaction leaves to the walk. -/
def Txn.ended (x : Txn) (r : RelayResult) : Txn := { x with outcomes := x.outcomes ++ [r] }

theorem Txn.finish_one {x : Txn} {p : PortIx} (h : x.req.port = .one p) (r : RelayResult) (s : State) :
    x.finish r s = { x.enter .report with result := r } := by rw [finish, h]

theorem Txn.finish_all {x : Txn} (h : x.req.port = .all) (r : RelayResult) (s : State) :
    x.finish r s = walkOn s (portsAfter x.port) (x.ended r) := by
  rw [finish, h]
  rfl

theorem Txn.finish_keeps (x : Txn) (r : RelayResult) (s : State) : (x.finish r s).req = x.req ∧ (x.finish r s).timing = x.timing := by
  cases hport : x.req.port with
  | one p =>
    rw [finish_one hport]
    exact ⟨rfl, rfl⟩
  | all =>
    obtain ⟨hreq, htiming, -⟩ := walkOn_keeps s (portsAfter x.port) (x.ended r)
    rw [finish_all hport]
    exact ⟨hreq, htiming⟩

/-- Once SHUTTING has begun, the ports still to come are ABORTED (R182). -/
theorem Txn.finish_aborting {x : Txn} (h : x.req.port = .all) (habort : x.abortRest = true) (r : RelayResult) (s : State) :
    (x.finish r s).phase = .report ∧ (x.finish r s).outcomes = x.outcomes ++ r :: List.replicate (5 - x.port.val) .aborted := by
  rw [finish_all h, walkOn_aborted _ _ (x.ended r) habort, portsAfter_length]
  exact ⟨rfl, List.append_assoc ..⟩

/-- No port still to come is enabled (R181). -/
theorem Txn.finish_disabled {x : Txn} {s : State} (h : x.req.port = .all) (habort : x.abortRest = false)
    (hdisabled : ∀ q, x.port < q → (s.port q).enabled = false) (r : RelayResult) :
    (x.finish r s).phase = .report ∧ (x.finish r s).outcomes = x.outcomes ++ r :: List.replicate (5 - x.port.val) .notAttempted := by
  have hpassed : ∀ q ∈ portsAfter x.port, (s.port q).enabled = false := fun q hq =>
    hdisabled q (of_decide_eq_true (List.mem_filter.1 hq).2)
  rw [finish_all h, ← List.append_nil (portsAfter x.port), walkOn_pass hpassed [] (x := x.ended r) habort, portsAfter_length]
  exact ⟨rfl, List.append_assoc ..⟩

/-- The walk goes on with the next enabled port (R181). -/
theorem Txn.finish_next {x : Txn} {s : State} {q : PortIx} (h : x.req.port = .all) (habort : x.abortRest = false) (hq : x.port < q)
    (henabled : (s.port q).enabled = true) (hbetween : ∀ q', x.port < q' → q' < q → (s.port q').enabled = false) (r : RelayResult) :
    (x.finish r s).port = q ∧ (x.finish r s).outcomes = x.outcomes ++ r :: List.replicate (q.val - x.port.val - 1) .notAttempted ∧
      (x.finish r s).phase = if x.req.deferred && !s.quiet q then .deferring else .lineCheck := by
  have hpassed : ∀ q' ∈ portsBetween x.port q, (s.port q').enabled = false := fun q' hq' => by
    obtain ⟨hafter, hbefore⟩ := of_decide_eq_true (List.mem_filter.1 hq').2
    exact hbetween q' hafter hbefore
  rw [finish_all h, portsAfter_around hq, walkOn_pass hpassed _ (x := x.ended r) habort,
    walkOn_enabled henabled _ (x := (x.ended r).pass _) habort, portsBetween_length, beginOn_eq]
  exact ⟨rfl, List.append_assoc .., rfl⟩

/-- The end of a transaction is what the statements say of it (R180-R182). -/
theorem endTxn_txnEnds (x : Txn) (r : RelayResult) (s : State) : TxnEnds x r s (endTxn x r s) := by
  obtain ⟨hreq, htiming⟩ := x.finish_keeps r s
  refine ⟨x.finish r s, rfl, hreq, htiming, fun p hport => ?_, fun hall habort => x.finish_aborting hall habort r s,
    fun hall habort hdisabled => x.finish_disabled hall habort hdisabled r,
    fun q hall habort hq henabled hbetween => x.finish_next hall habort hq henabled hbetween r⟩
  rw [Txn.finish_one hport]
  exact ⟨rfl, rfl, rfl⟩

/-- A transaction that ends after ticks on its own port ends as it would have before them. -/
theorem TxnEnds.of_goOn {x y : Txn} {r : RelayResult} {v : Wires} {s t : State} (h : TxnEnds x r (goOn y v s) t) (hport : x.port = y.port) :
    TxnEnds x r s t := by
  obtain ⟨z, ht, hrest⟩ := h
  refine ⟨z, ?_, hrest⟩
  rw [ht, goOn, hport, State.setEngine_setWires, State.setWires_setWires, State.setEngine_setEngine]

end Sys2Proof.Machine
end

section
/-! PROOFS. The opening of a transaction and the held clock (O49). -/

namespace Sys2Proof.Machine

/-! ### DEFERRING and LINE_CHECK (R170, R171) -/

theorem txnTick_defer {x : Txn} (h : x.phase = .deferring) (clk dat : Bool) (s : State) : txnTick clk dat x s = deferTick x s := by
  rw [txnTick, h]

theorem txnTick_lineCheck {x : Txn} (h : x.phase = .lineCheck) (clk dat : Bool) (s : State) :
    txnTick clk dat x s = lineCheckTick clk dat x s := by rw [txnTick, h]

theorem deferTick_quiet {x : Txn} {s : State} (h : s.quiet x.port = true) :
    deferTick x s = s.setEngine (some (x.enter .lineCheck)) := if_pos h

theorem deferTick_late {x : Txn} {s : State} (h : s.quiet x.port = false) (hlate : reached s.bpt.lineTime x.deadline = true) :
    deferTick x s = endTxn x .deferTimeout s := by
  rw [deferTick, if_neg (by rw [h]; nofun)]
  exact if_pos hlate

theorem deferTick_waits {x : Txn} {s : State} (h : s.quiet x.port = false) (hearly : reached s.bpt.lineTime x.deadline = false) :
    deferTick x s = s := by
  rw [deferTick, if_neg (by rw [h]; nofun)]
  exact if_neg (by rw [State.lineTime, hearly]; nofun)

theorem exec_deferTimeout {s : State} {x : Txn} (h : s.ccr.engine = some x) (hphase : x.phase = .deferring)
    (hquiet : s.quiet x.port = false) (hlate : reached s.bpt.lineTime x.deadline = true) : exec .deferTimeout s = .next (endTxn x .deferTimeout s) := by
  rw [exec, execDeferTimeout, h]
  exact congrArg Host.Outcome.next (if_pos ⟨hphase, hquiet, hlate⟩)

theorem lineCheckTick_waits {x : Txn} (h : x.freeTicks + 1 < x.timing.busFreeWait.toNat) (s : State) :
    lineCheckTick true true x s = s.setEngine (some { x with freeTicks := x.freeTicks + 1 }) := if_neg (Nat.not_le.2 h)

theorem lineCheckTick_free {x : Txn} (h : x.timing.busFreeWait.toNat ≤ x.freeTicks + 1) (s : State) :
    lineCheckTick true true x s = s.setEngine (some (x.enter .start)) := if_pos h

theorem lineCheckTick_busy {clk dat : Bool} (h : ¬ (clk = true ∧ dat = true)) (x : Txn) (s : State) :
    lineCheckTick clk dat x s = endTxn x .lineBusy s := if_neg (by rwa [Bool.and_eq_true])

/-! ### A held clock (R178) -/

theorem holdTick_waits {x : Txn} (h : x.holdCount + 1 < x.timing.stallLimit.toNat) (ph : StallPhase) (w : Wires) (s : State) :
    holdTick x ph w s = goOn { x with holdCount := x.holdCount + 1 } w s := if_neg (Nat.not_le.2 h)

theorem holdTick_ends {x : Txn} (h : x.timing.stallLimit.toNat ≤ x.holdCount + 1) (ph : StallPhase) (w : Wires) (s : State) :
    holdTick x ph w s = endTxn x (x.stallResult ph) s := if_pos h

theorem Txn.clockReleased_of_stall {x : Txn} {ph : StallPhase} (hstall : x.phase.stall = some ph)
    (hreleased : x.phase = .start ∨ x.timing.lowLen < x.lowTicks) : x.clockReleased = true := by
  unfold Txn.clockReleased
  cases hphase : x.phase <;> simp_all [RelayPhase.stall]

theorem exec_stallTimeout {s : State} {x : Txn} {ph : StallPhase} (h : s.ccr.engine = some x) (hstall : x.phase.stall = some ph)
    (hreleased : x.clockReleased = true) (hlimit : x.timing.stallLimit.toNat ≤ x.holdCount + 1) :
    exec .stallTimeout s = .next (endTxn x (x.stallResult ph) s) := by
  rw [exec, execStallTimeout, h]
  dsimp only
  rw [hstall]
  exact congrArg Host.Outcome.next (if_pos ⟨hreleased, hlimit⟩)

/-- The stall phase STOP is that of STOP alone. -/
theorem Txn.stallResult_eq {x : Txn} {ph : StallPhase} (hstall : x.phase.stall = some ph) :
    x.stallResult ph = if ph = .stop ∧ x.result ≠ .done then x.result else .stallTimeout ph := by
  have hstop : x.phase = .stop ↔ ph = .stop := by
    cases hphase : x.phase <;> rw [hphase] at hstall <;> cases hstall <;> decide
  simp only [Txn.stallResult, hstop]

/-! ### The statement -/

/-- Settles O49: DEFERRING, LINE_CHECK, START and the held clock, each by the branches of its tick. -/
theorem relayOpensLine : Obligations.RelayOpensLine := by
  intro s x hx
  have htick (clk dat : Bool) : exec (.relayTick clk dat) s = .next (txnTick clk dat x s) := exec_relayTick hx clk dat
  refine ⟨fun hphase clk dat => ⟨fun hquiet => ?_, fun hquiet hlate => ?_, fun hquiet hearly => ?_⟩,
    fun hphase => ⟨fun hmore => ?_, fun hfree => ?_, fun clk dat hlow => ?_⟩, fun hphase dat => ?_,
    fun ph hstall hreleased dat => ⟨fun hmore => ?_, fun hlimit => ?_⟩⟩
  · rw [htick, txnTick_defer hphase, deferTick_quiet hquiet]
    exact ⟨_, rfl, rfl, rfl, rfl, rfl⟩
  · have hends := endTxn_txnEnds x .deferTimeout s
    have htimed : exec (.relayTick clk dat) s = .next (endTxn x .deferTimeout s) := by
      rw [htick, txnTick_defer hphase, deferTick_late hquiet hlate]
    simp only [List.forall_mem_cons, List.not_mem_nil, false_imp_iff, implies_true, and_true]
    exact ⟨⟨_, htimed, hends⟩, _, exec_deferTimeout hx hphase hquiet hlate, hends⟩
  · rw [htick, txnTick_defer hphase, deferTick_waits hquiet hearly]
  · rw [htick, txnTick_lineCheck hphase, lineCheckTick_waits hmore]
  · rw [htick, txnTick_lineCheck hphase, lineCheckTick_free hfree]
    exact ⟨_, rfl, rfl, rfl, rfl, rfl, rfl⟩
  · rw [htick, txnTick_lineCheck hphase, lineCheckTick_busy hlow]
    exact ⟨_, rfl, endTxn_txnEnds x .lineBusy s⟩
  · rcases Nat.lt_or_ge x.highTicks x.timing.highLen with hmore | hlast
    · rw [htick, txnTick_high (.inl hphase) hmore, Txn.dataLow_start hphase]
      exact ⟨_, rfl, rfl, rfl, fun _ => rfl, fun hlast => absurd hlast (by omega)⟩
    · rw [htick, txnTick_start_last hphase hlast]
      exact ⟨_, rfl, rfl, rfl, fun hmore => absurd hmore (by omega), fun _ => ⟨rfl, rfl, rfl, rfl⟩⟩
  · rw [htick, txnTick_held hstall hreleased, holdTick_waits hmore]
    exact ⟨_, rfl, rfl⟩
  · have hends := endTxn_txnEnds x (x.stallResult ph) s
    have htimed : exec (.relayTick false dat) s = .next (endTxn x (x.stallResult ph) s) := by
      rw [htick, txnTick_held hstall hreleased, holdTick_ends hlimit]
    rw [← Txn.stallResult_eq hstall]
    simp only [List.forall_mem_cons, List.not_mem_nil, false_imp_iff, implies_true, and_true]
    exact ⟨⟨_, htimed, hends⟩, _, exec_stallTimeout hx hstall (Txn.clockReleased_of_stall hstall hreleased) hlimit, hends⟩

end Sys2Proof.Machine
end

section
/-! PROOFS. One bit of ADDRESS, WRITE or READ (O50). -/

namespace Sys2Proof.Machine

/-! ### What follows a bit (R173, R174, R176) -/

/-- From `x` to `y` the transaction goes on, at the start of a low period. -/
structure Txn.Leads (x y : Txn) : Prop where
  req : y.req = x.req
  port : y.port = x.port
  timing : y.timing = x.timing
  lowTicks : y.lowTicks = 0
  highTicks : y.highTicks = 0
  onLine : y.phase.onLine = true

theorem Txn.leads_enter (x : Txn) {ph : RelayPhase} (h : ph.onLine = true) : x.Leads (x.enter ph) := ⟨rfl, rfl, rfl, rfl, rfl, h⟩

theorem Txn.leads_stopWith (x : Txn) (r : RelayResult) : x.Leads (x.stopWith r) := ⟨rfl, rfl, rfl, rfl, rfl, rfl⟩

theorem Txn.leads_afterAddress (x : Txn) : x.Leads x.afterAddress := by
  unfold Txn.afterAddress
  split
  · exact ⟨rfl, rfl, rfl, rfl, rfl, rfl⟩
  · split
    · exact x.leads_stopWith .done
    · exact x.leads_enter rfl

theorem Txn.leads_afterWrite {x : Txn} (h : x.phase.onLine = true) : x.Leads x.afterWrite := by
  unfold Txn.afterWrite
  split
  · exact ⟨rfl, rfl, rfl, rfl, rfl, h⟩
  · split
    · exact x.leads_enter rfl
    · exact x.leads_stopWith .done

theorem Txn.leads_afterRead {x : Txn} (h : x.phase.onLine = true) : x.Leads x.afterRead := by
  unfold Txn.afterRead
  dsimp only
  split
  · exact ⟨rfl, rfl, rfl, rfl, rfl, rfl⟩
  · exact ⟨rfl, rfl, rfl, rfl, rfl, h⟩

theorem Txn.leads_bitDone {x : Txn} (h : x.phase.onLine = true) (dat : Bool) : x.Leads (x.bitDone dat) := by
  have hnext : x.Leads x.nextBit := ⟨rfl, rfl, rfl, rfl, rfl, h⟩
  unfold Txn.bitDone
  split
  · split
    · exact Txn.leads_afterRead h
    · exact ⟨rfl, rfl, rfl, rfl, rfl, h⟩
  · split
    · split
      · exact x.leads_stopWith .lineFault
      · exact hnext
    · split
      · split
        · exact x.leads_stopWith .addrNack
        · exact x.leads_afterAddress
      · split
        · exact x.leads_stopWith _
        · exact Txn.leads_afterWrite h

/-! ### The data wire of a bit (R169) -/

theorem Txn.drivesData_sent {x : Txn} (h : x.phase ≠ .read) : x.drivesData = (decide (x.bitIx < 8) && !x.sending.getLsbD (7 - x.bitIx)) :=
  if_neg h

theorem Txn.drivesData_read {x : Txn} (h : x.phase = .read) : x.drivesData = (x.bitIx == 8 && !x.lastRead) := if_pos h

/-! ### Where a bit leads, phase by phase -/

/-- A sent bit: a 1 that reads 0 is a fault (R179). -/
theorem Txn.bitDone_sent {x : Txn} (h : x.phase ≠ .read) (hbit : x.bitIx < 8) (dat : Bool) :
    x.bitDone dat = if x.sending.getLsbD (7 - x.bitIx) && !dat then x.stopWith .lineFault else x.nextBit := by
  rw [bitDone, if_neg h, if_pos hbit]

theorem Txn.bitDone_addressAck {x : Txn} (h : x.phase = .address) (hbit : x.bitIx = 8) (dat : Bool) :
    x.bitDone dat = if dat then x.stopWith .addrNack else x.afterAddress := by
  rw [bitDone, if_neg (by rw [h]; nofun), if_neg (by omega), if_pos h]

theorem Txn.bitDone_writeAck {x : Txn} (h : x.phase = .write) (hbit : x.bitIx = 8) (dat : Bool) :
    x.bitDone dat = if dat then x.stopWith (.dataNack x.byteIx) else x.afterWrite := by
  rw [bitDone, if_neg (by rw [h]; nofun), if_neg (by omega), if_neg (by rw [h]; nofun)]

theorem Txn.bitDone_read {x : Txn} (h : x.phase = .read) (hbit : x.bitIx < 8) (dat : Bool) :
    x.bitDone dat = { x.nextBit with rxBits := x.rxBits ++ [dat] } := by
  rw [bitDone, if_pos h, if_neg (by omega)]

theorem Txn.bitDone_readAck {x : Txn} (h : x.phase = .read) (hbit : x.bitIx = 8) (dat : Bool) : x.bitDone dat = x.afterRead := by
  rw [bitDone, if_pos h, if_pos hbit]

/-- A transaction at the end of a bit, its periods run out. -/
def Txn.bitEnded (x : Txn) : Txn := { x with lowTicks := x.timing.lowLen + 1, highTicks := x.timing.highLen + 1, holdCount := 0 }

/-- The ticks of a bit (R169). -/
theorem runs_bit {x : Txn} (h : x.phase ∈ [.address, .write, .read]) (hlow : x.lowTicks = 0) (hhigh : x.highTicks = 0)
    (hhold : x.holdCount = 0) (dat : Bool) (v : Wires) (s : State) :
    runs (List.replicate (x.timing.lowLen + 1 + (x.timing.highLen + 1)) (.relayTick true dat)) (goOn x v s) =
      .next (goOn (x.bitEnded.bitDone (dat && !x.drivesData)) ⟨false, x.drivesData⟩ s) := by
  obtain ⟨-, -, hclocked, -⟩ := txnTick_bits h
  have hfirst : x.phase = .restart → x.holdStep = false := fun hphase => absurd h (by rw [hphase]; decide)
  have hport : (x.bitEnded.bitDone (dat && !x.drivesData)).port = x.port :=
    (Txn.leads_bitDone (x := x.bitEnded) (RelayPhase.onLine_of_clocked hclocked) _).port
  exact runs_last (runs_periods hclocked hfirst hlow hhigh hhold dat v s)
    (exec_relayTick_goOn (x := (x.atLow (x.timing.lowLen + 1)).atHigh x.timing.highLen) hport
      (txnTick_bit_last (x := (x.atLow (x.timing.lowLen + 1)).atHigh x.timing.highLen) h (Nat.lt_succ_self _) (Nat.le_refl _) dat) _ s)

/-- After a sent bit, `dat` on the data wire (R173, R174, R179). -/
theorem Txn.sent_leads {x : Txn} (h : x.phase ≠ .read) (hbit : x.bitIx < 8) (dat : Bool) :
    let y := x.bitDone (dat && !x.drivesData)
    if x.sending.getLsbD (7 - x.bitIx) = true ∧ dat = false then y.phase = .stop ∧ y.result = .lineFault
    else y.phase = x.phase ∧ y.bitIx = x.bitIx + 1 ∧ y.byteIx = x.byteIx ∧ y.second = x.second := by
  intro y
  have hy : y = if x.sending.getLsbD (7 - x.bitIx) = true ∧ dat = false then x.stopWith .lineFault else x.nextBit := by
    simp only [y, bitDone_sent h hbit, drivesData_sent h, hbit, decide_true]
    cases x.sending.getLsbD (7 - x.bitIx) <;> cases dat <;> rfl
  rw [hy]
  split
  · exact ⟨rfl, rfl⟩
  · exact ⟨rfl, rfl, rfl, rfl⟩

/-- An acknowledge in ADDRESS or WRITE is the camera's alone. -/
theorem Txn.sampled_ack {x : Txn} (h : x.phase ≠ .read) (hbit : x.bitIx = 8) (dat : Bool) : (dat && !x.drivesData) = dat := by
  rw [drivesData_sent h, hbit]
  simp

/-- After the acknowledge of an address byte (R173, R175). -/
theorem Txn.addressAck_leads {x : Txn} (h : x.phase = .address) (hbit : x.bitIx = 8) (dat : Bool) :
    let y := x.bitDone (dat && !x.drivesData)
    if dat = true then y.phase = .stop ∧ y.result = .addrNack
    else if (x.second || x.req.readsFirst) = true then y.phase = .read ∧ y.byteIx = 0 ∧ y.bitIx = 0 ∧ y.rxBytes = []
    else if x.req.bytes = [] then y.phase = .stop ∧ y.result = .done
    else y.phase = .write ∧ y.byteIx = 0 ∧ y.bitIx = 0 := by
  intro y
  have hy : y = if dat then x.stopWith .addrNack else x.afterAddress := by
    simp only [y, sampled_ack (by rw [h]; nofun : x.phase ≠ .read) hbit, bitDone_addressAck h hbit]
  rw [hy, afterAddress]
  split
  · exact ⟨rfl, rfl⟩
  · split
    · exact ⟨rfl, rfl, rfl, rfl⟩
    · by_cases hempty : x.req.bytes = []
      · rw [if_pos (List.isEmpty_iff.2 hempty), if_pos hempty]
        exact ⟨rfl, rfl⟩
      · rw [if_neg (mt List.isEmpty_iff.1 hempty), if_neg hempty]
        exact ⟨rfl, rfl, rfl⟩

/-- After the acknowledge of a write byte (R174). -/
theorem Txn.writeAck_leads {x : Txn} (h : x.phase = .write) (hbit : x.bitIx = 8) (dat : Bool) :
    let y := x.bitDone (dat && !x.drivesData)
    if dat = true then y.phase = .stop ∧ y.result = .dataNack x.byteIx
    else if x.byteIx + 1 < x.req.bytes.length then y.phase = .write ∧ y.byteIx = x.byteIx + 1 ∧ y.bitIx = 0
    else if 0 < x.req.readCount then y.phase = .restart
    else y.phase = .stop ∧ y.result = .done := by
  intro y
  have hy : y = if dat then x.stopWith (.dataNack x.byteIx) else x.afterWrite := by
    simp only [y, sampled_ack (by rw [h]; nofun : x.phase ≠ .read) hbit, bitDone_writeAck h hbit]
  rw [hy, afterWrite]
  split
  · exact ⟨rfl, rfl⟩
  · split
    · exact ⟨h, rfl, rfl⟩
    · split
      · rfl
      · exact ⟨rfl, rfl⟩

/-- After a read bit (R176): the part leaves data to the camera. -/
theorem Txn.readBit_leads {x : Txn} (h : x.phase = .read) (hbit : x.bitIx < 8) (dat : Bool) :
    let y := x.bitDone (dat && !x.drivesData)
    y.phase = .read ∧ y.bitIx = x.bitIx + 1 ∧ y.byteIx = x.byteIx ∧ y.rxBits = x.rxBits ++ [dat] ∧ y.rxBytes = x.rxBytes := by
  intro y
  have hdata : (dat && !x.drivesData) = dat := by
    rw [drivesData_read h, beq_false_of_ne (by omega)]
    simp
  have hy : y = { x.nextBit with rxBits := x.rxBits ++ [dat] } := by simp only [y, hdata, bitDone_read h hbit]
  rw [hy]
  exact ⟨h, rfl, rfl, rfl, rfl⟩

/-- After the part's acknowledge of a read byte (R176). -/
theorem Txn.readAck_leads {x : Txn} (h : x.phase = .read) (hbit : x.bitIx = 8) (dat : Bool) :
    let y := x.bitDone (dat && !x.drivesData)
    y.rxBytes = x.rxBytes ++ [byteOfBits x.rxBits] ∧
      if x.lastRead = true then y.phase = .stop ∧ y.result = .done else y.phase = .read ∧ y.byteIx = x.byteIx + 1 ∧ y.bitIx = 0 := by
  intro y
  have hy : y = x.afterRead := bitDone_readAck h hbit _
  rw [hy, afterRead]
  split
  · exact ⟨rfl, rfl, rfl⟩
  · exact ⟨rfl, h, rfl, rfl⟩

/-! ### The statement -/

theorem RelayReq.readsFirst_eq (r : RelayReq) :
    r.readsFirst = (decide (r.port ≠ .all) && r.bytes.isEmpty && decide (0 < r.readCount)) := by
  unfold RelayReq.readsFirst
  cases hport : r.port <;> simp

theorem Txn.sending_eq (x : Txn) : x.sending =
    if x.phase = .address then (if x.req.port = .all then 0 else x.req.addr ++ BitVec.ofBool (x.second || x.req.readsFirst))
    else x.req.bytes.getD x.byteIx 0 := by
  unfold Txn.sending Txn.addressByte
  cases hport : x.req.port <;> rfl

/-- Settles O50: the periods tick by tick, then the bit's outcome by phase and place. -/
theorem relayBit : Obligations.RelayBit := by
  intro s x dat hx hphase hlow hhigh hhold hbit reads byte one last datLow
  obtain ⟨-, -, hclocked, -⟩ := txnTick_bits hphase
  have hreads : reads = (x.second || x.req.readsFirst) := by rw [RelayReq.readsFirst_eq]
  have hone : one = x.sending.getLsbD (7 - x.bitIx) := by rw [Txn.sending_eq, ← hreads]
  have hdata : datLow = x.drivesData := by
    rw [Txn.drivesData, ← hone]
    rfl
  obtain ⟨hreq, hport, htiming, hlow', hhigh', -⟩ := Txn.leads_bitDone (x := x.bitEnded) (RelayPhase.onLine_of_clocked hclocked) (dat && !x.drivesData)
  refine ⟨x.bitEnded.bitDone (dat && !x.drivesData), ?_, hreq, hport, htiming, hlow', hhigh', fun hbit hphase => ?_,
    fun hbit hphase => ?_, fun hbit hphase => Txn.writeAck_leads (x := x.bitEnded) hphase hbit dat,
    fun hbit hphase => Txn.readBit_leads (x := x.bitEnded) hphase hbit dat,
    fun hbit hphase => Txn.readAck_leads (x := x.bitEnded) hphase hbit dat⟩
  · have hrun := runs_bit hphase hlow hhigh hhold dat (s.wiresOf x.port) s
    rw [goOn_self hx] at hrun
    rw [hrun, hdata, goOn, hport]
    rfl
  · rw [hone]
    exact Txn.sent_leads (x := x.bitEnded) hphase hbit dat
  · rw [hreads]
    exact Txn.addressAck_leads (x := x.bitEnded) hphase hbit dat

end Sys2Proof.Machine
end

section
/-! PROOFS. RESTART and STOP whose clock is not held (O51). -/

namespace Sys2Proof.Machine

/-! ### RESTART (R175, R179) -/

/-- RESTART with data found released, at its last step. -/
def Txn.holding (x : Txn) : Txn := { x with holdStep := true, highTicks := 0, holdCount := 0 }

theorem Txn.restartDone_holds {x : Txn} (h : x.holdStep = false) : x.restartDone true = x.holding := by
  rw [restartDone, h]
  rfl

theorem Txn.restartDone_fault {x : Txn} (h : x.holdStep = false) : x.restartDone false = x.stopWith .lineFault := by
  rw [restartDone, h]
  rfl

theorem Txn.restartDone_address {x : Txn} (h : x.holdStep = true) (dat : Bool) :
    x.restartDone dat = { x.enter .address with second := true } := if_pos h

theorem Txn.restartDone_port (x : Txn) (dat : Bool) : (x.restartDone dat).port = x.port := by
  unfold Txn.restartDone
  split
  · rfl
  · split <;> rfl

/-- The last tick of a high period of RESTART, after ticks of the same transaction. -/
theorem exec_restart_last {x : Txn} (h : x.phase = .restart) (hlow : x.timing.lowLen < x.lowTicks)
    (hhigh : x.timing.highLen ≤ x.highTicks) (dat : Bool) (v : Wires) (s : State) :
    exec (.relayTick true dat) (goOn x v s) = .next (goOn (x.restartDone dat) ⟨false, x.holdStep⟩ s) :=
  exec_relayTick_goOn (x.restartDone_port dat) (txnTick_restart_last h hlow hhigh dat) v s

/-- The low period of RESTART and the high period with data released. -/
theorem runs_restart_released {x : Txn} (h : x.phase = .restart) (hfirst : x.holdStep = false) (hlow : x.lowTicks = 0)
    (hhigh : x.highTicks = 0) (hhold : x.holdCount = 0) (dat : Bool) (v : Wires) (s : State) :
    runs (List.replicate (x.timing.lowLen + 1 + (x.timing.highLen + 1)) (.relayTick true dat)) (goOn x v s) =
      .next (goOn (((x.atLow (x.timing.lowLen + 1)).atHigh x.timing.highLen).restartDone dat) ⟨false, false⟩ s) := by
  have hlast := exec_restart_last (x := (x.atLow (x.timing.lowLen + 1)).atHigh x.timing.highLen) h (Nat.lt_succ_self _) (Nat.le_refl _) dat
    ⟨decide (x.timing.highLen = 0), x.dataLow⟩ s
  have hstep : ((x.atLow (x.timing.lowLen + 1)).atHigh x.timing.highLen).holdStep = false := hfirst
  rw [hstep] at hlast
  exact runs_last (runs_periods (by rw [h]; rfl) (fun _ => hfirst) hlow hhigh hhold dat v s) hlast

/-- The high period of RESTART with data low. -/
theorem runs_restart_holding {x : Txn} (h : x.phase = .restart) (hstep : x.holdStep = true) (hlow : x.timing.lowLen < x.lowTicks)
    (hhigh : x.highTicks = 0) (hhold : x.holdCount = 0) (dat : Bool) (v : Wires) (s : State) :
    runs (List.replicate (x.timing.highLen + 1) (.relayTick true dat)) (goOn x v s) =
      .next (goOn { x.enter .address with second := true } ⟨false, true⟩ s) := by
  have hlast (u : Wires) := exec_restart_last (x := x.atHigh x.timing.highLen) h hlow (Nat.le_refl _) dat u s
  have hholds : (x.atHigh x.timing.highLen).holdStep = true := hstep
  rw [hholds, Txn.restartDone_address hholds] at hlast
  exact runs_last (runs_high (by rw [h]; rfl) hlow hhigh hhold dat v s) (hlast _)

/-! ### STOP (R177) -/

/-- The end of STOP, after ticks of the same transaction. -/
theorem exec_stop_last {x : Txn} (h : x.phase = .stop) (hlow : x.timing.lowLen < x.lowTicks) (hhigh : x.timing.highLen ≤ x.highTicks)
    (dat : Bool) (v : Wires) (s : State) : ∃ t, exec (.relayTick true dat) (goOn x v s) = .next t ∧ TxnEnds x x.result s t := by
  refine ⟨_, (exec_relayTick (x := x) rfl true dat).trans (congrArg _ (txnTick_stop_last h hlow hhigh dat _)), ?_⟩
  exact TxnEnds.of_goOn (x := x) (endTxn_txnEnds { x with highTicks := x.highTicks + 1, holdCount := 0 } x.result (goOn x v s)) rfl

/-! ### The statement -/

/-- Settles O51: the periods of RESTART and STOP by the runs of their ticks, and what their last ticks lead to. -/
theorem relayRestartsAndStops : Obligations.RelayRestartsAndStops := by
  intro s x dat hx hlow hhigh hhold low high
  have hself := goOn_self hx
  refine ⟨fun hphase hfirst hdat => ?_, fun hphase hfirst hdat => ?_, fun hphase => ?_⟩
  · subst hdat
    have hreleased := runs_restart_released hphase hfirst hlow hhigh hhold true (s.wiresOf x.port) s
    rw [hself, Txn.restartDone_holds (x := (x.atLow (x.timing.lowLen + 1)).atHigh x.timing.highLen) hfirst] at hreleased
    have hholding := runs_restart_holding (x := ((x.atLow (x.timing.lowLen + 1)).atHigh x.timing.highLen).holding) hphase rfl
      (Nat.lt_succ_self _) rfl rfl true ⟨false, false⟩ s
    have hrun := (runs_append _ _ _ _ hreleased).trans hholding
    rw [← List.replicate_add] at hrun
    exact ⟨_, hrun, rfl, rfl, rfl, rfl, rfl, rfl, rfl⟩
  · subst hdat
    have hreleased := runs_restart_released hphase hfirst hlow hhigh hhold false (s.wiresOf x.port) s
    rw [hself, Txn.restartDone_fault (x := (x.atLow (x.timing.lowLen + 1)).atHigh x.timing.highLen) hfirst] at hreleased
    exact ⟨_, hreleased, rfl, rfl, rfl, rfl, rfl, rfl⟩
  · have hperiods := runs_periods (by rw [hphase]; rfl) (fun h => absurd h (by rw [hphase]; nofun)) hlow hhigh hhold dat (s.wiresOf x.port) s
    rw [hself] at hperiods
    obtain ⟨t, hlast, hends⟩ := exec_stop_last (x := (x.atLow (x.timing.lowLen + 1)).atHigh x.timing.highLen) hphase (Nat.lt_succ_self _)
      (Nat.le_refl _) dat ⟨decide (x.timing.highLen = 0), x.dataLow⟩ s
    refine ⟨_, t, hperiods, ?_, runs_last hperiods hlast, hends⟩
    rw [← Txn.dataLow_stop hphase]
    exact State.setWires_wiresOf_self ..

end Sys2Proof.Machine
end

section
/-! PROOFS. CCR's frame: the work of the other blocks leaves the relay as it is (O58). -/

namespace Sys2Proof.Machine

/-! ### Steps made of steps -/

theorem ite_ccr {s t u : State} {c : Prop} [Decidable c] (ht : t.ccr = s.ccr) (hu : u.ccr = s.ccr) : (if c then t else u).ccr = s.ccr := by
  split
  · exact ht
  · exact hu

theorem foldl_ccr {α : Type} {f : State → α → State} (h : ∀ s a, (f s a).ccr = s.ccr) (l : List α) (s : State) :
    (l.foldl f s).ccr = s.ccr := by
  induction l generalizing s with
  | nil => rfl
  | cons a rest ih => exact (ih _).trans (h s a)

theorem Does.ccr {fs : List Factor} {s u t : State} (h : Does fs s u t) (hu : u.ccr = s.ccr) : t.ccr = s.ccr :=
  (congrArg State.ccr h.rest).trans hu

theorem BeltStep.ccr {fs : List Factor} {b : Bpt} {s t : State} (h : BeltStep fs b s t) : t.ccr = s.ccr :=
  (congrArg State.ccr h.rest :)

theorem State.ccr_of_beside {s t : State} (h : t.beside = s.beside) : t.ccr = s.ccr := congrArg (fun x => x.2.2.2.2.1) h

theorem State.ccr_of_still {s t : State} (h : t.still = s.still) : t.ccr = s.ccr := congrArg (fun x => x.2.2.2.2.1) h

/-! ### XCR (R65-R75) -/

@[simp] theorem removeAll_ccr (p : PortIx) (cause : Cause) (list : List Exposure) (s : State) : (removeAll p cause list s).ccr = s.ccr :=
  State.ccr_of_beside (removeAll_beside ..)

@[simp] theorem matchFrame_ccr (p : PortIx) (c : BitVec 8) (s : State) : (matchFrame p c s).2.ccr = s.ccr := by
  unfold matchFrame
  split
  · split
    · rfl
    · exact foldl_ccr (by simp) _ _
  · split <;> rfl

@[simp] theorem appendExposure_ccr (p : PortIx) (x : Exposure) (s : State) : (appendExposure p x s).ccr = s.ccr :=
  foldl_ccr (s := s.setExposures p _) (by simp) _

/-! ### TRQ (R22-R43) -/

@[simp] theorem firingProcedure_ccr (e : TrigEntry) (s : State) : (firingProcedure e s).ccr = s.ccr := by
  simp [firingProcedure, fireTrigger, apply_ite State.ccr]

@[simp] theorem fireDue_ccr (queue : List TrigEntry) (s : State) : (fireDue queue s).ccr = s.ccr := by
  induction queue generalizing s with
  | nil => rfl
  | cons e rest ih => simp [fireDue, apply_ite State.ccr, ih]

@[simp] theorem deliverF_ccr (old : FinePos) (s : State) : (deliverF old s).ccr = s.ccr := ite_ccr rfl (fireDue_ccr ..)

@[simp] theorem insertTrigger_ccr (e : TrigEntry) (s : State) : (insertTrigger e s).ccr = s.ccr := by
  simp [insertTrigger, apply_ite State.ccr]

@[simp] theorem registerPart_ccr (n : SensorIx) (s : State) : (registerPart n s).ccr = s.ccr := by
  unfold registerPart
  refine (foldl_ccr (fun u i => ite_ccr (insertTrigger_ccr ..) rfl) _ _).trans ?_
  simp

@[simp] theorem sampleSensor_ccr (n : SensorIx) (sample : Bool) (s : State) : (sampleSensor n sample s).ccr = s.ccr := by
  simp [sampleSensor, registrationGate, apply_ite State.ccr]

theorem triggerTick_ccr (lines : BitVec 4) (s : State) : (tickStages (sampleAll lines s)).ccr = s.ccr :=
  (State.ccr_of_still (tickStages_still _)).trans (foldl_ccr (fun _ _ => sampleSensor_ccr ..) _ s)

/-! ### BPT (R1-R18) -/

theorem beltWork_ccr (step dir : Bool) (s : State) : (beltWork step dir s).ccr = s.ccr := by
  have hticked : (s.ticked step dir).ccr = s.ccr := ite_ccr (countInterval_beltStep _).ccr rfl
  rw [beltWork_eq]
  exact ite_ccr (ite_ccr ((forwardEdge_beltStep _).ccr.trans hticked) ((reverseEdge_beltStep _).ccr.trans hticked)) (ite_ccr hticked hticked)

theorem presetBelt_ccr (value : BitVec 32) (s : State) : (presetBelt value s).ccr = s.ccr :=
  (deliverF_ccr ..).trans (setFactor_ccr ..)

/-! ### CPR and CBM (R45-R58, R85-R107) -/

@[simp] theorem parityError_ccr (p : PortIx) (s : State) : (parityError p s).ccr = s.ccr := (parityError_does p s).ccr rfl

@[simp] theorem framingError_ccr (p : PortIx) (s : State) : (framingError p s).ccr = s.ccr := (framingError_does p s).ccr rfl

@[simp] theorem offerFrame_ccr (p : PortIx) (i : StreamIx) (e : Option Exposure) (value : BitVec 16) (s : State) :
    (offerFrame p i e value s).ccr = s.ccr := by
  unfold offerFrame
  split
  · simp [refuseFrame]
  · split
    · simp
    · simp [refuseFrame]

theorem beginFrame_ccr (p : PortIx) (value : BitVec 16) (s : State) : (beginFrame p value s).ccr = s.ccr := by
  have hmatch := matchFrame_ccr p (value.setWidth 8) (countPort p Port.frames (fun x n => { x with frames := n }) s)
  rw [countPort_ccr] at hmatch
  unfold beginFrame
  dsimp only
  split <;> rename_i hfound <;> rw [hfound] at hmatch
  · exact (offerFrame_ccr ..).trans hmatch
  · refine ite_ccr ((offerFrame_ccr ..).trans ?_) ?_ <;> simpa using hmatch

theorem placeInNewCell_ccr (p : PortIx) (value : BitVec 16) (f : FrameCtx) (s : State) : (placeInNewCell p value f s).ccr = s.ccr := by
  have htruncate : (truncateWord p f s).ccr = s.ccr := setFactor_ccr ..
  unfold placeInNewCell
  refine ite_ccr htruncate ?_
  split
  · exact htruncate
  · simp [placeInCell]

theorem takeData_ccr (p : PortIx) (good : Bool) (value : BitVec 16) (f : FrameCtx) (s : State) : (takeData p good value f s).ccr = s.ccr := by
  have hplace (g : FrameCtx) (u : State) : (placeWord p value g u).ccr = u.ccr := by
    unfold placeWord
    split
    · exact placeInNewCell_ccr ..
    · exact ite_ccr rfl ((placeInNewCell_ccr ..).trans (commitCell_ccr ..))
  exact hplace _ _

theorem closeFrame_ccr (p : PortIx) (value : BitVec 16) (f : FrameCtx) (s : State) : (closeFrame p value f s).ccr = s.ccr := by
  rw [closeFrame_eq, State.setPortState_ccr, finishFrame_ccr]
  exact (countChecksum_does p _ (s.setFrame p _)).ccr rfl

@[simp] theorem flushFrame_ccr (i : StreamIx) (s : State) : (flushFrame i s).2.2.ccr = s.ccr := by
  unfold flushFrame
  split
  · split <;> rfl
  · rfl

@[simp] theorem flushCells_ccr (i : StreamIx) (held : List Nat) (s : State) : (flushCells i held s).ccr = s.ccr :=
  foldl_ccr (s := State.setStream _ i _) (by simp) _

@[simp] theorem flushSteps_ccr (i : StreamIx) (s : State) : (flushSteps i s).ccr = s.ccr := by
  have hissue (t : State) (c : Prop) [Decidable c] (r : CaptureRecord) : (if c then issueCapture i r true t else t).ccr = t.ccr :=
    ite_ccr (issueCapture_ccr ..) rfl
  unfold flushSteps
  dsimp only
  rw [closeIfDrained_ccr, setFactor_ccr, State.setStream_ccr, hissue, State.setReserved_ccr, flushCells_ccr, flushFrame_ccr]

/-! ### FLK (R116, R124-R130, R137-R141) -/

@[simp] theorem takeDueExpiry_ccr (s : State) : (takeDueExpiry s).ccr = s.ccr := by
  simp [takeDueExpiry, expireHold, apply_ite State.ccr]

theorem transmissionEnd_ccr {s t : State} (h : execTransmissionEnd s = .next t) : t.ccr = s.ccr := by
  unfold execTransmissionEnd at h
  split at h
  · cases h
    rfl
  · cases h
    rw [reportSent_eq]
    simp [tickHold, apply_ite State.ccr]

@[simp] theorem leaveSync_ccr (s : State) : (leaveSync s).ccr = s.ccr := by
  simp [leaveSync_eq, apply_ite State.ccr]

/-- A received good cell judged, if it is one. -/
theorem goodCell_ccr {c : Prop} [Decidable c] {act : State → State} (hact : ∀ u, (act u).ccr = u.ccr) (s : State) :
    (if c then takeGoodCell act s else s).ccr = s.ccr := by
  refine ite_ccr ?_ rfl
  unfold takeGoodCell
  split
  · rfl
  · exact ite_ccr (by simp [enterSync]) rfl
  · exact hact _

theorem takeBadCell_ccr (s : State) : (takeBadCell s).ccr = s.ccr := by
  unfold takeBadCell
  split
  · rfl
  · simp
  · simp [apply_ite State.ccr]

theorem takeRequest_ccr (payload : List Byte) (s : State) : (takeRequest payload s).ccr = s.ccr := by
  simp [takeRequest, countDropped, apply_ite State.ccr]

theorem sendStream_ccr (i : StreamIx) (s : State) : (sendStream i s).ccr = s.ccr := by
  cases hqueue : (s.stream i).queue with
  | nil =>
    rw [sendStream_of_empty hqueue]
    rfl
  | cons c rest => exact (sendStream_does hqueue).ccr rfl

theorem takeSlot_ccr (s : State) : (takeSlot s).ccr = s.ccr := by
  have hsent (x : Choice) : (sendChoice x s).ccr = s.ccr := by
    unfold sendChoice
    split
    · rfl
    · unfold sendMgmt
      split <;> rfl
    · exact sendStream_ccr ..
    · exact sendStream_ccr ..
  have hadvance (u : State) : (advanceSlot u).ccr = u.ccr := ite_ccr (setFactor_ccr ..) rfl
  exact (hadvance _).trans (hsent _)

/-! ### LVC (R192-R196) -/

theorem dropTriggers_ccr (queue : List TrigEntry) (s : State) : (dropTriggers queue s).ccr = s.ccr :=
  State.ccr_of_still (dropTriggers_still queue s).1

theorem settlePorts_ccr (ports : List PortIx) (s : State) : (ports.foldl (fun u p => settlePort p u) s).ccr = s.ccr := by
  rw [settleAll_rest]

theorem forcePorts_ccr (order : List PortIx) (s : State) : (forPorts order forcePort s).ccr = s.ccr :=
  State.ccr_of_beside (forcePorts_spec s order).1

theorem shutPorts_ccr (order : List PortIx) (s : State) : (endShutting (camerasOff order s)).ccr = s.ccr := by
  obtain ⟨-, -, -, hccr, -⟩ := endShutting_rest (camerasOff order s)
  exact hccr.trans (congrArg (fun x => x.1.2.2.2.2.1) (camerasOff_spec order s).1)

end Sys2Proof.Machine
end

section
/-! PROOFS. The answers of the owners of requests leave CCR as it is, but for those of WRITE to RELAY, RELAY and SET_LEVEL (O58). -/

namespace Sys2Proof.Machine

/-- A check refused, or the rest of the checks. -/
theorem check_ccr {s : State} {a : Answer} {c : Prop} [Decidable c] {x : Status} (ha : a.after.ccr = s.ccr) :
    (if c then refuse x s else a).after.ccr = s.ccr := by
  split
  · rfl
  · exact ha

/-! ### Tables (R153-R157) -/

theorem answerRead_ccr (r : Request) (s : State) : (answerRead r s).after.ccr = s.ccr := by
  unfold answerRead
  split
  · rfl
  · split <;> rfl

theorem answerWriteBelt_ccr (r : Request) (s : State) : (answerWriteBelt r s).after.ccr = s.ccr := check_ccr (check_ccr (check_ccr rfl))

theorem answerWriteTrigger_ccr (r : Request) (s : State) : (answerWriteTrigger r s).after.ccr = s.ccr :=
  check_ccr (check_ccr (check_ccr rfl))

theorem answerWriteSensor_ccr (r : Request) (s : State) : (answerWriteSensor r s).after.ccr = s.ccr := by
  unfold answerWriteSensor
  split
  · exact check_ccr rfl
  · rfl

theorem answerWritePort_ccr (r : Request) (s : State) : (answerWritePort r s).after.ccr = s.ccr := by
  unfold answerWritePort
  split
  · exact check_ccr (check_ccr (ite_ccr rfl rfl))
  · rfl

theorem evuChanged_ccr (before : Evu) (g : GroupIx) (s : State) : (evuChanged before g s).ccr = s.ccr := ite_ccr (ite_ccr rfl rfl) rfl

theorem answerWriteEvent_ccr (r : Request) (s : State) : (answerWriteEvent r s).after.ccr = s.ccr := by
  unfold answerWriteEvent
  split
  · exact check_ccr (evuChanged_ccr ..)
  · rfl

theorem answerClearEvents_ccr (r : Request) (s : State) : (answerClearEvents r s).after.ccr = s.ccr := by
  unfold answerClearEvents
  split
  · exact check_ccr (evuChanged_ccr ..)
  · rfl

theorem answerWritePlan_ccr (r : Request) (s : State) : (answerWritePlan r s).after.ccr = s.ccr := by
  unfold answerWritePlan
  split
  · exact check_ccr rfl
  · rfl

theorem answerWriteStream_ccr (r : Request) (s : State) : (answerWriteStream r s).after.ccr = s.ccr := by
  unfold answerWriteStream
  split
  · exact check_ccr (check_ccr rfl)
  · rfl

theorem answerWriteShadow_ccr (r : Request) (s : State) : (answerWriteShadow r s).after.ccr = s.ccr := by
  refine check_ccr (check_ccr ?_)
  change (stored _ 0 s _).ccr = s.ccr
  unfold stored
  split <;> rfl

theorem answerWritePlain_ccr (r : Request) (s : State) : (answerWritePlain r s).after.ccr = s.ccr := by
  unfold answerWritePlain
  split
  case h_1 => exact answerWritePlan_ccr r s
  case h_2 => exact answerWriteStream_ccr r s
  case h_3 => exact answerWriteShadow_ccr r s
  case h_5 => exact check_ccr (check_ccr rfl)
  case h_6 => exact check_ccr (check_ccr rfl)
  all_goals rfl

/-! ### The other requests (R17, R105-R107, R142-R144, R158-R160) -/

theorem answerWriteCal_ccr (r : Request) (s : State) : (answerWriteCal r s).after.ccr = s.ccr := by
  rw [answerWriteCal_eq]
  exact check_ccr (check_ccr rfl)

theorem answerCalSwap_ccr (r : Request) (s : State) : (answerCalSwap r s).after.ccr = s.ccr := check_ccr (check_ccr rfl)

theorem answerReadCounters_ccr (r : Request) (s : State) : (answerReadCounters r s).after.ccr = s.ccr := by
  have hclear (group stream : Nat) : (clearCounters group stream s).ccr = s.ccr :=
    ite_ccr rfl (ite_ccr rfl (ite_ccr rfl (ite_ccr rfl (ite_ccr rfl rfl))))
  exact check_ccr (check_ccr (ite_ccr (hclear ..) rfl))

theorem streamCmd_ccr {cbm : StreamIx → State → Answer} (h : ∀ i s, (cbm i s).after.ccr = s.ccr) (r : Request) (s : State) :
    (streamCmd cbm r s).after.ccr = s.ccr := by
  unfold streamCmd
  split
  · exact check_ccr (h _ s)
  · rfl

theorem portCmd_ccr {cpr : PortIx → State → State} (h : ∀ p s, (cpr p s).ccr = s.ccr) (r : Request) (s : State) :
    (portCmd cpr r s).after.ccr = s.ccr := by
  unfold portCmd
  split
  · exact check_ccr (h _ s)
  · rfl

theorem answerOpen_ccr (i : StreamIx) (s : State) : (answerOpen i s).after.ccr = s.ccr := by
  unfold answerOpen
  split <;> rfl

theorem answerClose_ccr (i : StreamIx) (s : State) : (answerClose i s).after.ccr = s.ccr := by
  unfold answerClose
  split
  · exact closeIfDrained_ccr ..
  · rfl
  · rfl

theorem answerFlush_ccr (i : StreamIx) (s : State) : (answerFlush i s).after.ccr = s.ccr := check_ccr (flushSteps_ccr i s)

theorem enableSteps_ccr (p : PortIx) (s : State) : (enableSteps p s).ccr = s.ccr := ite_ccr rfl rfl

theorem disableSteps_ccr (p : PortIx) (s : State) : (disableSteps p s).ccr = s.ccr := by
  simp [disableSteps, apply_ite State.ccr]

theorem answerBeltPreset_ccr (r : Request) (s : State) : (answerBeltPreset r s).after.ccr = s.ccr := by
  unfold answerBeltPreset
  split
  · exact presetBelt_ccr ..
  · rfl

end Sys2Proof.Machine
end

section
/-! PROOFS. What a relay tick can come to, and the law of the driven line through the relay's own work (O58). -/

namespace Sys2Proof.Machine

/-! ### What a relay tick can come to (R169-R179) -/

/-- A relay tick of `x` on the state `s`: nothing, a wait or the start of a phase from off the line, a tick that drives the connected port, or
the end of the transaction. -/
inductive Ticked (x : Txn) (s : State) : State → Prop
  | stays : Ticked x s s
  | waits (y : Txn) (hoff : x.phase.onLine = false) : Ticked x s (s.setEngine (some y))
  | goes (y : Txn) (w : Wires) (hport : y.port = x.port) (hon : y.phase.onLine = true) : Ticked x s (goOn y w s)
  | ends (y : Txn) (r : RelayResult) (hport : y.port = x.port) : Ticked x s (endTxn y r s)

theorem Ticked.ite {x : Txn} {s t u : State} {c : Prop} [Decidable c] (ht : Ticked x s t) (hu : Ticked x s u) :
    Ticked x s (if c then t else u) := by
  split
  · exact ht
  · exact hu

theorem holdTick_ticked {x : Txn} (h : x.phase.onLine = true) (ph : StallPhase) (w : Wires) (s : State) :
    Ticked x s (holdTick x ph w s) := .ite (.ends x _ rfl) (.goes _ w rfl h)

theorem bitTick_ticked {x : Txn} (h : x.phase.onLine = true) (clk dat : Bool) (ph : StallPhase) (s : State) :
    Ticked x s (bitTick clk dat x ph s) := by
  have hdone := Txn.leads_bitDone (x := { x with highTicks := x.highTicks + 1, holdCount := 0 }) h (dat && !x.drivesData)
  exact .ite (.goes _ _ rfl h) (.ite (holdTick_ticked h ..) (.ite (.goes _ _ hdone.port hdone.onLine) (.goes _ _ rfl h)))

theorem startTick_ticked {x : Txn} (h : x.phase.onLine = true) (clk : Bool) (s : State) : Ticked x s (startTick clk x s) :=
  .ite (holdTick_ticked h ..) (.ite (.goes _ _ rfl rfl) (.goes _ _ rfl h))

theorem restartTick_ticked {x : Txn} (h : x.phase.onLine = true) (clk dat : Bool) (s : State) : Ticked x s (restartTick clk dat x s) :=
  .ite (.goes _ _ rfl h) (.ite (holdTick_ticked h ..)
    (.ite (.ite (.goes _ _ rfl rfl) (.ite (.goes _ _ rfl rfl) (.goes _ _ rfl h))) (.goes _ _ rfl h)))

theorem stopTick_ticked {x : Txn} (h : x.phase.onLine = true) (clk : Bool) (s : State) : Ticked x s (stopTick clk x s) :=
  .ite (.goes _ _ rfl h) (.ite (holdTick_ticked h ..) (.ite (.ends _ _ rfl) (.goes _ _ rfl h)))

theorem txnTick_ticked (clk dat : Bool) (x : Txn) (s : State) : Ticked x s (txnTick clk dat x s) := by
  unfold txnTick
  cases hphase : x.phase with
  | deferring => exact .ite (.waits _ (by rw [hphase]; rfl)) (.ite (.ends x _ rfl) .stays)
  | lineCheck => exact .ite (.ite (.waits _ (by rw [hphase]; rfl)) (.waits _ (by rw [hphase]; rfl))) (.ends x _ rfl)
  | start => exact startTick_ticked (by rw [hphase]; rfl) clk s
  | address | write | read => exact bitTick_ticked (by rw [hphase]; rfl) ..
  | restart => exact restartTick_ticked (by rw [hphase]; rfl) ..
  | stop => exact stopTick_ticked (by rw [hphase]; rfl) ..
  | report => exact .stays

/-! ### The law (R168, R169) -/

/-- The part drives no control line. -/
def State.LinesReleased (s : State) : Prop := ∀ p, s.wiresOf p = .released

theorem State.LinesReleased.relayLaw {s : State} (h : s.LinesReleased) : RelayLaw s := fun p hp => absurd (h p) hp

/-- The law sees of CCR the engine and the wires. -/
theorem RelayLaw.of_lines {s t : State} (hs : RelayLaw s) (hengine : t.ccr.engine = s.ccr.engine) (hwires : t.ccr.wires = s.ccr.wires) :
    RelayLaw t := by
  unfold RelayLaw State.wiresOf
  rw [hengine, hwires]
  exact hs

theorem RelayLaw.of_ccr {s t : State} (hs : RelayLaw s) (h : t.ccr = s.ccr) : RelayLaw t := hs.of_lines (by rw [h]) (by rw [h])

/-- Every port but the connected one is released. -/
theorem RelayLaw.released_ne {s : State} {x : Txn} (hs : RelayLaw s) (hx : s.ccr.engine = some x) {p : PortIx} (h : p ≠ x.port) :
    s.wiresOf p = .released := by
  by_contra hdriven
  obtain ⟨y, hy, hport, -⟩ := hs p hdriven
  cases hx.symm.trans hy
  exact h hport.symm

/-- Without a transaction on the line, no line is driven. -/
theorem RelayLaw.released {s : State} (hs : RelayLaw s) (h : ∀ x, s.ccr.engine = some x → x.phase.onLine = false) : s.LinesReleased := by
  intro p
  by_contra hdriven
  obtain ⟨x, hx, -, hon⟩ := hs p hdriven
  exact absurd ((h x hx).symm.trans hon) nofun

theorem RelayLaw.goOn {s : State} {x y : Txn} (hs : RelayLaw s) (hx : s.ccr.engine = some x) (hport : y.port = x.port)
    (hon : y.phase.onLine = true) (w : Wires) : RelayLaw (goOn y w s) := by
  intro p hdriven
  refine ⟨y, rfl, ?_, hon⟩
  by_contra hne
  have hkept : (Machine.goOn y w s).wiresOf p = s.wiresOf p := State.setWires_wiresOf_ne s y.port w p (Ne.symm hne)
  exact hdriven (hkept.trans (hs.released_ne hx (hport ▸ Ne.symm hne)))

theorem RelayLaw.endTxn {s : State} {x y : Txn} (hs : RelayLaw s) (hx : s.ccr.engine = some x) (hport : y.port = x.port)
    (r : RelayResult) : RelayLaw (endTxn y r s) := by
  refine State.LinesReleased.relayLaw fun p => ?_
  change (s.setWires y.port .released).wiresOf p = .released
  rw [State.setWires_wiresOf]
  split
  · rfl
  · rename_i hne
    exact hs.released_ne hx (hport ▸ hne)

theorem Ticked.relayLaw {s t : State} {x : Txn} (h : Ticked x s t) (hs : RelayLaw s) (hx : s.ccr.engine = some x) : RelayLaw t := by
  cases h with
  | stays => exact hs
  | waits y hoff =>
    have hreleased : s.LinesReleased := hs.released fun z hz => by
      cases hx.symm.trans hz
      exact hoff
    exact State.LinesReleased.relayLaw hreleased
  | goes y w hport hon => exact hs.goOn hx hport hon w
  | ends y r hport => exact hs.endTxn hx hport r

/-- Two driven ports are the connected port. -/
theorem RelayLaw.driven_eq {s : State} (hs : RelayLaw s) {p q : PortIx} (hp : s.wiresOf p ≠ .released) (hq : s.wiresOf q ≠ .released) :
    p = q := by
  obtain ⟨x, hx, hxp, -⟩ := hs p hp
  obtain ⟨y, hy, hyq, -⟩ := hs q hq
  cases hx.symm.trans hy
  exact hxp.symm.trans hyq

/-! ### SHUTTING at the relay (R182) -/

/-- A transaction on the line goes on as it is; a deferred one drives nothing when it ends. -/
theorem RelayLaw.abortMarking {s : State} (hs : RelayLaw s) : RelayLaw (abortMarking s) := by
  intro p hdriven
  obtain ⟨x, hx, hport, hon⟩ := hs p hdriven
  have hshut : x.shut s = { x with abortRest := true } := if_neg (fun hphase => by rw [hphase] at hon; cases hon)
  refine ⟨x.shut s, congrArg (Option.map _) hx, ?_, ?_⟩
  · rw [hshut]
    exact hport
  · rw [hshut]
    exact hon

theorem RelayLaw.enterShutting {s : State} (hs : RelayLaw s) : RelayLaw (enterShutting s) :=
  RelayLaw.abortMarking (hs.of_ccr rfl)

theorem RelayLaw.endEmptying {s : State} (hs : RelayLaw s) : RelayLaw (endEmptying s) := by
  unfold Machine.endEmptying
  split
  · exact hs.enterShutting
  · exact hs.of_ccr (setFactor_ccr ..)

theorem RelayLaw.beginTransition {s : State} (hs : RelayLaw s) (x : Level) : RelayLaw (beginTransition x s) := by
  unfold Machine.beginTransition
  split
  case h_2 =>
    split
    · exact hs.of_ccr (setFactor_ccr ..)
    · exact hs.enterShutting
  case h_3 => exact hs.of_ccr (dropTriggers_ccr s.trq.queue { s with lvc := _ })
  all_goals exact hs.of_ccr rfl

/-! ### The requests that come to the relay (R155, R161, R193) -/

theorem answerWriteRelay_relayLaw (r : Request) {s : State} (hs : RelayLaw s) : RelayLaw (answerWriteRelay r s).after := by
  obtain ⟨hengine, hwires⟩ : (answerWriteRelay r s).after.ccr.engine = s.ccr.engine ∧ (answerWriteRelay r s).after.ccr.wires = s.ccr.wires := by
    unfold answerWriteRelay
    dsimp only
    split_ifs <;> exact ⟨rfl, rfl⟩
  exact hs.of_lines hengine hwires

theorem answerRelay_relayLaw (r : Request) {s : State} (hs : RelayLaw s) : RelayLaw (answerRelay r s).after := by
  obtain ⟨hengine, hwires⟩ : (answerRelay r s).after.ccr.engine = s.ccr.engine ∧ (answerRelay r s).after.ccr.wires = s.ccr.wires := by
    unfold answerRelay
    split_ifs <;> exact ⟨rfl, rfl⟩
  exact hs.of_lines hengine hwires

theorem answerSetLevel_relayLaw (r : Request) {s : State} (hs : RelayLaw s) : RelayLaw (answerSetLevel r s).after := by
  unfold answerSetLevel
  split
  · exact hs
  · split
    · exact hs
    · change RelayLaw (if _ then _ else _)
      split
      · exact hs.of_ccr (setFactor_ccr ..)
      · exact hs.beginTransition _

end Sys2Proof.Machine
end

section
/-! PROOFS. Every command, and every step, keeps the law of the driven line (O58). -/

namespace Sys2Proof.Machine

/-- A row whose owner leaves CCR as it is (R149). -/
theorem takeRow_ccr (isReset : Bool) (accepts : Request → Bool) {owner : Request → State → Answer}
    (h : ∀ r s, (owner r s).after.ccr = s.ccr) (s : State) : (takeRow isReset accepts owner s).ccr = s.ccr := by
  unfold takeRow
  split
  · rfl
  · exact ite_ccr (h _ _) rfl

/-- A row whose owner keeps the law. -/
theorem takeRow_relayLaw (isReset : Bool) (accepts : Request → Bool) {owner : Request → State → Answer}
    (h : ∀ r s, RelayLaw s → RelayLaw (owner r s).after) {s : State} (hs : RelayLaw s) : RelayLaw (takeRow isReset accepts owner s) := by
  unfold takeRow
  split
  · exact hs
  · split
    · rename_i r rest _ _
      have hpopped : RelayLaw (s.popped rest) := hs.of_ccr rfl
      exact (h r _ hpopped).of_ccr rfl
    · exact hs

/-- The commands that may change CCR: the resets, the relay's own, the requests that come to it, and those that may begin SHUTTING. -/
def ofRelay : Instr → Bool
  | .powerOn | .softResetCarriedOut | .relayEngineTake | .relayTick _ _ | .deferTimeout | .stallTimeout | .relayResult | .writeRelay | .relay
  | .setLevel | .drainComplete | .drainExpiry _ => true
  | _ => false

/-- Every other command leaves CCR as it is. -/
theorem exec_ccr (i : Instr) (hi : ofRelay i = false) {s t : State} (h : exec i s = .next t) : t.ccr = s.ccr := by
  have hnext {u v : State} (hn : (Host.Outcome.next u : Host.Outcome State Fault Refusal) = .next v) (hu : u.ccr = s.ccr) :
      v.ccr = s.ccr := by
    cases hn
    exact hu
  cases i with
  | powerOn | softResetCarriedOut | relayEngineTake | relayTick | deferTimeout | stallTimeout | relayResult | writeRelay | relay | setLevel
  | drainComplete | drainExpiry => nomatch hi
  | beltTick step dir => exact hnext h ((deliverF_ccr ..).trans (beltWork_ccr step dir s))
  | stall => exact hnext h (ite_ccr (countInterval_beltStep s).ccr rfl)
  | triggerTick lines => exact hnext h (triggerTick_ccr lines s)
  | pulseEnd p => exact hnext h (ite_ccr rfl rfl)
  | rearmGapEnd p => exact hnext h (ite_ccr rfl rfl)
  | idleWord p parity value => exact hnext h (ite_ccr rfl (ite_ccr rfl (parityError_ccr p s)))
  | frameStart p parity value =>
    refine hnext h (ite_ccr rfl (ite_ccr (parityError_ccr p s) ?_))
    split
    · exact (beginFrame_ccr ..).trans ((abortFrame_ccr ..).trans (framingError_ccr p s))
    · exact (beginFrame_ccr ..).trans (framingError_ccr p s)
    · exact beginFrame_ccr ..
    · exact beginFrame_ccr ..
  | lineStart p parity value =>
    refine hnext h (ite_ccr rfl (ite_ccr (parityError_ccr p s) ?_))
    split
    · exact framingError_ccr p s
    all_goals rfl
  | data p parity value =>
    have hparity : (if parityGood parity 3 value then s else parityError p s).ccr = s.ccr := ite_ccr rfl (parityError_ccr p s)
    refine hnext h (ite_ccr rfl ?_)
    dsimp only
    split
    · exact (framingError_ccr ..).trans hparity
    · split
      · exact (takeData_ccr ..).trans hparity
      · exact hparity
    all_goals exact hparity
  | frameEnd p parity value =>
    refine hnext h (ite_ccr rfl (ite_ccr (parityError_ccr p s) ?_))
    split
    · exact framingError_ccr p s
    · split
      · exact closeFrame_ccr ..
      · rfl
    all_goals rfl
  | undefinedKindWord p kind parity value =>
    exact hnext h (ite_ccr rfl (ite_ccr (framingError_ccr p s) (parityError_ccr p s)))
  | exposureExpiry p =>
    change execExposureExpiry p s = .next t at h
    unfold execExposureExpiry at h
    split at h
    · exact hnext h rfl
    · exact hnext h (by simp)
  | cellSlot => exact hnext h (ite_ccr (takeSlot_ccr s) rfl)
  | calendarSwap => exact hnext h (ite_ccr (takeSlot_ccr s) rfl)
  | transmissionEnd => exact transmissionEnd_ccr h
  | holdExpiry => exact hnext h (takeDueExpiry_ccr s)
  | delimiterFound light => exact hnext h (ite_ccr rfl rfl)
  | lossOfLight =>
    refine hnext h ?_
    split
    · exact leaveSync_ccr s
    · rfl
    · rfl
  | badCell cell => exact hnext h (ite_ccr (takeBadCell_ccr s) rfl)
  | idleCell cell => exact hnext h (goodCell_ccr (fun _ => rfl) s)
  | hold cell => exact hnext h (goodCell_ccr (act := takeHold) (fun _ => countFlk_ccr ..) s)
  | resume cell => exact hnext h (goodCell_ccr (act := takeResume) (fun _ => ite_ccr rfl rfl) s)
  | mgmtReq cell => exact hnext h (goodCell_ccr (takeRequest_ccr _) s)
  | badOp => exact hnext h (takeRow_ccr _ _ (fun _ _ => rfl) s)
  | read => exact hnext h (takeRow_ccr _ _ answerRead_ccr s)
  | write => exact hnext h (takeRow_ccr _ _ answerWritePlain_ccr s)
  | writeBelt => exact hnext h (takeRow_ccr _ _ answerWriteBelt_ccr s)
  | writeTrigger => exact hnext h (takeRow_ccr _ _ answerWriteTrigger_ccr s)
  | writeSensor => exact hnext h (takeRow_ccr _ _ answerWriteSensor_ccr s)
  | writePort => exact hnext h (takeRow_ccr _ _ answerWritePort_ccr s)
  | writeEvent => exact hnext h (takeRow_ccr _ _ answerWriteEvent_ccr s)
  | writeCal => exact hnext h (takeRow_ccr _ _ answerWriteCal_ccr s)
  | readCounters => exact hnext h (takeRow_ccr _ _ answerReadCounters_ccr s)
  | clearEvents => exact hnext h (takeRow_ccr _ _ answerClearEvents_ccr s)
  | openStream => exact hnext h (takeRow_ccr _ _ (streamCmd_ccr answerOpen_ccr) s)
  | closeStream => exact hnext h (takeRow_ccr _ _ (streamCmd_ccr answerClose_ccr) s)
  | flushStream => exact hnext h (takeRow_ccr _ _ (streamCmd_ccr answerFlush_ccr) s)
  | enablePort => exact hnext h (takeRow_ccr _ _ (portCmd_ccr enableSteps_ccr) s)
  | disablePort => exact hnext h (takeRow_ccr _ _ (portCmd_ccr disableSteps_ccr) s)
  | calSwap => exact hnext h (takeRow_ccr _ _ answerCalSwap_ccr s)
  | beltPreset => exact hnext h (takeRow_ccr _ _ answerBeltPreset_ccr s)
  | status => exact hnext h (takeRow_ccr _ _ (fun _ _ => rfl) s)
  | softReset => exact hnext h (takeRow_ccr _ _ (fun _ _ => rfl) s)
  | settleExpiry => exact hnext h (ite_ccr ((setFactor_ccr ..).trans (settlePorts_ccr _ { s with lvc := _ })) rfl)
  | shuttingEnd order => exact hnext h (ite_ccr (shutPorts_ccr order s) rfl)
  | referenceClockPeriod => exact hnext h rfl

/-! ### The relay's own commands (R168-R180) -/

/-- The engine takes a request only while it drives no line. -/
theorem relayEngineTake_relayLaw {s t : State} (hs : RelayLaw s) (h : exec .relayEngineTake s = .next t) : RelayLaw t := by
  change execRelayEngineTake s = .next t at h
  unfold execRelayEngineTake at h
  split at h
  · rename_i hidle _
    cases h
    exact State.LinesReleased.relayLaw (hs.released fun x hx => nomatch hidle.symm.trans hx)
  · cases h
    exact hs

theorem relayTick_relayLaw {clk dat : Bool} {s t : State} (hs : RelayLaw s) (h : exec (.relayTick clk dat) s = .next t) : RelayLaw t := by
  change execRelayTick clk dat s = .next t at h
  unfold execRelayTick at h
  split at h
  · cases h
    exact hs
  · rename_i x hx
    cases h
    exact (txnTick_ticked clk dat x s).relayLaw hs hx

theorem deferTimeout_relayLaw {s t : State} (hs : RelayLaw s) (h : exec .deferTimeout s = .next t) : RelayLaw t := by
  change execDeferTimeout s = .next t at h
  unfold execDeferTimeout at h
  split at h
  · cases h
    exact hs
  · rename_i x hx
    cases h
    exact (Ticked.ite (.ends x .deferTimeout rfl) .stays).relayLaw hs hx

theorem stallTimeout_relayLaw {s t : State} (hs : RelayLaw s) (h : exec .stallTimeout s = .next t) : RelayLaw t := by
  change execStallTimeout s = .next t at h
  unfold execStallTimeout at h
  split at h
  · cases h
    exact hs
  · rename_i x hx
    split at h
    · cases h
      exact hs
    · rename_i ph _
      cases h
      exact (Ticked.ite (.ends x (x.stallResult ph) rfl) .stays).relayLaw hs hx

/-- The result of a transaction in REPORT, which drives no line. -/
theorem relayResult_relayLaw {s t : State} (hs : RelayLaw s) (h : exec .relayResult s = .next t) : RelayLaw t := by
  change execRelayResult s = .next t at h
  unfold execRelayResult at h
  split at h
  · cases h
    exact hs
  · rename_i x hx
    cases h
    split
    · rename_i hready
      obtain ⟨hreport, -⟩ := hready
      have hreleased : s.LinesReleased := hs.released fun y hy => by
        cases hx.symm.trans hy
        rw [hreport]
        rfl
      exact State.LinesReleased.relayLaw hreleased
    · exact hs

/-- Both resets release every line (R183). -/
theorem softResetAll_relayLaw (s : State) : RelayLaw (softResetAll s) := by
  refine State.LinesReleased.relayLaw fun p => ?_
  rw [softResetAll_eq, setFactor_wiresOf]
  exact softResetBlocks_wiresOf s p

/-! ### Every command and every step -/

/-- Each command keeps the law: those that may change CCR one by one. -/
theorem exec_relayLaw (i : Instr) {s t : State} (hs : RelayLaw s) (h : exec i s = .next t) : RelayLaw t := by
  have hnext {u : State} (hn : (Host.Outcome.next u : Host.Outcome State Fault Refusal) = .next t) (hu : RelayLaw u) : RelayLaw t := by
    cases hn
    exact hu
  have hguarded {c : Prop} [Decidable c] {u : State} (hu : RelayLaw u) : RelayLaw (if c then u else s) := by
    split
    · exact hu
    · exact hs
  cases i with
  | powerOn => exact hnext h (relayLaw_reset.of_ccr rfl)
  | softResetCarriedOut => exact hnext h (hguarded (softResetAll_relayLaw s))
  | relayEngineTake => exact relayEngineTake_relayLaw hs h
  | relayTick clk dat => exact relayTick_relayLaw hs h
  | deferTimeout => exact deferTimeout_relayLaw hs h
  | stallTimeout => exact stallTimeout_relayLaw hs h
  | relayResult => exact relayResult_relayLaw hs h
  | writeRelay => exact hnext h (takeRow_relayLaw _ _ (fun r _ => answerWriteRelay_relayLaw r) hs)
  | relay => exact hnext h (takeRow_relayLaw _ _ (fun r _ => answerRelay_relayLaw r) hs)
  | setLevel => exact hnext h (takeRow_relayLaw _ _ (fun r _ => answerSetLevel_relayLaw r) hs)
  | drainComplete => exact hnext h (hguarded hs.endEmptying)
  | drainExpiry order =>
    have hforced : RelayLaw (setFactor .ctlLevelForced (forPorts order forcePort s)) :=
      hs.of_ccr ((setFactor_ccr ..).trans (forcePorts_ccr order s))
    exact hnext h (hguarded hforced.endEmptying)
  | _ => exact hs.of_ccr (exec_ccr _ rfl h)

/-- Settles O58: every command keeps the law, and by the law a driven port is the connected one. -/
theorem oneLineDriven : Obligations.OneLineDriven := by
  intro s t hlaw hstep
  have hkept : RelayLaw t := by
    unfold step at hstep
    split at hstep
    · cases hstep
      exact hlaw
    · rename_i c rest _
      exact exec_relayLaw c (s := { s with pending := rest }) (hlaw.of_ccr rfl) hstep
  exact ⟨hkept, fun _ _ => hkept.driven_eq⟩

end Sys2Proof.Machine
end

section
/-! PROOFS. What a step does, by the queue of waiting commands (O1). -/

namespace Sys2Proof.Machine

/-- An empty queue: the part idles. -/
theorem step_of_pending_nil {s : State} (h : s.pending = []) : step s = .next s := by
  unfold step
  rw [h]

/-- Commands wait first in, first out: the front one is taken off the queue, then carried out (log 5). -/
theorem step_of_pending_cons {c : Instr} {rest : List Instr} {s : State} (h : s.pending = c :: rest) :
    step s = exec c { s with pending := rest } := by
  unfold step
  rw [h]

/-- Settles O1, by the two shapes of the queue. -/
theorem stepRunsFrontCommand : Obligations.StepRunsFrontCommand :=
  ⟨fun _ _ _ => step_of_pending_cons, fun _ => step_of_pending_nil⟩

end Sys2Proof.Machine
end
